-- ==== Sys2Proof/Word.lean ====
section
/-! DEFINITION. The word types of the model: a byte of a serial line and a face number. -/

namespace Sys2Proof

/-- A byte on the yard line or on the panel link (12_wire_formats.md). -/
abbrev Byte := BitVec 8

/-- A face number, 0 to 3 (00_scope.md 6.4). -/
abbrev FaceId := Fin 4

end Sys2Proof
end

