-- ==== Sys2Proof/Config.lean ====
section
/-! DEFINITION. What is fixed while the station runs: the configuration block's settings (12.4), and the free values
that the manual leaves open, as constants without a body. -/

namespace Sys2Proof

/-- One value for each of the four faces. -/
structure PerFace (α : Type) where
  f0 : α
  f1 : α
  f2 : α
  f3 : α
deriving DecidableEq, Repr, Inhabited

/-- The ten alarm flags, in the order of the flag table of 10.4. -/
inductive AlarmId where
  | plumeUncovered
  | prewetMissed
  | cannonFault
  | duplicateNode
  | supplyStale
  | freshExhausted
  | windLost
  | forecastStale
  | lineIsolated
  | configAbsent
deriving DecidableEq, Repr, Inhabited

/-- One value for each of the ten alarm flags. -/
structure PerFlag (α : Type) where
  plumeUncovered : α
  prewetMissed : α
  cannonFault : α
  duplicateNode : α
  supplyStale : α
  freshExhausted : α
  windLost : α
  forecastStale : α
  lineIsolated : α
  configAbsent : α
deriving DecidableEq, Repr, Inhabited

/-- The service mode of the Spray Queue (R69). -/
inductive ServiceMode where
  | fixed
  | rotate
deriving DecidableEq, Repr, Inhabited

/-- A turn of the cannon. -/
inductive Direction where
  | clockwise
  | anticlockwise
deriving DecidableEq, Repr, Inhabited

/-- What step 8 records (R38). -/
inductive SizingOutcome where
  | added
  | updated
  | refused
  | skipped
  | held
  | removed
  | none
deriving DecidableEq, Repr, Inhabited

/-- A face description: the 17 configured fields of one face (2.1, 12.4). -/
structure FaceDesc where
  enabled : Bool
  normal : Nat
  arcStart : Nat
  arcEnd : Nat
  centreX : Nat
  centreY : Nat
  area : Nat
  kd : Nat
  kw : Nat
  km : Nat
  wt0 : Nat
  mg : Nat
  msat : Nat
  mInit : Nat
  radius : Nat
  ka : Nat
  contact : Bool
deriving DecidableEq, Repr, Inhabited

/-- The configuration block, fields 1 to 116 in the order of 12.4. -/
structure Configuration where
  forecastNode : Nat
  supplyNode : Nat
  x : Nat
  y : Nat
  acwStop : Nat
  cwStop : Nat
  nozzle : Nat
  period : Nat
  tOn : Nat
  tOnMin : Nat
  quantum : Nat
  drainTime : Nat
  primingTime : Nat
  standbyCount : Nat
  slewTimeout : Nat
  noFlowTime : Nat
  wCut : Nat
  settleTime : Nat
  fallbackCapacity : Nat
  pondReserve : Nat
  pMin : Nat
  fallbackWind : Nat
  lElev : Nat
  lExc : Nat
  recoveryTime : Nat
  responseWindow : Nat
  beta : Nat
  dMax : Nat
  vKnock : Nat
  relaySet : PerFlag Bool
  tWatch : Nat
  tAct : Nat
  hyst : Nat
  vMin : Nat
  vMaxDose : Nat
  prewetLead : Nat
  supervisor : Nat
  mode : ServiceMode
  faces : PerFace FaceDesc
  firstFace : FaceId
deriving DecidableEq, Repr, Inhabited

/-- What a block reads for its settings while no valid configuration is stored. The manual gives no settings then, so
nothing is known of them. DESIGN CHOICE (log 9), safe: a claim that rests on one of these settings cannot be proved. -/
opaque Config.unset : Configuration

/-- Which of several expiries due at one moment is taken first, by the count of free values drawn. DESIGN CHOICE
(log 2), safe: every order of the manual's "either order" is one value of it. -/
opaque Config.freeOrder : Nat → Nat

/-- The direction in which a slew turns where R76 does not settle it. DESIGN CHOICE (log 13), safe. -/
opaque Config.freeTurn : Nat → Direction

/-- The requested litres that a removal record shows where the completion reduction takes more than was asked (R62,
R70). DESIGN CHOICE (log 14), safe. -/
opaque Config.freeLitres : Nat → Nat

/-- What step 8 leaves in last sizing, volume and outcome, for a QUIET face whose SUPPRESS entry is running, where R36
states none. DESIGN CHOICE (log 31), safe. -/
opaque Config.freeSizing : Nat → Option Nat × SizingOutcome

end Sys2Proof
end

