-- ==== Sys2Proof/Syntax.lean ====
section
/-! DEFINITION. The commands of the block: one constructor per row of spec/opcode_table.json, in the table's order. -/

namespace Sys2Proof

/-- A command: an arrival on a field line, on the yard line or on the panel link, or the expiry of a timer.
The operands are what the rule of the row says the arrival carries. -/
inductive Instr where
  /-- POWER_ON (R179), with the level of the node-number straps and of the commissioning key. -/
  | powerOn (straps : Fin 64) (key : Bool)
  /-- ANEMOMETER_SAMPLE (R3), with the readings of speed and bearing as the interface gives them. -/
  | anemometerSample (speed bearing : Int)
  /-- MINUTE_CLOSE (R4). -/
  | minuteClose
  /-- EVALUATION (R24). -/
  | evaluation
  /-- RAIN_PULSE (R21). -/
  | rainPulse
  /-- FLOW_PULSE (R81): one litre. -/
  | flowPulse
  /-- ENCODER_REPORT (R76), with the cannon's bearing in whole degrees. -/
  | encoderReport (bearing : Fin 360)
  /-- DUST_READING (R117), with the monitor's reading. -/
  | dustReading (value : Int)
  /-- READING_WATCH_EXPIRY (R118). -/
  | readingWatchExpiry
  /-- PRESSURE_READING (R108), with the header pressure in 0.1 bar. -/
  | pressureReading (pressure : Nat)
  /-- FIRST_STAGE (R108). -/
  | firstStage
  /-- SECOND_STAGE (R109). -/
  | secondStage
  /-- COMMISSIONING_KEY_RELEASE (R181). -/
  | commissioningKeyRelease
  /-- COMMISSIONING_WINDOW_EXPIRY (R181). -/
  | commissioningWindowExpiry
  /-- LISTEN_TIMER_EXPIRY (R183). -/
  | listenTimerExpiry
  /-- STATUS_FRAME (R140): sender node and payload bytes of the frame. -/
  | statusFrame (sender : Nat) (payload : List Byte)
  /-- CLAIM_FRAME (R99). -/
  | claimFrame (sender : Nat) (payload : List Byte)
  /-- RELEASE_FRAME (R99). -/
  | releaseFrame (sender : Nat) (payload : List Byte)
  /-- PLUME_FRAME (R126). -/
  | plumeFrame (sender : Nat) (payload : List Byte)
  /-- COVER_FRAME (R131). -/
  | coverFrame (sender : Nat) (payload : List Byte)
  /-- WIND_FRAME (R141). -/
  | windFrame (sender : Nat) (payload : List Byte)
  /-- FORECAST_FRAME (R12). -/
  | forecastFrame (sender : Nat) (payload : List Byte)
  /-- SUPPLY_FRAME (R95). -/
  | supplyFrame (sender : Nat) (payload : List Byte)
  /-- MACHINE_FRAME (R142). -/
  | machineFrame (sender : Nat) (payload : List Byte)
  /-- DUPLICATE (R152): an accepted frame with the station's own node number that the station did not send. -/
  | duplicate
  /-- FRAME_BROKEN (R150). -/
  | frameBroken
  /-- ACCESS_GAP (R157). -/
  | accessGap
  /-- COLLISION (R159). -/
  | collision
  /-- BACKOFF_EXPIRY (R159). -/
  | backoffExpiry
  /-- TRANSMISSION_COMPLETES (R158). -/
  | transmissionCompletes
  /-- READ (R172): selector, part, and for PEERS the first and last node of the range. -/
  | read (selector part first last : Nat)
  /-- CONFIGURE (R182), with the bytes of the configuration block. -/
  | configure (block : List Byte)
  /-- LOCK (R165): code and level byte. -/
  | lock (code level : Nat)
  /-- UNLOCK (R167): code. -/
  | unlock (code : Nat)
  /-- ACK_ALARMS (R176). -/
  | ackAlarms
  /-- CLEAR_FAULT (R171). -/
  | clearFault
  /-- RESTART (R186). -/
  | restart
  /-- TEST_SPRAY (R173): face byte and volume. -/
  | testSpray (face volume : Nat)
  /-- PANEL_UNKNOWN_COMMAND (R169): the command byte of the message. -/
  | panelUnknownCommand (code : Nat)
  /-- PANEL_BAD_CHECK (R169). -/
  | panelBadCheck
  /-- PANEL_MESSAGE_BROKEN (R169). -/
  | panelMessageBroken
  /-- ANSWER_SENT (R170). -/
  | answerSent
  /-- SETTLE_EXPIRY (R102). -/
  | settleExpiry
  /-- CLAIM_REFRESH (R106). -/
  | claimRefresh
  /-- ON_TIMER_EXPIRY (R78). -/
  | onTimerExpiry
  /-- PERIOD_TIMER_EXPIRY (R78). -/
  | periodTimerExpiry
  /-- NO_FLOW_EXPIRY (R85). -/
  | noFlowExpiry
  /-- SLEW_TIMEOUT (R76). -/
  | slewTimeout
  /-- PRIMING_EXPIRY (R75). -/
  | primingExpiry
  /-- DRAIN_EXPIRY (R91). -/
  | drainExpiry
  /-- STANDBY_EXPIRY (R73). -/
  | standbyExpiry
  /-- FAULT_HOLD_EXPIRY (R66): the face whose hold timer expires. -/
  | faultHoldExpiry (face : FaceId)
  /-- DEADLINE (R64): local time reaches the deadline of one or more PREWET entries. -/
  | deadline
  /-- SUPPLY_STALE_EXPIRY (R96). -/
  | supplyStaleExpiry
  /-- STALE_ROLLOVER (R113). -/
  | staleRollover
  /-- SLOT_END (R15). -/
  | slotEnd
  /-- FORECAST_STALE_EXPIRY (R16). -/
  | forecastStaleExpiry
  /-- PLUME_REFRESH (R124). -/
  | plumeRefresh
  /-- RECOVERY_EXPIRY (R122). -/
  | recoveryExpiry
  /-- RESPONSE_WINDOW_EXPIRY (R132). -/
  | responseWindowExpiry
  /-- PENDING_ANSWER_EXPIRY (R129): the target of the answer that has waited 600 s. -/
  | pendingAnswerExpiry (target : Nat)
  /-- SWEEP (R145). -/
  | sweep
  /-- ISOLATION_EXPIRY (R162). -/
  | isolationExpiry
  /-- STATUS_PERIOD (R161). -/
  | statusPeriod
  /-- STATUS_DUE_MARK (R161). -/
  | statusDueMark
  /-- FRAME_DISCARDED (R150): a complete frame that fails the acceptance checks. -/
  | frameDiscarded
deriving DecidableEq, Repr

end Sys2Proof
end

