-- ==== Sys2Proof/Machine/State.lean ====
section
/-! DEFINITION. The state of the station as plain data: one structure per block of 00_scope.md section 4, the queue of
waiting commands, the machine at power-on (`State.reset`), and the two closed types of the ways a step may stop. -/

namespace Sys2Proof.Machine

/-- No command of this block stops the machine: every rule gives every command an effect in every state, so there is no
fault to name. What the manual calls FAULT is a state of the cannon (R92). Safe: nothing ends in it. -/
inductive Fault where
deriving DecidableEq, Repr

/-- The one refusal the host's form asks for. Raised by no arm: every command has its meaning. Safe. -/
inductive Refusal where
  /-- Raised by an arm of exec whose command is not modelled yet; no arm raises it. Safe. -/
  | notModelled (mnemonic : String)
deriving DecidableEq, Repr

/-! ### Timers -/

/-- A timer of the station. `due` is a local time in ms, `left` a remaining time in ms. -/
inductive Timer where
  | stopped
  | running (due : Nat)
  | paused (left : Nat)
deriving DecidableEq, Repr, Inhabited

/-! ### Station Control (chapter 11) -/

/-- The station state (R179). -/
inductive Mode where
  | start
  | unconfigured
  | commission
  | listen
  | run
  | mute
deriving DecidableEq, Repr

/-- The reset cause (R187). -/
inductive ResetCause where
  | powerOn
  | restart
deriving DecidableEq, Repr

/-- Station Control (R179 to R187). `stored` is the valid configuration of the store, `config` the one that the blocks
have taken: at power-on, and afterwards at an entry into LISTEN (R181; log 36). -/
structure Station where
  mode : Mode
  node : Nat
  stored : Option Configuration
  config : Option Configuration
  cause : ResetCause
  lastReset : Nat
  listen : Timer
  window : Timer
deriving DecidableEq, Repr

/-- The input levels that the station reads rather than being told of (chapter 3 of 00_scope.md). The outside sets them
(log 5). -/
structure Pins where
  contacts : PerFace Bool
  key : Bool
  straps : Nat
deriving DecidableEq, Repr

/-- The level of a lock (10.1). -/
inductive LockLevel where
  | standard
  | strict
deriving DecidableEq, Repr

/-- The non-volatile store: the configuration block as its bytes, and the lock list if a valid one is stored. -/
structure Store where
  block : List Byte
  locks : Option (List (Nat × LockLevel))
deriving DecidableEq, Repr

/-! ### Wind Unit and Forecast Table (chapter 1) -/

/-- The accumulator of the current minute (1.1). -/
structure Accumulator where
  count : Nat
  speedSum : Nat
  largest : Nat
  first : Option Nat
  offsetSum : Int
deriving DecidableEq, Repr

/-- The wind sources of 1.2. -/
inductive WindSource where
  | localMinute
  | peer
  | held
  | fallback
deriving DecidableEq, Repr

/-- The minute wind record (R9). Times are local seconds. -/
structure WindRecord where
  speed : Nat
  gust : Nat
  bearing : Nat
  source : WindSource
  node : Option Nat
  closeTime : Option Nat
  lastFresh : Option Nat
  initial : Bool
  sampleCount : Nat
deriving DecidableEq, Repr

/-- The Wind Unit. -/
structure Wind where
  acc : Accumulator
  minute : Timer
  record : WindRecord
deriving DecidableEq, Repr

/-- A forecast slot (1.3). Times are local minutes. -/
structure Slot where
  start : Nat
  finish : Nat
  mean : Nat
  gust : Nat
  bearing : Nat
  rain : Nat
deriving DecidableEq, Repr

/-- The Forecast Table. -/
structure Forecast where
  issue : Option Nat
  arrival : Option Nat
  slots : List Slot
  staleStart : Option Nat
  stale : Bool
deriving DecidableEq, Repr

/-! ### Face Model Unit and Look-Ahead Unit (chapters 2 and 3) -/

/-- The class of a face (2.3). -/
inductive FaceClass where
  | quiet
  | watch
  | act
deriving DecidableEq, Repr

/-- A prewet result (R65). -/
inductive PrewetResult where
  | met
  | missed
deriving DecidableEq, Repr

/-- The last evaluation part of a face record (R30). -/
structure LastEval where
  time : Nat
  e : Nat
  weff : Nat
  wt : Nat
deriving DecidableEq, Repr

/-- The last sizing part of a face record (R33 to R36). -/
structure LastSizing where
  volume : Option Nat
  outcome : SizingOutcome
deriving DecidableEq, Repr

/-- A face record: the configured fields and the working fields of 2.1. -/
structure FaceRecord where
  desc : FaceDesc
  m : Nat
  rd : Nat
  rs : Nat
  pendingSpray : Nat
  pendingRain : Nat
  sprayed : Nat
  index : Nat
  cls : FaceClass
  active : Bool
  estimated : Bool
  lastPrewet : Option (PrewetResult × Nat)
  runoff : Nat
  lastEval : Option LastEval
  lastSizing : Option LastSizing
deriving DecidableEq, Repr

/-- The Face Model Unit. -/
structure FaceUnit where
  timer : Timer
  records : PerFace (Option FaceRecord)
deriving DecidableEq, Repr

/-- The outcome of a face's projection (3.7). -/
inductive LookOutcome where
  | noSlot
  | clear
  | saturated
  | skipped
  | merged
  | added
  | refused
deriving DecidableEq, Repr

/-- The look-ahead summary of a face (R51). -/
structure Summary where
  minute : Nat
  issue : Nat
  projected : Nat
  outcome : LookOutcome
  slot : Option Nat
  index : Option Nat
  moisture : Nat
  volume : Option Nat
  deadline : Option Nat
deriving DecidableEq, Repr

/-! ### Spray Queue (chapter 4) -/

/-- The demand classes, lowest rank first (4.1). -/
inductive DemandClass where
  | test
  | prewet
  | suppress
  | knockdown
deriving DecidableEq, Repr

/-- The origin of a demand (4.1). -/
inductive Origin where
  | peerNotice (node : Nat)
  | localRisk
  | lookahead
  | panel
deriving DecidableEq, Repr

/-- A demand entry (R54). -/
structure Entry where
  face : FaceId
  cls : DemandClass
  requested : Nat
  delivered : Nat
  origin : Origin
  enqueue : Nat
  deadline : Option Nat
  reached : Bool
  attempts : Nat
  running : Bool
deriving DecidableEq, Repr

/-- Why an entry was removed (R70). -/
inductive RemovalReason where
  | satisfied
  | evicted
  | withdrawn
  | deadline
  | attempts
deriving DecidableEq, Repr

/-- The last removal record (R70). -/
structure Removal where
  face : FaceId
  cls : DemandClass
  origin : Origin
  requested : Nat
  delivered : Nat
  deadline : Option Nat
  time : Nat
  reason : RemovalReason
deriving DecidableEq, Repr

/-- The Spray Queue. -/
structure SprayQueue where
  entries : List Entry
  rotation : List FaceId
  holds : PerFace Timer
  request : Bool
  lastRemoval : Option Removal
deriving DecidableEq, Repr

/-! ### Cannon Controller (chapter 5) -/

/-- The nine cannon states (R72). -/
inductive CannonState where
  | parked
  | standby
  | priming
  | slewing
  | claiming
  | spraying
  | draining
  | locked
  | fault
deriving DecidableEq, Repr

/-- The five cannon state classes (R72). -/
inductive CannonClass where
  | ready
  | busy
  | spraying
  | locked
  | fault
deriving DecidableEq, Repr

/-- The stop causes (R93). -/
inductive Cause where
  | complete
  | preempted
  | yielded
  | pressure
  | noFlow
  | windCut
  | source
  | lockout
  | driveFault
  | duplicate
  | restart
deriving DecidableEq, Repr

/-- The active chain (R74). `remaining` is r, `quantum` is Q, `basis` the entry's enqueue time, `sweep` the direction
the drive held when it last swept (R80). -/
structure Chain where
  face : FaceId
  cls : DemandClass
  origin : Origin
  basis : Nat
  requested : Nat
  remaining : Nat
  planned : Nat
  quantum : Nat
  start : Nat
  index : Nat
  completed : Nat
  segment : Nat
  litres : Nat
  valveOpened : Bool
  waiting : Bool
  sweep : Direction
deriving DecidableEq, Repr

/-- A spray record (R93). -/
structure SprayRecord where
  serial : Nat
  face : FaceId
  cls : DemandClass
  origin : Origin
  requested : Nat
  delivered : Nat
  planned : Nat
  completed : Nat
  firstFailed : Option Nat
  cause : Cause
  start : Nat
  finish : Nat
deriving DecidableEq, Repr

/-- The Cannon Controller: its state, its three outputs, the chain, the timers and the log. -/
structure Cannon where
  state : CannonState
  primed : Bool
  branchOpen : Bool
  valveOpen : Bool
  drive : Option Direction
  bearing : Option Nat
  chain : Option Chain
  chargeFace : Option FaceId
  noFlowCount : Nat
  onTime : Option Nat
  openedAt : Nat
  period : Timer
  on : Timer
  slew : Timer
  priming : Timer
  drain : Timer
  standby : Timer
  noFlow : Timer
  log : List SprayRecord
  nextSerial : Nat
deriving DecidableEq, Repr

/-! ### Water Claim Unit and Water Account (chapter 6) -/

/-- The water source (6.1). -/
inductive WaterSource where
  | reuse
  | fresh
deriving DecidableEq, Repr

/-- The supply state (6.1). -/
structure Supply where
  capacity : Option Nat
  source : WaterSource
  pond : Option Nat
  day : Option Nat
  allowance : Nat
  lastArrival : Option Nat
  staleTimer : Timer
  stale : Bool
deriving DecidableEq, Repr

/-- The states of the own claim (R98). -/
inductive ClaimState where
  | none
  | settling
  | deferred
  | granted
  | throttled
deriving DecidableEq, Repr

/-- The own claim record (R98) with the timers of R101 and R106. `qg` is q_g and `tHeld` is T'. -/
structure OwnClaim where
  state : ClaimState
  cls : Option DemandClass
  basis : Option Nat
  serial : Option Nat
  nextSerial : Nat
  qg : Nat
  tHeld : Option Nat
  ceiling : Option Nat
  sent : Bool
  lastAnnounce : Option Nat
  settle : Timer
  refresh : Timer
deriving DecidableEq, Repr

/-- The Water Claim Unit: supply state, own claim and pressure watch (R108, R109). -/
structure ClaimUnit where
  supply : Supply
  own : OwnClaim
  pressure : Option Nat
  lowSince : Option Nat
  stageAt : Option Nat
  staged : Bool
deriving DecidableEq, Repr

/-- A day record (R110). -/
structure DayRecord where
  day : Option Nat
  allowance : Nat
  reuse : Nat
  fresh : Nat
  knockdown : Nat
  runoff : Nat
deriving DecidableEq, Repr

/-- The Water Account. -/
structure Account where
  today : DayRecord
  yesterday : DayRecord
  dayStart : Nat
deriving DecidableEq, Repr

/-! ### Dust Watch Unit (chapter 7) -/

/-- The exceedance states (7.2). -/
inductive Exceedance where
  | clear
  | elevated
  | exceed
  | recovering
deriving DecidableEq, Repr

/-- The answers to a notice (R128). -/
inductive CoverAnswer where
  | queued
  | noFace
  | locked
  | fault
  | windCut
deriving DecidableEq, Repr

/-- An entry of the cover list (R131). -/
structure CoverEntry where
  responder : Nat
  answer : CoverAnswer
  count : Nat
  time : Nat
deriving DecidableEq, Repr

/-- A pending answer (R129). -/
structure PendingAnswer where
  target : Nat
  serial : Nat
  answer : CoverAnswer
  count : Nat
  formed : Nat
deriving DecidableEq, Repr

/-- The Dust Watch Unit. -/
structure Dust where
  window : List Nat
  mean : Option Nat
  watch : Timer
  silent : Bool
  level : Exceedance
  count : Nat
  recovery : Timer
  refresh : Timer
  response : Timer
  serial : Option Nat
  nextSerial : Nat
  announce : Bool
  cover : List CoverEntry
  covered : Bool
  coverage : Option Nat
  uncovered : Bool
  answers : List PendingAnswer
deriving DecidableEq, Repr

/-! ### Peer Map (chapter 8) -/

/-- The kind of a member (R136). -/
inductive MemberKind where
  | station
  | mast
  | supply
  | machine
deriving DecidableEq, Repr

/-- The station summary of a peer (R140). -/
structure StationSummary where
  cannonClass : CannonClass
  locked : Bool
  level : Exceedance
  serial : Option Nat
  faces : PerFace FaceClass
  runoff : Nat
  fresh : Nat
deriving DecidableEq, Repr

/-- A wind report of a peer (R136). -/
structure WindReport where
  speed : Nat
  bearing : Nat
  arrival : Nat
deriving DecidableEq, Repr

/-- The claim part of a peer (R99). -/
structure ClaimPart where
  cls : DemandClass
  flow : Nat
  wait : Nat
  serial : Nat
  announce : Nat
deriving DecidableEq, Repr

/-- A present entry of the Peer Map (R136). `machine` is the working flag of the machine part. -/
structure Peer where
  node : Nat
  kind : MemberKind
  position : Option (Nat × Nat)
  heard : Nat
  summary : Option StationSummary
  wind : Option WindReport
  claim : Option ClaimPart
  acted : Option Nat
  machine : Option Bool
deriving DecidableEq, Repr

/-- The Peer Map: the present entries in rising node number, and the sweep timer. -/
structure PeerMap where
  entries : List Peer
  sweep : Timer
deriving DecidableEq, Repr

/-! ### Line Controller (chapter 9) -/

/-- The content of a STATUS frame (9.4). -/
structure StatusContent where
  x : Nat
  y : Nat
  cannonClass : CannonClass
  locked : Bool
  level : Exceedance
  serial : Option Nat
  faces : PerFace FaceClass
  runoff : Nat
  fresh : Nat
  wind : Option (Nat × Nat)
deriving DecidableEq, Repr

/-- The content of a frame of the station's own. `formed` of a COVER is the time its answer was formed (R129), which is
not carried on the line. -/
inductive Content where
  | status (c : StatusContent)
  | claim (serial : Nat) (cls : DemandClass) (flow wait : Nat)
  | release (serial : Nat)
  | plume (x y theta mean serial : Nat)
  | cover (target serial : Nat) (answer : CoverAnswer) (count formed : Nat)
deriving DecidableEq, Repr

/-- The originator of a queued frame (R153). -/
inductive Originator where
  | stationControl
  | waterClaim
  | dustWatch
deriving DecidableEq, Repr

/-- A place of the transmit queue (R153). Kind, urgency and serial are read from the content. -/
structure TxFrame where
  content : Content
  originator : Originator
  queueTime : Nat
  attempts : Nat
  inTx : Bool
  noRetry : Bool
deriving DecidableEq, Repr

/-- The access states (9.3). -/
inductive Access where
  | idle
  | waiting
  | sending
  | backoff
deriving DecidableEq, Repr

/-- The Line Controller. `left` is the model's own mark of the arrival in hand (log 10). -/
structure Line where
  access : Access
  queue : List TxFrame
  backoff : Timer
  quietSince : Nat
  busy : Bool
  partialFrame : List Byte
  period : Timer
  spacing : Timer
  lastStatus : Option Nat
  due : Bool
  refused : Bool
  left : Bool
  isolation : Timer
  isolated : Bool
  duplicate : Bool
deriving DecidableEq, Repr

/-! ### Lockout Unit, Alarm Unit and Panel Link (chapter 10) -/

/-- A lock (10.1). -/
structure Lock where
  code : Nat
  level : LockLevel
  time : Option Nat
deriving DecidableEq, Repr

/-- The Lockout Unit. -/
structure Lockout where
  locks : List Lock
  attempts : Nat
deriving DecidableEq, Repr

/-- The state of an alarm flag (10.4). -/
inductive FlagState where
  | idle
  | raised
  | acked
deriving DecidableEq, Repr

/-- An alarm flag (10.4). `cond` is the present value of a condition flag's condition. -/
structure Flag where
  state : FlagState
  again : Bool
  raisedTime : Option Nat
  cond : Bool
deriving DecidableEq, Repr

/-- The Alarm Unit. -/
structure Alarms where
  flags : PerFlag Flag
  relay : Bool
deriving DecidableEq, Repr

/-- An answer of the panel link: the command code it repeats and its payload, the answer code first (12.3). -/
structure PanelAnswer where
  command : Nat
  payload : List Byte
deriving DecidableEq, Repr

/-- The Panel Link (R169, R170). `heard` is when the last byte of the message in reception came, in ms (log 5). -/
structure Panel where
  answer : Option PanelAnswer
  busy : Option Nat
  partialMessage : List Byte
  heard : Nat
deriving DecidableEq, Repr

/-! ### The whole station -/

/-- The state of the station. `now` is local time in ms, `free` counts the free values drawn (log 2), `pending` is the
queue of waiting commands, first in, first out. -/
structure State where
  now : Nat
  station : Station
  pins : Pins
  store : Store
  wind : Wind
  forecast : Forecast
  face : FaceUnit
  look : PerFace (Option Summary)
  queue : SprayQueue
  cannon : Cannon
  claim : ClaimUnit
  account : Account
  dust : Dust
  peers : PeerMap
  line : Line
  lockout : Lockout
  alarms : Alarms
  panel : Panel
  free : Nat
  pending : List Instr
deriving DecidableEq, Repr

/-! ### Power-on values -/

/-- The empty accumulator (1.1). -/
def Accumulator.empty : Accumulator :=
  { count := 0, speedSum := 0, largest := 0, first := none, offsetSum := 0 }

/-- The Wind Unit at power-on with a given fallback wind speed (R11). -/
def Wind.powerOn (fallbackSpeed : Nat) : Wind :=
  { acc := Accumulator.empty
    minute := .stopped
    record :=
      { speed := fallbackSpeed, gust := fallbackSpeed, bearing := 0, source := .fallback, node := none,
        closeTime := none, lastFresh := none, initial := true, sampleCount := 0 } }

/-- A day record with every count 0 (R116). -/
def DayRecord.empty : DayRecord :=
  { day := none, allowance := 0, reuse := 0, fresh := 0, knockdown := 0, runoff := 0 }

/-- The Spray Queue at power-on (R71). -/
def SprayQueue.powerOn : SprayQueue :=
  { entries := [], rotation := [0, 1, 2, 3], holds := ⟨.stopped, .stopped, .stopped, .stopped⟩, request := false,
    lastRemoval := none }

/-- The Cannon Controller at power-on (R94). -/
def Cannon.powerOn : Cannon :=
  { state := .parked, primed := false, branchOpen := true, valveOpen := false, drive := none, bearing := none,
    chain := none, chargeFace := none, noFlowCount := 0, onTime := none, openedAt := 0, period := .stopped,
    on := .stopped, slew := .stopped, priming := .stopped, drain := .stopped, standby := .stopped,
    noFlow := .stopped, log := [], nextSerial := 0 }

/-- The own claim at power-on (R98). -/
def OwnClaim.powerOn : OwnClaim :=
  { state := .none, cls := none, basis := none, serial := none, nextSerial := 0, qg := 0, tHeld := none,
    ceiling := none, sent := false, lastAnnounce := none, settle := .stopped, refresh := .stopped }

/-- The Water Claim Unit at power-on (6.1, R98, R116). -/
def ClaimUnit.powerOn : ClaimUnit :=
  { supply :=
      { capacity := none, source := .reuse, pond := none, day := none, allowance := 0, lastArrival := none,
        staleTimer := .stopped, stale := false }
    own := OwnClaim.powerOn
    pressure := none, lowSince := none, stageAt := none, staged := false }

/-- The Dust Watch Unit at power-on (R134). -/
def Dust.powerOn : Dust :=
  { window := [], mean := none, watch := .stopped, silent := false, level := .clear, count := 0,
    recovery := .stopped, refresh := .stopped, response := .stopped, serial := none, nextSerial := 0,
    announce := false, cover := [], covered := false, coverage := none, uncovered := false, answers := [] }

/-- The Line Controller at power-on (R163). -/
def Line.powerOn : Line :=
  { access := .idle, queue := [], backoff := .stopped, quietSince := 0, busy := false, partialFrame := [],
    period := .stopped, spacing := .stopped, lastStatus := none, due := false, refused := false, left := false,
    isolation := .stopped, isolated := false, duplicate := false }

/-- A flag at power-on (R178). -/
def Flag.powerOn : Flag :=
  { state := .idle, again := false, raisedTime := none, cond := false }

/-- The Alarm Unit at power-on (R177, R178). -/
def Alarms.powerOn : Alarms :=
  { flags := ⟨.powerOn, .powerOn, .powerOn, .powerOn, .powerOn, .powerOn, .powerOn, .powerOn, .powerOn, .powerOn⟩
    relay := false }

/-- The machine at power-on: START, every block at the value its chapter gives, before POWER_ON reads the straps, the
store and the key (R179). What the spec gives no value for is named in log 5 and log 6. -/
def State.reset : State :=
  { now := 0
    station :=
      { mode := .start, node := 0, stored := none, config := none, cause := .powerOn, lastReset := 0,
        listen := .stopped, window := .stopped }
    pins := { contacts := ⟨false, false, false, false⟩, key := false, straps := 0 }
    store := { block := [], locks := none }
    wind := Wind.powerOn 0
    forecast := { issue := none, arrival := none, slots := [], staleStart := none, stale := false }
    face := { timer := .stopped, records := ⟨none, none, none, none⟩ }
    look := ⟨none, none, none, none⟩
    queue := SprayQueue.powerOn
    cannon := Cannon.powerOn
    claim := ClaimUnit.powerOn
    account := { today := DayRecord.empty, yesterday := DayRecord.empty, dayStart := 0 }
    dust := Dust.powerOn
    peers := { entries := [], sweep := .stopped }
    line := Line.powerOn
    lockout := { locks := [], attempts := 5 }
    alarms := Alarms.powerOn
    panel := { answer := none, busy := none, partialMessage := [], heard := 0 }
    free := 0
    pending := [] }

/-! ### One setter per field

Every update of the state goes through one of these, so that a proof rewrites with the lemmas of
Sys2Proof/Laws/State.lean and never unfolds a record update. -/

/-- The state with its field `now` replaced. -/
def State.setNow (s : State) (v : Nat) : State := { s with now := v }

/-- The state with its field `station` replaced. -/
def State.setStation (s : State) (v : Station) : State := { s with station := v }

/-- The state with its field `pins` replaced. -/
def State.setPins (s : State) (v : Pins) : State := { s with pins := v }

/-- The state with its field `store` replaced. -/
def State.setStore (s : State) (v : Store) : State := { s with store := v }

/-- The state with its field `wind` replaced. -/
def State.setWind (s : State) (v : Wind) : State := { s with wind := v }

/-- The state with its field `forecast` replaced. -/
def State.setForecast (s : State) (v : Forecast) : State := { s with forecast := v }

/-- The state with its field `face` replaced. -/
def State.setFace (s : State) (v : FaceUnit) : State := { s with face := v }

/-- The state with its field `look` replaced. -/
def State.setLook (s : State) (v : PerFace (Option Summary)) : State := { s with look := v }

/-- The state with its field `queue` replaced. -/
def State.setQueue (s : State) (v : SprayQueue) : State := { s with queue := v }

/-- The state with its field `cannon` replaced. -/
def State.setCannon (s : State) (v : Cannon) : State := { s with cannon := v }

/-- The state with its field `claim` replaced. -/
def State.setClaim (s : State) (v : ClaimUnit) : State := { s with claim := v }

/-- The state with its field `account` replaced. -/
def State.setAccount (s : State) (v : Account) : State := { s with account := v }

/-- The state with its field `dust` replaced. -/
def State.setDust (s : State) (v : Dust) : State := { s with dust := v }

/-- The state with its field `peers` replaced. -/
def State.setPeers (s : State) (v : PeerMap) : State := { s with peers := v }

/-- The state with its field `line` replaced. -/
def State.setLine (s : State) (v : Line) : State := { s with line := v }

/-- The state with its field `lockout` replaced. -/
def State.setLockout (s : State) (v : Lockout) : State := { s with lockout := v }

/-- The state with its field `alarms` replaced. -/
def State.setAlarms (s : State) (v : Alarms) : State := { s with alarms := v }

/-- The state with its field `panel` replaced. -/
def State.setPanel (s : State) (v : Panel) : State := { s with panel := v }

/-- The state with its field `free` replaced. -/
def State.setFree (s : State) (v : Nat) : State := { s with free := v }

/-- The state with its field `pending` replaced. -/
def State.setPending (s : State) (v : List Instr) : State := { s with pending := v }

end Sys2Proof.Machine
end

