-- ==== Sys2Proof/Machine/Ops.lean ====
section
/-! DEFINITION. Shared operations: access to per-face and per-flag values, timers, local time, the arithmetic of
00_scope.md section 6.3, and the settings in force. -/

namespace Sys2Proof

/-- The value of one face. -/
def PerFace.get {α : Type} (p : PerFace α) (f : FaceId) : α :=
  match f with
  | 0 => p.f0
  | 1 => p.f1
  | 2 => p.f2
  | 3 => p.f3

/-- The value of one face replaced. -/
def PerFace.set {α : Type} (p : PerFace α) (f : FaceId) (a : α) : PerFace α :=
  match f with
  | 0 => { p with f0 := a }
  | 1 => { p with f1 := a }
  | 2 => { p with f2 := a }
  | 3 => { p with f3 := a }

/-- A function applied to the value of every face. -/
def PerFace.map {α β : Type} (g : α → β) (p : PerFace α) : PerFace β :=
  ⟨g p.f0, g p.f1, g p.f2, g p.f3⟩

/-- The values in ascending face number. -/
def PerFace.toList {α : Type} (p : PerFace α) : List α := [p.f0, p.f1, p.f2, p.f3]

/-- The four faces in ascending number. -/
def allFaces : List FaceId := [0, 1, 2, 3]

/-- The value of one flag. -/
def PerFlag.get {α : Type} (p : PerFlag α) (i : AlarmId) : α :=
  match i with
  | .plumeUncovered => p.plumeUncovered
  | .prewetMissed => p.prewetMissed
  | .cannonFault => p.cannonFault
  | .duplicateNode => p.duplicateNode
  | .supplyStale => p.supplyStale
  | .freshExhausted => p.freshExhausted
  | .windLost => p.windLost
  | .forecastStale => p.forecastStale
  | .lineIsolated => p.lineIsolated
  | .configAbsent => p.configAbsent

/-- The value of one flag replaced. -/
def PerFlag.set {α : Type} (p : PerFlag α) (i : AlarmId) (a : α) : PerFlag α :=
  match i with
  | .plumeUncovered => { p with plumeUncovered := a }
  | .prewetMissed => { p with prewetMissed := a }
  | .cannonFault => { p with cannonFault := a }
  | .duplicateNode => { p with duplicateNode := a }
  | .supplyStale => { p with supplyStale := a }
  | .freshExhausted => { p with freshExhausted := a }
  | .windLost => { p with windLost := a }
  | .forecastStale => { p with forecastStale := a }
  | .lineIsolated => { p with lineIsolated := a }
  | .configAbsent => { p with configAbsent := a }

/-- The ten flags in the order of the flag table (10.4). -/
def allAlarms : List AlarmId :=
  [.plumeUncovered, .prewetMissed, .cannonFault, .duplicateNode, .supplyStale, .freshExhausted, .windLost,
   .forecastStale, .lineIsolated, .configAbsent]

end Sys2Proof

namespace Sys2Proof.Machine

/-! ### Timers -/

/-- A timer started at `now` for `ms` milliseconds. -/
def Timer.startAt (now ms : Nat) : Timer := .running (now + ms)

/-- A timer has run out. -/
def Timer.isDue (now : Nat) : Timer → Bool
  | .running due => decide (due ≤ now)
  | _ => false

/-- A timer counts. -/
def Timer.isRunning : Timer → Bool
  | .running _ => true
  | _ => false

/-- A timer that has run out, started again from its expiry, so that its expiries keep their spacing (R2, R24, R145). -/
def Timer.reload (ms : Nat) : Timer → Timer
  | .running due => .running (due + ms)
  | t => t

/-- A running timer stopped with its remaining time kept (R118). -/
def Timer.pause (now : Nat) : Timer → Timer
  | .running due => .paused (due - now)
  | t => t

/-- A paused timer running on. -/
def Timer.resume (now : Nat) : Timer → Timer
  | .paused left => .running (now + left)
  | t => t

/-- The remaining time in ms, absent when the timer is stopped. -/
def Timer.remaining (now : Nat) : Timer → Option Nat
  | .running due => some (due - now)
  | .paused left => some left
  | .stopped => none

/-! ### Local time and settings -/

/-- Local time in seconds (6.2 of 00_scope.md). -/
def State.sec (s : State) : Nat := s.now / 1000

/-- Local time in minutes: the seconds truncated-divided by 60 (R14). -/
def State.minute (s : State) : Nat := s.sec / 60

/-- The settings that the blocks have taken (R181). While they have taken none nothing is known of them (log 9). -/
def State.cfg (s : State) : Configuration := s.station.config.getD Config.unset

/-- The configuration that the Lockout Unit and the Alarm Unit read: the one stored, and none for a station with strap 0,
whatever its store holds (R164, R177, R179; log 36). -/
def State.validConfig (s : State) : Option Configuration := if s.station.node = 0 then none else s.station.stored

/-- LISTEN, RUN or MUTE: the states in which the station's duties run (chapter 11). -/
def Mode.operational : Mode → Bool
  | .listen => true
  | .run => true
  | .mute => true
  | _ => false

/-- The station is in LISTEN, RUN or MUTE. -/
def State.operational (s : State) : Bool := s.station.mode.operational

/-- The station is in RUN. -/
def State.inRun (s : State) : Bool := decide (s.station.mode = .run)

/-- The lock list is not empty. -/
def State.locked (s : State) : Bool := !s.lockout.locks.isEmpty

/-! ### Arithmetic -/

/-- Integer division rounded up (6.3). -/
def ceilDiv (a b : Nat) : Nat := (a + b - 1) / b

/-- Clamped to a range (6.3). -/
def clampTo (lo hi x : Nat) : Nat := max lo (min hi x)

/-- A reading clamped to 0..hi. -/
def clampInt (hi : Nat) (x : Int) : Nat := min hi x.toNat

/-- The largest value of a 16-bit count. -/
def maxU16 : Nat := 65535

/-- The largest value of a 32-bit count. -/
def maxU32 : Nat := 4294967295

/-- A sum that saturates at `top` (6.3). -/
def satAdd (top a b : Nat) : Nat := min top (a + b)

/-- The angular difference of two bearings (R1). -/
def angleDiff (a b : Nat) : Nat :=
  let d := (Int.ofNat a - Int.ofNat b).natAbs
  if d > 180 then 360 - d else d

/-- round(1024 sin d) for d from 0 to 90 (R1). -/
def sineTable : List Nat :=
    [0, 18, 36, 54, 71, 89, 107, 125, 143, 160, 178, 195, 213] ++
    [230, 248, 265, 282, 299, 316, 333, 350, 367, 384, 400, 416, 433] ++
    [449, 465, 481, 496, 512, 527, 543, 558, 573, 587, 602, 616, 630] ++
    [644, 658, 672, 685, 698, 711, 724, 737, 749, 761, 773, 784, 796] ++
    [807, 818, 828, 839, 849, 859, 868, 878, 887, 896, 904, 912, 920] ++
    [928, 935, 943, 949, 956, 962, 968, 974, 979, 984, 989, 994, 998] ++
    [1002, 1005, 1008, 1011, 1014, 1016, 1018, 1020, 1022, 1023, 1023, 1024, 1024]

/-- The integer sine of a bearing (R1): the table extended by the symmetries of the sine. -/
def sine (d : Nat) : Int :=
  let d := d % 360
  if d ≤ 90 then Int.ofNat (sineTable.getD d 0)
  else if d ≤ 180 then Int.ofNat (sineTable.getD (180 - d) 0)
  else if d ≤ 270 then - Int.ofNat (sineTable.getD (d - 180) 0)
  else - Int.ofNat (sineTable.getD (360 - d) 0)

/-- The integer cosine: the sine of (90 - d) mod 360 (R1). -/
def cosine (d : Nat) : Int := sine (450 - d % 360)

/-- A bearing's distance clockwise from an origin bearing. -/
def clockwiseFrom (origin b : Nat) : Nat := (b + 360 - origin % 360) % 360

/-! ### Ranks and classes -/

/-- The rank of a demand class (4.1), which is also its wire code (12.1). -/
def DemandClass.rank : DemandClass → Nat
  | .test => 0
  | .prewet => 1
  | .suppress => 2
  | .knockdown => 3

/-- The class of a cannon state (R72). -/
def CannonState.cls : CannonState → CannonClass
  | .parked => .ready
  | .standby => .ready
  | .priming => .busy
  | .slewing => .busy
  | .claiming => .busy
  | .draining => .busy
  | .spraying => .spraying
  | .locked => .locked
  | .fault => .fault

/-- The class reported for a face: QUIET for a face without a record (R19, R32). -/
def State.faceClass (s : State) (f : FaceId) : FaceClass :=
  match s.face.records.get f with
  | some r => r.cls
  | none => .quiet

/-- The classes reported for the four faces. -/
def State.faceClasses (s : State) : PerFace FaceClass :=
  ⟨s.faceClass 0, s.faceClass 1, s.faceClass 2, s.faceClass 3⟩

/-- The wind cut-out condition (R86). -/
def State.cutOut (s : State) : Bool :=
  decide (s.wind.record.speed > s.cfg.wCut) || decide (s.wind.record.gust > s.cfg.wCut + 50)

/-- A notice of the station's own stands (R133). -/
def State.noticeStands (s : State) : Bool :=
  decide (s.dust.level = .exceed) || decide (s.dust.level = .recovering)

/-- The next free value is counted. -/
def State.drawFree (s : State) : State := s.setFree (s.free + 1)

end Sys2Proof.Machine
end

