-- ==== Sys2Proof/Machine/Operands.lean ====
section
/-! DEFINITION. The operand forms of the commands: the byte layouts of 12_wire_formats.md, read and written. Yard-line
frames with their CRC and acceptance checks (R150, R188, R189), panel messages with their check byte (R169, R190), and
the configuration block with its field checks (12.4, R179, R182). -/

namespace Sys2Proof.Machine

/-! ### Bytes, high byte first -/

/-- The byte at an offset as a number; 0 past the end. -/
def byteAt (p : List Byte) (i : Nat) : Nat := (p.getD i 0).toNat

/-- Two bytes at an offset, high byte first. -/
def word16At (p : List Byte) (i : Nat) : Nat := byteAt p i * 256 + byteAt p (i + 1)

/-- Three bytes at an offset, high byte first. -/
def word24At (p : List Byte) (i : Nat) : Nat := byteAt p i * 65536 + word16At p (i + 1)

/-- Four bytes at an offset, high byte first. -/
def word32At (p : List Byte) (i : Nat) : Nat := word16At p i * 65536 + word16At p (i + 2)

/-- A one-byte field. -/
def enc8 (n : Nat) : List Byte := [BitVec.ofNat 8 n]

/-- A two-byte field, high byte first. -/
def enc16 (n : Nat) : List Byte := [BitVec.ofNat 8 (n / 256), BitVec.ofNat 8 n]

/-- A three-byte field, high byte first. -/
def enc24 (n : Nat) : List Byte := BitVec.ofNat 8 (n / 65536) :: enc16 n

/-- A four-byte field, high byte first. -/
def enc32 (n : Nat) : List Byte := enc16 (n / 65536) ++ enc16 n

/-- A true-or-false field (R190). -/
def encBool (b : Bool) : List Byte := [if b then 1 else 0]

/-! ### CRC-16 (R150) -/

/-- One bit of the CRC with polynomial 0x1021. -/
def crcBit (c : BitVec 16) : BitVec 16 := if c.msb then (c <<< 1) ^^^ 0x1021#16 else c <<< 1

/-- One byte of the CRC, most significant bit first. -/
def crcByte (c : BitVec 16) (b : Byte) : BitVec 16 :=
  crcBit (crcBit (crcBit (crcBit (crcBit (crcBit (crcBit (crcBit (c ^^^ (b.zeroExtend 16 <<< 8)))))))))

/-- The CRC-16 of a run of bytes: initial value 0xFFFF, no final inversion. -/
def crc16 (bs : List Byte) : BitVec 16 := bs.foldl crcByte 0xFFFF#16

/-- The two CRC bytes, high byte first. -/
def crcBytes (bs : List Byte) : List Byte := enc16 (crc16 bs).toNat

/-! ### Yard-line frames (12.1, 12.2) -/

/-- The frame kinds of 12.1. -/
inductive FrameKind where
  | status
  | claim
  | release
  | plume
  | cover
  | wind
  | forecast
  | supply
  | machine
deriving DecidableEq, Repr

/-- The code of a frame kind (12.1). -/
def FrameKind.code : FrameKind → Nat
  | .status => 1
  | .claim => 2
  | .release => 3
  | .plume => 4
  | .cover => 5
  | .wind => 8
  | .forecast => 9
  | .supply => 10
  | .machine => 11

/-- The frame kind of a code. -/
def frameKindOf (n : Nat) : Option FrameKind :=
  if n = 1 then some .status else if n = 2 then some .claim else if n = 3 then some .release
  else if n = 4 then some .plume else if n = 5 then some .cover else if n = 8 then some .wind
  else if n = 9 then some .forecast else if n = 10 then some .supply else if n = 11 then some .machine else none

/-- The kind that a frame of this kind gives its sender's entry (R138). -/
def FrameKind.member : FrameKind → MemberKind
  | .status => .station
  | .claim => .station
  | .release => .station
  | .plume => .station
  | .cover => .station
  | .wind => .mast
  | .forecast => .mast
  | .supply => .supply
  | .machine => .machine

/-- A field of a bit string: `width` bits at bit `off`, counted from the most significant bit of the first byte (12.2). -/
def bitField (p : List Byte) (off width : Nat) : Nat :=
  p.foldl (fun a b => a * 256 + b.toNat) 0 / 2 ^ (8 * p.length - (off + width)) % 2 ^ width

/-- The slot count of a FORECAST payload (12.2). -/
def forecastCount (p : List Byte) : Nat := bitField p 13 4

/-- The length test of R150 and R189. -/
def lengthAllowed (k : FrameKind) (p : List Byte) : Bool :=
  let n := p.length
  match k with
  | .status => n == 17 || n == 21
  | .claim => n == 5
  | .release => n == 1
  | .plume => n == 9
  | .cover => n == 4
  | .wind => n == 10
  | .forecast =>
    decide (3 ≤ n) && decide (n ≤ 48) &&
      (let c := forecastCount p
       if 1 ≤ c ∧ c ≤ 12 then n == ceilDiv (17 + 30 * c) 8 else true)
  | .supply => n == 9
  | .machine => n == 5

/-- A complete frame as it was received: the sender, the kind and the payload. -/
structure Received where
  sender : Nat
  kind : FrameKind
  payload : List Byte
deriving DecidableEq, Repr

/-- The start mark of a frame (12.1). -/
def startMark : Byte := 0xA5#8

/-- The acceptance checks of R150 on the bytes of a complete frame, from the start mark to the second CRC byte. -/
def acceptFrame (bs : List Byte) : Option Received :=
  match bs with
  | mark :: sender :: kind :: len :: rest =>
    let payload := rest.take len.toNat
    if mark = startMark ∧ rest.length = len.toNat + 2
        ∧ rest.drop len.toNat = crcBytes (sender :: kind :: len :: payload)
        ∧ 1 ≤ sender.toNat ∧ sender.toNat ≤ 63 then
      match frameKindOf kind.toNat with
      | some k => if lengthAllowed k payload then some ⟨sender.toNat, k, payload⟩ else none
      | none => none
    else none
  | _ => none

/-- The command that an accepted frame of another member is. -/
def Received.command (r : Received) : Instr :=
  match r.kind with
  | .status => .statusFrame r.sender r.payload
  | .claim => .claimFrame r.sender r.payload
  | .release => .releaseFrame r.sender r.payload
  | .plume => .plumeFrame r.sender r.payload
  | .cover => .coverFrame r.sender r.payload
  | .wind => .windFrame r.sender r.payload
  | .forecast => .forecastFrame r.sender r.payload
  | .supply => .supplyFrame r.sender r.payload
  | .machine => .machineFrame r.sender r.payload

/-- The reception after a byte (R150, R169): a byte outside a reception begins one if it is the start byte and is ignored
otherwise; the byte that completes the run ends the reception and gives the run whole. -/
def takeByte (start : Byte) (complete : List Byte → Bool) (held : List Byte) (b : Byte) : List Byte × Option (List Byte) :=
  if held = [] ∧ b ≠ start then ([], none)
  else if complete (held ++ [b]) then ([], some (held ++ [b])) else (held ++ [b], none)

/-- A run of bytes has come to the second CRC byte that its length byte places (R150). -/
def frameComplete (bs : List Byte) : Bool :=
  match bs with
  | _ :: _ :: _ :: len :: rest => rest.length == len.toNat + 2
  | _ => false

/-- The command that the bytes of a complete frame are to a station that is not sending, by its latched node number
(R150, R151); none for bytes that are no complete frame, which are ignored. -/
def receiveFrame (node : Nat) (bs : List Byte) : Option Instr :=
  if bs.head? = some startMark ∧ frameComplete bs = true then
    match acceptFrame bs with
    | none => some .frameDiscarded
    | some r => some (if r.sender = node then .duplicate else r.command)
  else none

/-! ### Enumerated fields (12.1) -/

/-- The code of a cannon state class. -/
def CannonClass.code : CannonClass → Nat
  | .ready => 0
  | .busy => 1
  | .spraying => 2
  | .locked => 3
  | .fault => 4

/-- The cannon state class of a code. -/
def cannonClassOf (n : Nat) : Option CannonClass :=
  if n = 0 then some .ready else if n = 1 then some .busy else if n = 2 then some .spraying
  else if n = 3 then some .locked else if n = 4 then some .fault else none

/-- The code of an exceedance state. -/
def Exceedance.code : Exceedance → Nat
  | .clear => 0
  | .elevated => 1
  | .exceed => 2
  | .recovering => 3

/-- The exceedance state of a code. -/
def exceedanceOf (n : Nat) : Option Exceedance :=
  if n = 0 then some .clear else if n = 1 then some .elevated else if n = 2 then some .exceed
  else if n = 3 then some .recovering else none

/-- The code of a face class. -/
def FaceClass.code : FaceClass → Nat
  | .quiet => 0
  | .watch => 1
  | .act => 2

/-- The face class of a code. -/
def faceClassOf (n : Nat) : Option FaceClass :=
  if n = 0 then some .quiet else if n = 1 then some .watch else if n = 2 then some .act else none

/-- The demand class of a code: TEST 0, PREWET 1, SUPPRESS 2, KNOCKDOWN 3. -/
def demandClassOf (n : Nat) : Option DemandClass :=
  if n = 0 then some .test else if n = 1 then some .prewet else if n = 2 then some .suppress
  else if n = 3 then some .knockdown else none

/-- The code of a cover answer. -/
def CoverAnswer.code : CoverAnswer → Nat
  | .queued => 1
  | .noFace => 2
  | .locked => 3
  | .fault => 4
  | .windCut => 5

/-- The cover answer of a code. -/
def coverAnswerOf (n : Nat) : Option CoverAnswer :=
  if n = 1 then some .queued else if n = 2 then some .noFace else if n = 3 then some .locked
  else if n = 4 then some .fault else if n = 5 then some .windCut else none

/-- The code of a water source. -/
def WaterSource.code : WaterSource → Nat
  | .reuse => 0
  | .fresh => 1

/-- The water source of a code. -/
def waterSourceOf (n : Nat) : Option WaterSource :=
  if n = 0 then some .reuse else if n = 1 then some .fresh else none

/-- A true-or-false byte. -/
def boolOf (n : Nat) : Option Bool :=
  if n = 0 then some false else if n = 1 then some true else none

/-! ### Payloads read -/

/-- The position carried at the head of a STATUS, PLUME, WIND or MACHINE payload, each coordinate clamped to 4095
(R139). -/
def payloadPosition (p : List Byte) : Nat × Nat := (min 4095 (word16At p 0), min 4095 (word16At p 2))

/-- The four face classes of a face classes byte: two bits a face, face 0 lowest. -/
def decodeFaceClasses (n : Nat) : Option (PerFace FaceClass) :=
  match faceClassOf (n % 4), faceClassOf (n / 4 % 4), faceClassOf (n / 16 % 4), faceClassOf (n / 64 % 4) with
  | some a, some b, some c, some d => some ⟨a, b, c, d⟩
  | _, _, _, _ => none

/-- A STATUS payload, or none where an enumerated field holds an undefined code (R188). The notice serial byte is
disregarded outside EXCEED and RECOVERING. -/
def decodeStatus (p : List Byte) : Option StatusContent :=
  match cannonClassOf (byteAt p 4), boolOf (byteAt p 5), exceedanceOf (byteAt p 6),
      decodeFaceClasses (byteAt p 8) with
  | some cc, some lk, some ex, some fc =>
    some
      { x := word16At p 0, y := word16At p 2, cannonClass := cc, locked := lk, level := ex
        serial := if ex = .exceed ∨ ex = .recovering then some (byteAt p 7) else none
        faces := fc, runoff := word32At p 9, fresh := word32At p 13
        wind := if p.length = 21 then some (word16At p 17, word16At p 19) else none }
  | _, _, _, _ => none

/-- A CLAIM payload: serial, class, flow and wait age; none for a class above 3. -/
def decodeClaim (p : List Byte) : Option (Nat × DemandClass × Nat × Nat) :=
  match demandClassOf (byteAt p 1) with
  | some c => some (byteAt p 0, c, word16At p 2, byteAt p 4)
  | none => none

/-- A PLUME payload. -/
structure PlumeMsg where
  x : Nat
  y : Nat
  theta : Nat
  mean : Nat
  serial : Nat
deriving DecidableEq, Repr

/-- A PLUME payload read, its position clamped as the map has taken it (R188, 8.5). -/
def decodePlume (p : List Byte) : PlumeMsg :=
  { x := min 4095 (word16At p 0), y := min 4095 (word16At p 2), theta := word16At p 4, mean := word16At p 6, serial := byteAt p 8 }

/-- A COVER payload. -/
structure CoverMsg where
  target : Nat
  serial : Nat
  answer : CoverAnswer
  count : Nat
deriving DecidableEq, Repr

/-- A COVER payload read; none for an undefined answer. -/
def decodeCover (p : List Byte) : Option CoverMsg :=
  match coverAnswerOf (byteAt p 2) with
  | some a => some { target := byteAt p 0, serial := byteAt p 1, answer := a, count := byteAt p 3 }
  | none => none

/-- A WIND payload: speed and bearing. The gust is not kept (R141). -/
def decodeWind (p : List Byte) : Nat × Nat := (word16At p 4, word16At p 8)

/-- A SUPPLY payload. -/
structure SupplyMsg where
  capacity : Nat
  source : WaterSource
  pond : Nat
  day : Nat
  allowance : Nat
deriving DecidableEq, Repr

/-- A SUPPLY payload read, capacity and pond level clamped (R95); none for an unknown source. -/
def decodeSupply (p : List Byte) : Option SupplyMsg :=
  match waterSourceOf (byteAt p 2) with
  | some src =>
    some
      { capacity := min 2000 (word16At p 0), source := src, pond := min 100 (byteAt p 3), day := word16At p 4
        allowance := word24At p 6 }
  | none => none

/-- The working flag of a MACHINE payload; none for an undefined code. -/
def decodeMachine (p : List Byte) : Option Bool := boolOf (byteAt p 4)

/-- A slot as a FORECAST carries it, in the stored units of 12.2. -/
structure CarriedSlot where
  mean : Nat
  gust : Nat
  bearing : Nat
  rain : Nat
deriving DecidableEq, Repr

/-- A FORECAST payload. -/
structure ForecastMsg where
  issue : Nat
  lead : Nat
  slots : List CarriedSlot
deriving DecidableEq, Repr

/-- Slot k of a FORECAST payload (12.2). -/
def carriedSlot (p : List Byte) (k : Nat) : CarriedSlot :=
  let o := 17 + 30 * k
  { mean := bitField p o 7 * 5, gust := bitField p (o + 7) 6 * 10, bearing := bitField p (o + 13) 9
    rain := bitField p (o + 22) 8 }

/-- A FORECAST payload read. The slots are as many as the count field says. -/
def decodeForecast (p : List Byte) : ForecastMsg :=
  { issue := bitField p 0 8, lead := bitField p 8 5
    slots := (List.range (forecastCount p)).map (carriedSlot p) }

/-! ### The station's own frames written (R188) -/

/-- The face classes byte. -/
def encodeFaceClasses (c : PerFace FaceClass) : Nat :=
  c.f0.code + 4 * c.f1.code + 16 * c.f2.code + 64 * c.f3.code

/-- The kind of a frame of the station's own. -/
def Content.kind : Content → FrameKind
  | .status _ => .status
  | .claim _ _ _ _ => .claim
  | .release _ => .release
  | .plume _ _ _ _ _ => .plume
  | .cover _ _ _ _ _ => .cover

/-- The payload of a frame of the station's own (12.1). -/
def Content.payload : Content → List Byte
  | .status c =>
    enc16 c.x ++ enc16 c.y ++ enc8 c.cannonClass.code ++ encBool c.locked ++ enc8 c.level.code
      ++ enc8 (c.serial.getD 0) ++ enc8 (encodeFaceClasses c.faces) ++ enc32 c.runoff ++ enc32 c.fresh
      ++ (match c.wind with
          | some (w, b) => enc16 w ++ enc16 b
          | none => [])
  | .claim serial cls flow wait => enc8 serial ++ enc8 cls.rank ++ enc16 flow ++ enc8 wait
  | .release serial => enc8 serial
  | .plume x y theta mean serial => enc16 x ++ enc16 y ++ enc16 theta ++ enc16 mean ++ enc8 serial
  | .cover target serial answer count _ =>
    enc8 target ++ enc8 serial ++ enc8 answer.code ++ enc8 (if answer = .queued then count else 0)

/-- A whole frame: start mark, sender, kind, length, payload and CRC (12.1). -/
def makeFrame (sender : Nat) (kind : FrameKind) (payload : List Byte) : List Byte :=
  let body := enc8 sender ++ enc8 kind.code ++ enc8 payload.length ++ payload
  startMark :: body ++ crcBytes body

/-- The bytes of a frame of the station's own on the line (R158). -/
def Content.bytes (node : Nat) (c : Content) : List Byte := makeFrame node c.kind c.payload

/-! ### The configuration block (12.4) -/

/-- The bytes of a configuration block. -/
def blockLength : Nat := 171

/-- The offset of a face description. -/
def faceOffset (k : Nat) : Nat := 66 + 26 * k

/-- A face description read from its bytes. -/
def readFace (b : List Byte) (k : Nat) : FaceDesc :=
  let o := faceOffset k
  { enabled := byteAt b o == 1, normal := word16At b (o + 1), arcStart := word16At b (o + 3)
    arcEnd := word16At b (o + 5), centreX := word16At b (o + 7), centreY := word16At b (o + 9)
    area := word16At b (o + 11), kd := byteAt b (o + 13), kw := byteAt b (o + 14), km := byteAt b (o + 15)
    wt0 := byteAt b (o + 16), mg := byteAt b (o + 17), msat := word16At b (o + 18), mInit := word16At b (o + 20)
    radius := word16At b (o + 22), ka := byteAt b (o + 24), contact := byteAt b (o + 25) == 1 }

/-- The relay set read from its bytes: one byte a flag, in the order of the flag table. -/
def readRelaySet (b : List Byte) : PerFlag Bool :=
  ⟨byteAt b 44 == 1, byteAt b 45 == 1, byteAt b 46 == 1, byteAt b 47 == 1, byteAt b 48 == 1, byteAt b 49 == 1,
   byteAt b 50 == 1, byteAt b 51 == 1, byteAt b 52 == 1, byteAt b 53 == 1⟩

/-- The settings that the bytes of a block hold, before any check. -/
def readBlock (b : List Byte) : Configuration :=
  { forecastNode := byteAt b 0, supplyNode := byteAt b 1, x := word16At b 2, y := word16At b 4
    acwStop := word16At b 6, cwStop := word16At b 8, nozzle := byteAt b 10, period := byteAt b 11
    tOn := byteAt b 12, tOnMin := byteAt b 13, quantum := word16At b 14, drainTime := byteAt b 16
    primingTime := word16At b 17, standbyCount := byteAt b 19, slewTimeout := word16At b 20
    noFlowTime := byteAt b 22, wCut := word16At b 23, settleTime := byteAt b 25
    fallbackCapacity := word16At b 26, pondReserve := byteAt b 28, pMin := byteAt b 29
    fallbackWind := word16At b 30, lElev := word16At b 32, lExc := word16At b 34, recoveryTime := byteAt b 36
    responseWindow := word16At b 37, beta := byteAt b 39, dMax := word16At b 40, vKnock := word16At b 42
    relaySet := readRelaySet b, tWatch := byteAt b 54, tAct := byteAt b 55, hyst := byteAt b 56
    vMin := word16At b 57, vMaxDose := word16At b 59, prewetLead := byteAt b 61, supervisor := word24At b 62
    mode := if byteAt b 65 = 1 then .rotate else .fixed
    faces := ⟨readFace b 0, readFace b 1, readFace b 2, readFace b 3⟩
    firstFace := Fin.ofNat 4 (byteAt b 170) }

/-- A value within its range. -/
def within (lo hi x : Nat) : Bool := decide (lo ≤ x) && decide (x ≤ hi)

/-- The arc from `arcStart` clockwise to `arcEnd` lies within the permitted arc, from the anticlockwise stop clockwise
to the clockwise stop (R182). -/
def arcPermitted (c : Configuration) (d : FaceDesc) : Bool :=
  decide (clockwiseFrom c.acwStop d.arcStart ≤ clockwiseFrom c.acwStop d.arcEnd)
    && decide (clockwiseFrom c.acwStop d.arcEnd ≤ clockwiseFrom c.acwStop c.cwStop)

/-- The checks of the fields of face description k, in order (2.1, R182). A description that is not enabled has its
arc relation left out (log 19). -/
def faceChecks (b : List Byte) (c : Configuration) (k : Nat) : List Bool :=
  let d := readFace b k
  let o := faceOffset k
  [ within 0 1 (byteAt b o)
      && (k != 3 || (c.faces.f0.enabled || c.faces.f1.enabled || c.faces.f2.enabled || c.faces.f3.enabled))
  , within 0 359 d.normal
  , within 0 359 d.arcStart
  , within 0 359 d.arcEnd && (!d.enabled || arcPermitted c d)
  , within 0 4095 d.centreX
  , within 0 4095 d.centreY
  , within 100 20000 d.area
  , within 1 63 d.kd
  , within 1 255 d.kw
  , within 0 63 d.km
  , within 0 200 d.wt0
  , within 0 100 d.mg
  , within 500 3000 d.msat
  , within 0 d.msat d.mInit
  , within 0 500 d.radius
  , within 0 63 d.ka
  , within 0 1 (byteAt b (o + 25)) ]

/-- The checks of fields 1 to 29, in order. -/
def settingChecks (node : Nat) (c : Configuration) : List Bool :=
  [ within 1 63 c.forecastNode && c.forecastNode != node
  , within 1 63 c.supplyNode && c.supplyNode != node
  , within 0 4095 c.x
  , within 0 4095 c.y
  , within 0 359 c.acwStop
  , within 0 359 c.cwStop && c.cwStop != c.acwStop
  , within 5 120 c.nozzle
  , within 2 60 c.period
  , within 1 c.period c.tOn
  , within 1 c.tOn c.tOnMin && decide (1 ≤ c.nozzle * c.tOnMin / c.period)
  , within 100 5000 c.quantum
  , within 5 120 c.drainTime
  , within 10 300 c.primingTime
  , within 0 255 c.standbyCount
  , within 10 300 c.slewTimeout
  , within 3 20 c.noFlowTime
  , within 50 300 c.wCut
  , within 2 10 c.settleTime
  , within 0 500 c.fallbackCapacity
  , within 0 100 c.pondReserve
  , within 0 160 c.pMin
  , within 0 400 c.fallbackWind
  , within 0 4999 c.lElev
  , within 1 5000 c.lExc && decide (c.lElev < c.lExc)
  , within 2 30 c.recoveryTime
  , within 60 600 c.responseWindow
  , within 15 60 c.beta
  , within 50 2000 c.dMax
  , within 100 10000 c.vKnock ]

/-- The checks of fields 40 to 47, in order. -/
def modelChecks (b : List Byte) (c : Configuration) : List Bool :=
  [ within 1 254 c.tWatch
  , within (c.tWatch + 1) 255 c.tAct
  , within 0 31 c.hyst
  , within 10 1000 c.vMin
  , within c.vMin 20000 c.vMaxDose
  , within 30 240 c.prewetLead && c.prewetLead % 30 == 0
  , within 0 999999 c.supervisor
  , within 0 1 (byteAt b 65) ]

/-- The checks of fields 1 to 116, in the order of the layout (R182). -/
def blockChecks (node : Nat) (b : List Byte) : List Bool :=
  let c := readBlock b
  settingChecks node c
    ++ (List.range 10).map (fun i => within 0 1 (byteAt b (44 + i)))
    ++ modelChecks b c
    ++ faceChecks b c 0 ++ faceChecks b c 1 ++ faceChecks b c 2 ++ faceChecks b c 3
    ++ [within 0 3 (byteAt b 170) && (c.faces.get c.firstFace).enabled]

/-- The number of the first field that fails, counted from 1 (R182). -/
def firstFailing (node : Nat) (b : List Byte) : Option Nat :=
  ((blockChecks node b).findIdx? (fun ok => !ok)).map (· + 1)

/-- A block that passes every check, as the settings it holds. -/
def checkBlock (node : Nat) (b : List Byte) : Option Configuration :=
  if b.length = blockLength ∧ firstFailing node b = none then some (readBlock b) else none

/-- The stored block: marker, fields and CRC over the marker and the fields (12.4). -/
def storedBlock (b : List Byte) : List Byte :=
  let body := [0x5A#8, 0xC3#8] ++ b
  body ++ crcBytes body

/-- The configuration that the store holds, if its block is valid (R179). -/
def loadBlock (node : Nat) (stored : List Byte) : Option Configuration :=
  if stored.take 2 = [0x5A#8, 0xC3#8] ∧ stored.drop 173 = crcBytes (stored.take 173) then
    checkBlock node ((stored.take 173).drop 2)
  else none

/-! ### Panel messages (12.3) -/

/-- The answer codes (12.3). -/
inductive AnswerCode where
  | accepted
  | busy
  | invalid
  | full
  | duplicate
  | mismatch
  | exhausted
  | strictHeld
  | frozen
  | notInFault
deriving DecidableEq, Repr

/-- The code of an answer (12.3). -/
def AnswerCode.code : AnswerCode → Nat
  | .accepted => 0
  | .busy => 1
  | .invalid => 2
  | .full => 3
  | .duplicate => 4
  | .mismatch => 5
  | .exhausted => 6
  | .strictHeld => 7
  | .frozen => 8
  | .notInFault => 9

/-- An answer: the command code, the answer code and what follows it (R190). -/
def PanelAnswer.of (command : Nat) (a : AnswerCode) (rest : List Byte) : PanelAnswer :=
  { command := command, payload := enc8 a.code ++ rest }

/-- The sum of a run of bytes, modulo 256. -/
def byteSum (bs : List Byte) : Byte := bs.foldl (· + ·) 0

/-- The start byte of a panel message (12.3). -/
def startByte : Byte := 0x3C#8

/-- A whole panel message: start byte, command, length, payload and check byte (12.3). -/
def makeMessage (command : Nat) (payload : List Byte) : List Byte :=
  let body := enc8 command ++ enc8 payload.length ++ payload
  startByte :: body ++ [- byteSum body]

/-- The bytes of an answer on the panel link. -/
def PanelAnswer.bytes (a : PanelAnswer) : List Byte := makeMessage a.command a.payload

/-- A run of bytes has come to the check byte that its length byte places (R169). -/
def messageComplete (bs : List Byte) : Bool :=
  match bs with
  | _ :: _ :: len :: rest => rest.length == len.toNat + 1
  | _ => false

/-- The command of a message with a good check: an unknown command, or a length that 12.3 does not give for the
command, is an unknown command (R169). -/
def panelCommand (command : Nat) (p : List Byte) : Instr :=
  let n := p.length
  if command = 1 ∧ byteAt p 0 ≠ 6 ∧ n = 2 then .read (byteAt p 0) (byteAt p 1) 0 0
  else if command = 1 ∧ byteAt p 0 = 6 ∧ n = 4 then .read 6 (byteAt p 1) (byteAt p 2) (byteAt p 3)
  else if command = 2 ∧ n = blockLength then .configure p
  else if command = 3 ∧ n = 4 then .lock (word24At p 0) (byteAt p 3)
  else if command = 4 ∧ n = 3 then .unlock (word24At p 0)
  else if command = 5 ∧ n = 0 then .ackAlarms
  else if command = 6 ∧ n = 0 then .clearFault
  else if command = 7 ∧ n = 0 then .restart
  else if command = 8 ∧ n = 3 then .testSpray (byteAt p 0) (word16At p 1)
  else .panelUnknownCommand command

/-- The command that the bytes of a complete panel message are, from the start byte to the check byte (R169); none for
bytes that are no complete message. -/
def receivePanel (bs : List Byte) : Option Instr :=
  match bs with
  | start :: command :: len :: rest =>
    if start = startByte ∧ rest.length = len.toNat + 1 then
      if byteSum (command :: len :: rest) = 0 then some (panelCommand command.toNat (rest.take len.toNat))
      else some .panelBadCheck
    else none
  | _ => none

end Sys2Proof.Machine
end

