-- ==== Sys2Proof/WellFormed.lean ====
section
/-! DEFINITION. The commands whose operands the wire and the field lines can carry. -/

namespace Sys2Proof

/-- The operands of a frame of a kind: a sender of 1 to 63 and a payload of an allowed length (R150). -/
def frameWellFormed (k : Machine.FrameKind) (sender : Nat) (p : List Byte) : Bool :=
  Machine.within 1 63 sender && Machine.lengthAllowed k p

/-- The operands of a command lie in the ranges that its carrier can give. exec answers a next state for the others
too; this says which commands the outside can send. -/
def Instr.wellFormed : Instr → Bool
  | .powerOn _ _ => true
  | .anemometerSample _ _ => true
  | .minuteClose => true
  | .evaluation => true
  | .rainPulse => true
  | .flowPulse => true
  | .encoderReport _ => true
  | .dustReading _ => true
  | .readingWatchExpiry => true
  | .pressureReading p => decide (p ≤ 160)
  | .firstStage => true
  | .secondStage => true
  | .commissioningKeyRelease => true
  | .commissioningWindowExpiry => true
  | .listenTimerExpiry => true
  | .statusFrame n p => frameWellFormed .status n p
  | .claimFrame n p => frameWellFormed .claim n p
  | .releaseFrame n p => frameWellFormed .release n p
  | .plumeFrame n p => frameWellFormed .plume n p
  | .coverFrame n p => frameWellFormed .cover n p
  | .windFrame n p => frameWellFormed .wind n p
  | .forecastFrame n p => frameWellFormed .forecast n p
  | .supplyFrame n p => frameWellFormed .supply n p
  | .machineFrame n p => frameWellFormed .machine n p
  | .duplicate => true
  | .frameBroken => true
  | .accessGap => true
  | .collision => true
  | .backoffExpiry => true
  | .transmissionCompletes => true
  | .read sel part first last =>
    decide (sel < 256) && decide (part < 256) && decide (first < 256) && decide (last < 256)
      && (sel == 6 || (first == 0 && last == 0))
  | .configure b => b.length == Machine.blockLength
  | .lock code level => decide (code < 16777216) && decide (level < 256)
  | .unlock code => decide (code < 16777216)
  | .ackAlarms => true
  | .clearFault => true
  | .restart => true
  | .testSpray face volume => decide (face < 256) && decide (volume < 65536)
  | .panelUnknownCommand code => decide (code < 256)
  | .panelBadCheck => true
  | .panelMessageBroken => true
  | .answerSent => true
  | .settleExpiry => true
  | .claimRefresh => true
  | .onTimerExpiry => true
  | .periodTimerExpiry => true
  | .noFlowExpiry => true
  | .slewTimeout => true
  | .primingExpiry => true
  | .drainExpiry => true
  | .standbyExpiry => true
  | .faultHoldExpiry _ => true
  | .deadline => true
  | .supplyStaleExpiry => true
  | .staleRollover => true
  | .slotEnd => true
  | .forecastStaleExpiry => true
  | .plumeRefresh => true
  | .recoveryExpiry => true
  | .responseWindowExpiry => true
  | .pendingAnswerExpiry target => Machine.within 1 63 target
  | .sweep => true
  | .isolationExpiry => true
  | .statusPeriod => true
  | .statusDueMark => true
  | .frameDiscarded => true

end Sys2Proof
end

