-- ==== Sys2Proof/Decode.lean ====
section
/-! DEFINITION. The command that a word of the opcode table spells. No row of spec/opcode_table.json gives bits (its
rows have no fixed bits and no fields), so no word spells a command (log 4). The words that do stand for commands are
the frames and messages of 12_wire_formats.md, which Machine/Operands.lean reads. -/

namespace Sys2Proof

/-- The command that a word of `nbits` bits spells by the table's bits: none, since no row gives any. -/
def decodeTableWord (_nbits _w : Nat) : Option Instr := none

end Sys2Proof
end

