-- ==== Sys2Proof/Machine/Account.lean ====
section
/-! DEFINITION. The Water Account and the class gating (R96, R97, R110 to R114). -/

namespace Sys2Proof.Machine

/-- The capacity in use (R96). -/
def State.capacityInUse (s : State) : Nat :=
  match s.claim.supply.capacity, s.claim.supply.stale with
  | none, false => 0
  | none, true => s.cfg.fallbackCapacity
  | some c, false => c
  | some c, true => min c s.cfg.fallbackCapacity

/-- The sets of classes that the present water may serve, widest first (R97). -/
inductive Gate where
  | all
  | suppressUp
  | knockdownOnly
deriving DecidableEq, Repr

/-- The class gating (R97). -/
def State.gate (s : State) : Gate :=
  match s.claim.supply.source with
  | .reuse => if s.cfg.pondReserve ≤ s.claim.supply.pond.getD 0 then .all else .suppressUp
  | .fresh => if s.account.today.fresh < s.account.today.allowance then .suppressUp else .knockdownOnly

/-- A class is allowed by the gating (R97). -/
def Gate.allows (g : Gate) (c : DemandClass) : Bool :=
  match g with
  | .all => true
  | .suppressUp => decide (2 ≤ c.rank)
  | .knockdownOnly => decide (c = .knockdown)

/-- A litre charged to today's record (R110). -/
def DayRecord.charge (src : WaterSource) (knockdownChain : Bool) (r : DayRecord) : DayRecord :=
  match src with
  | .reuse => { r with reuse := satAdd maxU32 r.reuse 1 }
  | .fresh =>
    { r with
      fresh := satAdd maxU32 r.fresh 1
      knockdown :=
        if knockdownChain || decide (r.allowance ≤ r.fresh) then satAdd maxU32 r.knockdown 1 else r.knockdown }

/-- A litre charged to the Water Account under the source in use (R81, R110). -/
def chargeAccount (knockdownChain : Bool) (s : State) : State :=
  s.setAccount { s.account with today := s.account.today.charge s.claim.supply.source knockdownChain }

/-- Runoff credited to today's record (R114). -/
def creditRunoff (litres : Nat) (s : State) : State :=
  s.setAccount
    { s.account with today := { s.account.today with runoff := satAdd maxU32 s.account.today.runoff litres } }

/-- The runoff of every face record becomes 0 (R23). -/
def clearRunoff (s : State) : State :=
  s.setFace
    { s.face with records := s.face.records.map fun r => r.map fun f => { f with runoff := 0 } }

/-- A rollover to a day number and an allowance (R112). The gating is judged by its callers. -/
def rollover (day : Option Nat) (allowance : Nat) (s : State) : State :=
  clearRunoff
    (s.setAccount
      { today := { DayRecord.empty with day := day, allowance := allowance }
        yesterday := s.account.today, dayStart := s.sec })

/-- The Water Account's part of an accepted SUPPLY frame: adoption, rollover or neither, then the allowance
(R95 step 1, R111, R112). -/
def takeDay (day allowance : Nat) (s : State) : State :=
  let keep := max s.account.today.allowance allowance
  match s.account.today.day with
  | none =>
    s.setAccount { s.account with today := { s.account.today with day := some day, allowance := keep } }
  | some d =>
    if d = day then s.setAccount { s.account with today := { s.account.today with allowance := keep } }
    else rollover (some day) allowance s

/-- The rollover of a stale supply: the next day number, and the allowance of the supply state (R113). -/
def staleRollover (s : State) : State :=
  rollover (s.account.today.day.map fun d => (d + 1) % 65536) s.claim.supply.allowance s

/-- The day start is 1,440 minutes or more in the past (R113). -/
def State.dayOver (s : State) : Bool := decide (s.account.dayStart + 86400 ≤ s.sec)

end Sys2Proof.Machine
end

