-- ==== Sys2Proof/Machine/Flags.lean ====
section
/-! DEFINITION. The alarm flags, their conditions and the relay (10.4, 10.5: R174 to R178). -/

namespace Sys2Proof.Machine

/-- A flag that follows a condition; the other two follow events (10.4). -/
def conditionFlag : AlarmId → Bool
  | .plumeUncovered => false
  | .prewetMissed => false
  | _ => true

/-- A condition flag after its owner reports the condition's value; a value that already stands is no change (R174). -/
def Flag.follow (sec : Nat) (v : Bool) (f : Flag) : Flag :=
  if v = f.cond then f
  else
    match f.state, v with
    | .idle, true => { state := .raised, again := false, raisedTime := some sec, cond := true }
    | .raised, true => { f with again := true, cond := true }
    | .acked, true => { f with cond := true }
    | .idle, false => { f with cond := false }
    | .raised, false => { f with cond := false }
    | .acked, false => { f with state := .idle, cond := false }

/-- An event flag after an event (R175). -/
def Flag.event (sec : Nat) (f : Flag) : Flag :=
  match f.state with
  | .idle => { f with state := .raised, again := false, raisedTime := some sec }
  | .raised => { f with again := true }
  | .acked => f

/-- A flag after ACK ALARMS (R174, R175). -/
def Flag.acknowledge (condition : Bool) (f : Flag) : Flag :=
  match f.state with
  | .raised =>
    if condition ∧ f.cond then { f with state := .acked, again := false }
    else { f with state := .idle, again := false }
  | _ => f

/-- FRESH_EXHAUSTED: the source is FRESH and today's fresh litres are at or above the day allowance (R97). -/
def State.freshExhausted (s : State) : Bool :=
  decide (s.claim.supply.source = .fresh) && decide (s.account.today.allowance ≤ s.account.today.fresh)

/-- CONFIG_ABSENT: the latched node is 0 or no valid configuration is stored (R179). -/
def State.configAbsent (s : State) : Bool := s.validConfig.isNone

/-- WIND_LOST: the minute wind record is from FALLBACK and is not the power-on record (R8). -/
def State.windLost (s : State) : Bool :=
  decide (s.wind.record.source = .fallback) && !s.wind.record.initial

/-- The present values of the eight conditions as their owners hold them; false for the two event flags. -/
def State.conditions (s : State) : PerFlag Bool :=
  { plumeUncovered := false
    prewetMissed := false
    cannonFault := decide (s.cannon.state = .fault)
    duplicateNode := s.line.duplicate
    supplyStale := s.claim.supply.stale
    freshExhausted := s.freshExhausted
    windLost := s.windLost
    forecastStale := s.forecast.stale
    lineIsolated := s.line.isolated
    configAbsent := s.configAbsent }

/-- The eight condition flags after their owners' reports; the event flags are not touched. -/
def followAll (sec : Nat) (c : PerFlag Bool) (f : PerFlag Flag) : PerFlag Flag :=
  { plumeUncovered := f.plumeUncovered
    prewetMissed := f.prewetMissed
    cannonFault := f.cannonFault.follow sec c.cannonFault
    duplicateNode := f.duplicateNode.follow sec c.duplicateNode
    supplyStale := f.supplyStale.follow sec c.supplyStale
    freshExhausted := f.freshExhausted.follow sec c.freshExhausted
    windLost := f.windLost.follow sec c.windLost
    forecastStale := f.forecastStale.follow sec c.forecastStale
    lineIsolated := f.lineIsolated.follow sec c.lineIsolated
    configAbsent := f.configAbsent.follow sec c.configAbsent }

/-- The ten flags after ACK ALARMS (R176). -/
def acknowledgeAll (f : PerFlag Flag) : PerFlag Flag :=
  { plumeUncovered := f.plumeUncovered.acknowledge false
    prewetMissed := f.prewetMissed.acknowledge false
    cannonFault := f.cannonFault.acknowledge true
    duplicateNode := f.duplicateNode.acknowledge true
    supplyStale := f.supplyStale.acknowledge true
    freshExhausted := f.freshExhausted.acknowledge true
    windLost := f.windLost.acknowledge true
    forecastStale := f.forecastStale.acknowledge true
    lineIsolated := f.lineIsolated.acknowledge true
    configAbsent := f.configAbsent.acknowledge true }

/-- The relay set: the configured choice, or all ten flags while CONFIG_ABSENT is true (R177, R179). -/
def State.relaySet (s : State) : PerFlag Bool :=
  match s.validConfig with
  | some c => c.relaySet
  | none => ⟨true, true, true, true, true, true, true, true, true, true⟩

/-- At least one flag of the relay set is RAISED (R177). -/
def relayLevel (set : PerFlag Bool) (flags : PerFlag Flag) : Bool :=
  allAlarms.any fun i => set.get i && decide ((flags.get i).state = .raised)

/-- The condition flags follow their conditions and the relay is judged afresh; taken at the end of each arrival
(R174, R177; log 10). -/
def syncAlarms (s : State) : State :=
  let flags := followAll s.sec s.conditions s.alarms.flags
  s.setAlarms { flags := flags, relay := relayLevel s.relaySet flags }

/-- The PREWET_MISSED event (R65, R175). -/
def raisePrewetMissed (s : State) : State :=
  s.setAlarms
    { s.alarms with flags := { s.alarms.flags with prewetMissed := s.alarms.flags.prewetMissed.event s.sec } }

/-- The PLUME_UNCOVERED event (R132, R175). -/
def raisePlumeUncovered (s : State) : State :=
  s.setAlarms
    { s.alarms with flags := { s.alarms.flags with plumeUncovered := s.alarms.flags.plumeUncovered.event s.sec } }

/-- The number of flags whose state differs (R176). -/
def flagsChanged (f g : PerFlag Flag) : Nat :=
  (allAlarms.filter fun i => decide ((f.get i).state ≠ (g.get i).state)).length

end Sys2Proof.Machine
end

