-- ==== Sys2Proof/Machine/Line.lean ====
section
/-! DEFINITION. The Line Controller: the transmit queue, access, STATUS, and the close of an arrival that offers STATUS
on change (chapter 9: R149 to R163). -/

namespace Sys2Proof.Machine

/-! ### The transmit queue (R153 to R156) -/

/-- URGENT for CLAIM, RELEASE, PLUME and COVER; ROUTINE for STATUS (R153). -/
def Content.urgent : Content → Bool
  | .status _ => false
  | _ => true

/-- The claim serial that a CLAIM or RELEASE carries (R153). -/
def Content.claimSerial : Content → Option Nat
  | .claim serial _ _ _ => some serial
  | .release serial => some serial
  | _ => none

/-- The block that offers a content (R149). -/
def Content.originator : Content → Originator
  | .status _ => .stationControl
  | .claim _ _ _ _ => .waterClaim
  | .release _ => .waterClaim
  | .plume _ _ _ _ _ => .dustWatch
  | .cover _ _ _ _ _ => .dustWatch

/-- A queued STATUS that is not in transmission. -/
def TxFrame.waitingStatus (f : TxFrame) : Bool :=
  match f.content with
  | .status _ => !f.inTx
  | _ => false

/-- A queued CLAIM of a serial. -/
def TxFrame.isClaim (serial : Nat) (f : TxFrame) : Bool :=
  match f.content with
  | .claim k _ _ _ => k == serial
  | _ => false

/-- The offered content takes the place of this queued frame (R154). -/
def TxFrame.replacedBy (c : Content) (f : TxFrame) : Bool :=
  match c with
  | .status _ => f.waitingStatus
  | .claim serial _ _ _ => f.isClaim serial && !f.inTx
  | _ => false

/-- A frame that replaces a queued one: the place, the queue time and the attempts stay (R154; log 24). -/
def TxFrame.replace (c : Content) (f : TxFrame) : TxFrame := { f with content := c }

/-- A frame that takes a new place (R154). -/
def TxFrame.fresh (sec : Nat) (c : Content) : TxFrame :=
  { content := c, originator := c.originator, queueTime := sec, attempts := 0, inTx := false, noRetry := false }

/-- The access state that follows the queue's contents: IDLE while it is empty, WAITING at the first frame taken. A
transmission or a backoff in progress runs on (R157; log 23). -/
def Line.settleAccess (l : Line) : Line :=
  match l.access with
  | .sending => l
  | .backoff => l
  | _ => { l with access := if l.queue.isEmpty then .idle else .waiting }

/-- The place of the queued frame that an offered content replaces: the first, where two stand (log 32). -/
def replacedPlace (c : Content) (q : List TxFrame) : Option Nat := q.findIdx? (TxFrame.replacedBy c)

/-- An offer to the transmit queue in RUN: whether it was taken, and the queue after it (R154, R155). -/
def Line.offer (sec : Nat) (c : Content) (l : Line) : Line × Bool :=
  match replacedPlace c l.queue with
  | some i => ({ l with queue := l.queue.modify i (TxFrame.replace c) }, true)
  | none =>
    if l.queue.length < 8 then
      (({ l with queue := l.queue ++ [TxFrame.fresh sec c] } : Line).settleAccess, true)
    else
      match c.urgent, l.queue.findIdx? TxFrame.waitingStatus with
      | true, some i =>
        ({ l with queue := l.queue.eraseIdx i ++ [TxFrame.fresh sec c], due := true, refused := true }, true)
      | _, _ => (l, false)

/-- A block's offer of a frame: refused outside RUN (R149). -/
def lineOffer (c : Content) (s : State) : State × Bool :=
  if s.inRun then
    let r := s.line.offer s.sec c
    (s.setLine r.1, r.2)
  else (s, false)

/-- The Water Claim Unit's withdrawal of the CLAIM frames of a serial (R156). -/
def Line.withdraw (serial : Nat) (l : Line) : Line :=
  let kept := l.queue.filter fun f => !(f.isClaim serial) || f.inTx
  ({ l with
      queue := kept.map fun f => if f.isClaim serial then { f with noRetry := true } else f
      left := l.left || decide (kept.length < l.queue.length) } : Line).settleAccess

/-- A CLAIM of a serial is in transmission. -/
def Line.claimInTx (serial : Nat) (l : Line) : Bool :=
  l.queue.any fun f => f.isClaim serial && f.inTx

/-- The queue emptied, a transmission aborted and a backoff discarded at MUTE and at a panel RESTART, and the STATUS
measures stopped with nothing of them kept (R163, R161; log 34). An aborted transmission leaves the line quiet from now. -/
def Line.clear (now : Nat) (l : Line) : Line :=
  { l with
    access := .idle, queue := [], backoff := .stopped
    quietSince := if l.access = .sending then now else l.quietSince
    period := .stopped, spacing := .stopped, lastStatus := none, due := false, refused := false, left := false }

/-! ### Access, collision and retry (R157 to R160) -/

/-- The earliest queue time among the URGENT frames. -/
def earliestUrgent : List TxFrame → Option Nat
  | [] => none
  | f :: rest =>
    match earliestUrgent rest with
    | none => if f.content.urgent then some f.queueTime else none
    | some t => if f.content.urgent then some (min f.queueTime t) else some t

/-- The place of the head: the URGENT frame with the earliest queue time, the earlier place where two share it, or the
ROUTINE frame if no URGENT frame is queued (R153); of two ROUTINE frames, the one in the earlier place (log 32). -/
def headIndex (q : List TxFrame) : Option Nat :=
  match earliestUrgent q with
  | some t => q.findIdx? fun f => f.content.urgent && f.queueTime == t
  | none => q.findIdx? fun f => !f.content.urgent

/-- The head of the transmit queue. -/
def Line.head? (l : Line) : Option TxFrame := (headIndex l.queue).bind fun i => l.queue[i]?

/-- The access gap of a frame in ms (R157). -/
def accessGapOf (f : TxFrame) : Nat := if f.content.urgent then 2 else 6

/-- The quiet time in ms: 0 while the line is busy (R149). -/
def Line.quietTime (now : Nat) (l : Line) : Nat :=
  if l.busy || decide (l.access = .sending) then 0 else now - l.quietSince

/-- The line goes from busy to quiet, and the quiet time begins; a line that is quiet stays as it was (R149). -/
def Line.goQuiet (now : Nat) (l : Line) : Line := if l.busy then { l with busy := false, quietSince := now } else l

/-- The line has stayed quiet for 1 ms within a frame (R150). -/
def Line.brokenDue (now : Nat) (l : Line) : Bool :=
  !l.partialFrame.isEmpty && !l.busy && decide (1 ≤ now - l.quietSince)

/-- The head may start (R157). -/
def Line.gapDue (now : Nat) (l : Line) : Bool :=
  match l.access, l.head? with
  | .waiting, some f => !l.busy && decide (accessGapOf f ≤ l.quietTime now)
  | _, _ => false

/-- A frame of the queue changed at its place. -/
def modifyAt (q : List TxFrame) (i : Nat) (g : TxFrame → TxFrame) : List TxFrame := q.modify i g

/-- The head starts (R157). -/
def Line.startHead (l : Line) : Line :=
  match headIndex l.queue with
  | some i => { l with access := .sending, queue := modifyAt l.queue i fun f => { f with inTx := true } }
  | none => l

/-- The place of the frame in transmission. -/
def Line.txIndex (l : Line) : Option Nat := l.queue.findIdx? (·.inTx)

/-- The frame in transmission. -/
def Line.txFrame? (l : Line) : Option TxFrame := l.txIndex.bind fun i => l.queue[i]?

/-- The frame in transmission leaves the queue and the line goes quiet (R158, R159). -/
def Line.dropTx (now : Nat) (l : Line) : Line :=
  match l.txIndex with
  | some i =>
    ({ l with queue := l.queue.eraseIdx i, access := .waiting, quietSince := now, left := true } : Line).settleAccess
  | none => ({ l with access := .waiting, quietSince := now } : Line).settleAccess

/-- The backoff after a collision: ((node + 7 x attempts) mod 16) + 1 slots of 1 ms (R159). -/
def backoffSlots (node attempts : Nat) : Nat := (node + 7 * attempts) % 16 + 1

/-- The collided frame stays queued with its attempts raised, and the controller backs off (R159). -/
def Line.backOff (now node attempts : Nat) (l : Line) : Line :=
  { l with
    queue := l.queue.map fun f => if f.inTx then { f with inTx := false, attempts := attempts } else f
    access := .backoff, quietSince := now, backoff := .startAt now (backoffSlots node attempts) }

/-! ### STATUS (R161) -/

/-- The STATUS frame built from the state as it stands (9.4, R10, R39, R114, R133). -/
def buildStatus (s : State) : Content :=
  .status
    { x := s.cfg.x, y := s.cfg.y
      cannonClass := s.cannon.state.cls
      locked := s.locked
      level := s.dust.level
      serial := if s.noticeStands then s.dust.serial else none
      faces := s.faceClasses
      runoff := s.account.today.runoff, fresh := s.account.today.fresh
      wind :=
        if s.wind.record.source = .localMinute then some (s.wind.record.speed, s.wind.record.bearing) else none }

/-- The STATUS measures after an offer that was taken: due is cleared, the 30 s period and the 2 s spacing restart
(R161). -/
def Line.statusTaken (now : Nat) (l : Line) : Line :=
  { l with
    period := .startAt now 30000, spacing := .startAt now 2000, lastStatus := some now, due := false, refused := false }

/-- The STATUS measures after a refusal: STATUS is due (R161). -/
def Line.statusRefused (l : Line) : Line := { l with due := true, refused := true }

/-- Station Control offers a STATUS frame (R161). -/
def offerStatus (s : State) : State :=
  let r := lineOffer (buildStatus s) s
  if r.2 then r.1.setLine (r.1.line.statusTaken r.1.now) else r.1.setLine r.1.line.statusRefused

/-- The four items whose change is reported (R161). -/
def State.reportedItems (s : State) : CannonClass × Bool × Exceedance × PerFace FaceClass :=
  (s.cannon.state.cls, s.locked, s.dust.level, s.faceClasses)

/-- 2 s have not yet passed since the last STATUS offer that was taken. -/
def Line.spaced (now : Nat) (l : Line) : Bool := l.spacing.isRunning && !l.spacing.isDue now

/-- A reported item has changed: STATUS is offered, or is due until the 2 s have passed (R161). -/
def statusOnChange (s : State) : State :=
  if s.line.spaced s.now then s.setLine { s.line with due := true } else offerStatus s

/-- The retry of a STATUS that is due after a refusal or an eviction, when a frame has left the queue (R161). -/
def statusRetry (s : State) : State :=
  if s.line.left && s.line.due && s.line.refused then offerStatus s else s

/-- The mark of frames that left is put back at the end of the arrival. -/
def clearLeft (s : State) : State := s.setLine { s.line with left := false }

/-- STATUS at the end of an arrival that began in state `s0`: on change and on retry, in RUN (R161; log 10). -/
def closeStatus (s0 s : State) : State :=
  if s.inRun then
    let s1 := if s.reportedItems = s0.reportedItems then s else statusOnChange s
    clearLeft (statusRetry s1)
  else clearLeft s

/-- The end of an arrival: the alarm flags follow, the relay is judged and STATUS is offered (log 10). -/
def closeArrival (s0 s : State) : State := closeStatus s0 (syncAlarms s)

/-- An arrival taken whole. In START the station takes none but POWER_ON (R137, R149, R169, R179). -/
def arrival (effect : State → State) (s : State) : State :=
  if s.station.mode = .start then s else closeArrival s (effect s)

end Sys2Proof.Machine
end

