-- ==== Sys2Proof/Machine/Peers.lean ====
section
/-! DEFINITION. The Peer Map as its readers see it and as frames and sweeps change it (chapter 8: R136 to R146). -/

namespace Sys2Proof.Machine

/-! ### Liveness (R143, R144) -/

/-- The liveness of a present entry (R143). -/
inductive Liveness where
  | live
  | quiet
  | lost
deriving DecidableEq, Repr

/-- The liveness of an age in seconds (R143). -/
def livenessOf (age : Nat) : Liveness := if age ≤ 60 then .live else if age ≤ 150 then .quiet else .lost

/-- The age of an entry (R143). -/
def Peer.age (sec : Nat) (p : Peer) : Nat := sec - p.heard

/-- The liveness of an entry, formed for the moment of the read. -/
def Peer.liveness (sec : Nat) (p : Peer) : Liveness := livenessOf (p.age sec)

/-- The LOST transition: every optional part is removed (R144). -/
def Peer.stripped (p : Peer) : Peer :=
  { p with summary := none, wind := none, claim := none, acted := none, machine := none }

/-- The entry as readers see it: a LOST entry without its parts, whether or not the sweep has reached it (R144). -/
def Peer.seen (sec : Nat) (p : Peer) : Peer := if p.liveness sec = .lost then p.stripped else p

/-- The entry holds an optional part. -/
def Peer.hasPart (p : Peer) : Bool :=
  p.summary.isSome || p.wind.isSome || p.claim.isSome || p.acted.isSome || p.machine.isSome

/-- A claim part is live: announced no more than 75 s ago (R99). -/
def ClaimPart.live (sec : Nat) (c : ClaimPart) : Bool := decide (sec - c.announce ≤ 75)

/-! ### The entries (R136) -/

/-- The entry of a node number. -/
def findPeer (n : Nat) (ps : List Peer) : Option Peer := ps.find? fun p => p.node == n

/-- The entries with one written: replaced if it is present, added in its place by node number otherwise. -/
def putPeer (p : Peer) : List Peer → List Peer
  | [] => [p]
  | q :: rest => if p.node < q.node then p :: q :: rest else if p.node = q.node then p :: rest else q :: putPeer p rest

/-- The entries with the one of a node number changed. -/
def changePeer (n : Nat) (g : Peer → Peer) (ps : List Peer) : List Peer :=
  ps.map fun p => if p.node = n then g p else p

/-- An entry newly present (R136). -/
def Peer.fresh (n sec : Nat) (k : MemberKind) : Peer :=
  { node := n, kind := k, position := none, heard := sec, summary := none, wind := none, claim := none, acted := none,
    machine := none }

/-- The common part of a frame on its sender's entry: the LOST transition if it is due, the kind, last heard (R138). -/
def Peer.refresh (sec : Nat) (k : MemberKind) (p : Peer) : Peer :=
  let p1 := if p.liveness sec = .lost then p.stripped else p
  let p2 := if p1.kind = k then p1 else { p1.stripped with kind := k, position := none }
  { p2 with heard := sec }

/-- The sender's entry after the common part of R138 and the position of R139. -/
def refreshedPeer (sec n : Nat) (k : MemberKind) (pos : Option (Nat × Nat)) (ps : List Peer) : Peer :=
  let p :=
    match findPeer n ps with
    | some p => p.refresh sec k
    | none => Peer.fresh n sec k
  match pos with
  | some xy => { p with position := some xy }
  | none => p

/-- The common part of a frame removes a claim part that the sender's entry held (R138, R144). -/
def refreshRemovesClaim (sec n : Nat) (k : MemberKind) (ps : List Peer) : Bool :=
  match findPeer n ps with
  | some p => p.claim.isSome && (p.refresh sec k).claim.isNone
  | none => false

/-- One entry at a sweep: the LOST transition, or the removal of a claim part more than 75 s old (R145). -/
def Peer.swept (sec : Nat) (p : Peer) : Peer :=
  if p.liveness sec = .lost ∧ p.hasPart then p.stripped
  else
    match p.claim with
    | some c => if c.live sec then p else { p with claim := none }
    | none => p

/-- The sweep removes a claim part (R145). -/
def sweepRemovesClaim (sec : Nat) (ps : List Peer) : Bool :=
  ps.any fun p => p.claim.isSome && (p.swept sec).claim.isNone

/-- A change of the entries of the map. -/
def State.setPeerEntries (s : State) (ps : List Peer) : State := s.setPeers { s.peers with entries := ps }

/-! ### What the readers take (8.5) -/

/-- A claim among the claims that rank against each other: its node number and its claim part (R99, R100). -/
structure RankedClaim extends ClaimPart where
  node : Nat
deriving DecidableEq, Repr

/-- The live peer claims the station holds: the claim part is live and the sender is not LOST (R99). -/
def liveClaims (sec : Nat) (ps : List Peer) : List RankedClaim :=
  ps.filterMap fun p =>
    match (p.seen sec).claim with
    | some c => if c.live sec then some { c with node := p.node } else none
    | none => none

/-- One claim ranks above another: by class, then by the greater wait age, then by the lower node number (R100). -/
def RankedClaim.above (a b : RankedClaim) : Bool :=
  if a.cls.rank ≠ b.cls.rank then decide (b.cls.rank < a.cls.rank)
  else if a.wait ≠ b.wait then decide (b.wait < a.wait)
  else decide (a.node < b.node)

/-- A usable wind report of a peer with a position: node, speed, bearing and squared distance (R6). -/
structure PeerWind where
  node : Nat
  speed : Nat
  bearing : Nat
  dist : Int
deriving DecidableEq, Repr

/-- The usable wind reports at a close: at most 180 s old, of a sender with a position (R6, R139). -/
def peerWinds (sec x y : Nat) (ps : List Peer) : List PeerWind :=
  ps.filterMap fun p =>
    match (p.seen sec).wind, p.position with
    | some w, some (px, py) =>
      if sec - w.arrival ≤ 180 then
        some ⟨p.node, w.speed, w.bearing, (Int.ofNat px - Int.ofNat x) ^ 2 + (Int.ofNat py - Int.ofNat y) ^ 2⟩
      else none
    | _, _ => none

/-- The nearest of the usable reports; the lower node number of two equally near (R6). -/
def nearestWind : List PeerWind → Option PeerWind
  | [] => none
  | w :: rest =>
    match nearestWind rest with
    | none => some w
    | some v => if w.dist < v.dist ∨ (w.dist = v.dist ∧ w.node ≤ v.node) then some w else some v

/-- A LIVE machine whose working flag is true, at its position (R29). -/
def workingMachines (sec : Nat) (ps : List Peer) : List (Nat × Nat) :=
  ps.filterMap fun p =>
    if p.kind = .machine ∧ p.liveness sec = .live ∧ p.machine = some true then p.position else none

end Sys2Proof.Machine
end

