-- ==== Sys2Proof/Machine/Claim.lean ====
section
/-! DEFINITION. The own claim: its flows, its rank, the decision, the ask, the announcement and the release (R98 to
R107). What a decision does to the cannon is in Machine/Cannon.lean. -/

namespace Sys2Proof.Machine

/-- The mean flow of an on-time: nozzle x T' div P (R78, R102). q is that of T_on and q_min that of T_on_min (R98). -/
def flowOf (c : Configuration) (t : Nat) : Nat := c.nozzle * t / c.period

/-- The wait age of the own claim: whole minutes since its basis, capped at 255 (R98); 0 without a basis (log 18). -/
def State.waitAge (s : State) : Nat :=
  match s.claim.own.basis with
  | some b => min 255 ((s.sec - b) / 60)
  | none => 0

/-- The flow that the claim announces: q_g while THROTTLED and q otherwise (R106). -/
def State.announcedFlow (s : State) : Nat :=
  if s.claim.own.state = .throttled then s.claim.own.qg else flowOf s.cfg s.cfg.tOn

/-- The own claim as it stands among the peers': its class, announced flow, present wait age, serial and last announce
time, and the latched node number (R98, R100). It ranks by class, wait age and node alone. While the claim is NONE these
are the parts that the record still holds, TEST and 0 before the first claim (log 18). -/
def State.ownRank (s : State) : RankedClaim :=
  { node := s.station.node, cls := s.claim.own.cls.getD .test, flow := s.announcedFlow, wait := s.waitAge
    serial := s.claim.own.serial.getD 0, announce := s.claim.own.lastAnnounce.getD 0 }

/-- The live peer claims that the station holds (R99). -/
def State.liveClaims (s : State) : List RankedClaim := Machine.liveClaims s.sec s.peers.entries

/-- H: the flow of the live peer claims that rank above the own claim (R100); while that is NONE, above the parts that
its record still holds (log 18). -/
def State.flowAbove (s : State) : Nat :=
  ((s.liveClaims.filter fun c => c.above s.ownRank).map fun c => c.flow).sum

/-- The own claim ranks above every live peer claim (R100). -/
def State.topRanked (s : State) : Bool := s.liveClaims.all fun c => s.ownRank.above c

/-- The room: the capacity in use minus H. It can be negative (R102). -/
def State.room (s : State) : Int := Int.ofNat s.capacityInUse - Int.ofNat s.flowAbove

/-- A claim decision: the state, T' and q_g (R102). -/
structure Decision where
  state : ClaimState
  tHeld : Option Nat
  qg : Nat
deriving DecidableEq, Repr

/-- The decision of R102 on a room. -/
def decideClaim (c : Configuration) (room : Int) : Decision :=
  if Int.ofNat (flowOf c c.tOn) ≤ room then
    { state := .granted, tHeld := some c.tOn, qg := flowOf c c.tOn }
  else if Int.ofNat (flowOf c c.tOnMin) ≤ room then
    let t := max c.tOnMin (room.toNat * c.period / c.nozzle)
    { state := .throttled, tHeld := some t, qg := flowOf c t }
  else { state := .deferred, tHeld := none, qg := 0 }

/-- A decision limited by the pressure ceiling (R104; log 15). -/
def Decision.limit (c : Configuration) (ceiling : Option Nat) (d : Decision) : Decision :=
  match ceiling, d.tHeld with
  | some top, some t => { state := .throttled, tHeld := some (min t top), qg := flowOf c (min t top) }
  | _, _ => d

/-- The decision on the claim as it stands now (R102, R104). -/
def State.decision (s : State) : Decision := (decideClaim s.cfg s.room).limit s.cfg s.claim.own.ceiling

/-- The CLAIM frame of the own claim as it stands (R106). -/
def State.claimContent (s : State) : Content :=
  .claim (s.claim.own.serial.getD 0) (s.claim.own.cls.getD .test) s.announcedFlow s.waitAge

/-- The own claim changed. -/
def State.setOwn (s : State) (o : OwnClaim) : State := s.setClaim { s.claim with own := o }

/-- A CLAIM frame is offered; queued or refused, the offer sets the last announce time (R106). -/
def announceClaim (s : State) : State :=
  let s1 := (lineOffer s.claimContent s).1
  s1.setOwn { s1.claim.own with lastAnnounce := some s1.sec, refresh := .startAt s1.now 30000 }

/-- The claim takes a decision's state, T' and q_g, and is announced if that changes the announced flow (R102, R104,
R106). -/
def takeDecision (d : Decision) (s : State) : State :=
  let s1 := s.setOwn { s.claim.own with state := d.state, tHeld := d.tHeld, qg := d.qg, settle := .stopped }
  if s1.announcedFlow = s.announcedFlow then s1 else announceClaim s1

/-- The Cannon Controller's ask, taken in RUN with the own claim NONE (R101). -/
def askClaim (cls : DemandClass) (basis : Nat) (s : State) : State :=
  if s.inRun ∧ s.claim.own.state = .none then
    let o := s.claim.own
    announceClaim
      (s.setOwn
        { o with
          state := .settling, cls := some cls, basis := some basis, serial := some o.nextSerial
          nextSerial := (o.nextSerial + 1) % 16, qg := 0, tHeld := none, ceiling := none, sent := false
          settle := .startAt s.now (s.cfg.settleTime * 1000) })
  else s

/-- The claim becomes NONE: q_g 0, T', ceiling and last announce time absent, the settle timer, the refresh and the
pressure watch stopped (R107 step 3). -/
def noClaim (s : State) : State :=
  s.setClaim
    { s.claim with
      own :=
        { s.claim.own with
          state := .none, qg := 0, tHeld := none, ceiling := none, lastAnnounce := none, settle := .stopped
          refresh := .stopped }
      lowSince := none, stageAt := none, staged := false }

/-- The withdrawal of the queued CLAIM frames, and the RELEASE frame if a peer can hold the claim (R107 steps 1, 2). -/
def withdrawClaim (s : State) : State :=
  let k := s.claim.own.serial.getD 0
  let heard := s.claim.own.sent || s.line.claimInTx k
  let s1 := s.setLine (s.line.withdraw k)
  if heard then (lineOffer (.release k) s1).1 else s1

/-- The release of the own claim; a claim that is NONE needs none (R83, R107). -/
def releaseClaim (s : State) : State :=
  if s.claim.own.state = .none then s else noClaim (withdrawClaim s)

/-- A CLAIM of the present serial completed its transmission (R106, R156). -/
def claimSent (serial : Nat) (s : State) : State :=
  if s.claim.own.state ≠ .none ∧ s.claim.own.serial = some serial then s.setOwn { s.claim.own with sent := true }
  else s

end Sys2Proof.Machine
end

