-- ==== Sys2Proof/Machine/Queue.lean ====
section
/-! DEFINITION. The Spray Queue: its entries, the arrival of a demand, chain ends, deadlines, fault holds and the choice
among candidates (chapter 4: R54 to R69). What a selection does to the cannon is in Machine/Cannon.lean. -/

namespace Sys2Proof.Machine

/-! ### Entries (R54) -/

/-- An entry has a face and a class. -/
def Entry.isOf (f : FaceId) (c : DemandClass) (e : Entry) : Bool := decide (e.face = f) && decide (e.cls = c)

/-- The litres that an entry still asks for (R67). -/
def Entry.residual (e : Entry) : Nat := e.requested - e.delivered

/-- The entry of a face and a class. -/
def findEntry (f : FaceId) (c : DemandClass) (es : List Entry) : Option Entry := es.find? (Entry.isOf f c)

/-- The entries with the one of a face and a class changed in its place. -/
def changeEntry (f : FaceId) (c : DemandClass) (g : Entry → Entry) (es : List Entry) : List Entry :=
  es.map fun e => if e.isOf f c then g e else e

/-- The entries without the one of a face and a class; the gap behind it closes (R54). -/
def dropEntry (f : FaceId) (c : DemandClass) (es : List Entry) : List Entry := es.filter fun e => !e.isOf f c

/-- The running entry of a face and a class. -/
def runningEntry (f : FaceId) (c : DemandClass) (es : List Entry) : Option Entry :=
  es.find? fun e => e.isOf f c && e.running

/-- The entries replaced. -/
def State.setEntries (s : State) (es : List Entry) : State := s.setQueue { s.queue with entries := es }

/-- The record of a face changed, where the face has one. -/
def changeRecord (f : FaceId) (g : FaceRecord → FaceRecord) (s : State) : State :=
  s.setFace { s.face with records := s.face.records.set f ((s.face.records.get f).map g) }

/-! ### Removal (R65, R70) -/

/-- The prewet result that a removal writes (R65). Only a SUPPRESS is WITHDRAWN. -/
def RemovalReason.prewet : RemovalReason → Option PrewetResult
  | .satisfied => some .met
  | .evicted => some .missed
  | .withdrawn => none
  | .deadline => some .missed
  | .attempts => some .missed

/-- The removed entry's prewet result is written and a MISSED one is reported to the Alarm Unit (R65). -/
def recordPrewet (reason : RemovalReason) (e : Entry) (s : State) : State :=
  match e.cls, reason.prewet with
  | .prewet, some .met => changeRecord e.face (fun r => { r with lastPrewet := some (.met, e.deadline.getD 0) }) s
  | .prewet, some .missed =>
    raisePrewetMissed (changeRecord e.face (fun r => { r with lastPrewet := some (.missed, e.deadline.getD 0) }) s)
  | _, _ => s

/-- An entry leaves the queue: the last removal record is replaced and R65 applies (R70). -/
def removeEntry (reason : RemovalReason) (e : Entry) (s : State) : State :=
  recordPrewet reason e
    (s.setQueue
      { s.queue with
        entries := dropEntry e.face e.cls s.queue.entries
        lastRemoval :=
          some
            { face := e.face, cls := e.cls, origin := e.origin, requested := e.requested, delivered := e.delivered
              deadline := e.deadline, time := s.sec, reason := reason } })

/-! ### Arrival of a demand (R55 to R58) -/

/-- A demand as it is offered. -/
structure Offer where
  face : FaceId
  cls : DemandClass
  volume : Nat
  origin : Origin
  deadline : Option Nat
deriving DecidableEq, Repr

/-- The queue's answer to an offer; the two refusals are those of R55 and of R58. -/
inductive OfferAnswer where
  | merged
  | added
  | invalid
  | full
deriving DecidableEq, Repr

/-- The offer passes the checks of R55. -/
def State.takesOffer (s : State) (o : Offer) : Bool :=
  s.operational && (s.face.records.get o.face).isSome && o.volume != 0

/-- The earlier of two deadlines. -/
def earlier : Option Nat → Option Nat → Option Nat
  | some a, some b => some (min a b)
  | some a, none => some a
  | none, b => b

/-- An entry after a merge (R56). -/
def Entry.merge (o : Offer) (e : Entry) : Entry :=
  { e with
    requested := min maxU16 (max e.requested (e.delivered + o.volume))
    deadline := earlier e.deadline o.deadline }

/-- A new entry (R57). -/
def Offer.entry (sec : Nat) (o : Offer) : Entry :=
  { face := o.face, cls := o.cls, requested := min maxU16 o.volume, delivered := 0, origin := o.origin, enqueue := sec
    deadline := o.deadline, reached := false, attempts := 0, running := false }

/-- The rank of the lowest class present. -/
def lowestRank (es : List Entry) : Nat := es.foldl (fun r e => min r e.cls.rank) 3

/-- The latest of the entries of a rank that are not running (R58). -/
def latestWaiting (rank : Nat) (es : List Entry) : Option Entry :=
  (es.filter fun e => e.cls.rank == rank && !e.running).getLast?

/-- A new entry at the end of the order (R57). -/
def addEntry (o : Offer) (s : State) : State := s.setEntries (s.queue.entries ++ [o.entry s.sec])

/-- Merge, add, or evict and add: what the queue makes of an offer (R55 to R58). -/
def admitOffer (o : Offer) (s : State) : State × OfferAnswer :=
  if !s.takesOffer o then (s, .invalid)
  else if (findEntry o.face o.cls s.queue.entries).isSome then
    (s.setEntries (changeEntry o.face o.cls (Entry.merge o) s.queue.entries), .merged)
  else if s.queue.entries.length < 8 then (addEntry o s, .added)
  else if lowestRank s.queue.entries < o.cls.rank then
    match latestWaiting (lowestRank s.queue.entries) s.queue.entries with
    | some e => (addEntry o (removeEntry .evicted e s), .added)
    | none => (s, .full)
  else (s, .full)

/-! ### Deadlines (R64) -/

/-- A PREWET entry whose deadline local time has reached and whose marker does not show it yet. -/
def Entry.deadlineDue (sec : Nat) (e : Entry) : Bool :=
  decide (e.cls = .prewet) && !e.reached
    && (match e.deadline with
        | some d => decide (d ≤ sec)
        | none => false)

/-- One deadline is reached (R64). -/
def passDeadline (e : Entry) (s : State) : State :=
  if e.running then
    s.setEntries (changeEntry e.face e.cls (fun e => { e with reached := true }) s.queue.entries)
  else removeEntry .deadline e s

/-- The deadlines that local time has reached, in queue order (R64). -/
def passDeadlines (s : State) : State :=
  (s.queue.entries.filter (Entry.deadlineDue s.sec)).foldl (fun s e => passDeadline e s) s

/-! ### Chain ends (R61 to R63) -/

/-- A face is under a fault hold (R66). -/
def State.held (s : State) (f : FaceId) : Bool := (s.queue.holds.get f).isRunning

/-- A face is placed under a fault hold of 600 s (R66). -/
def holdFace (f : FaceId) (s : State) : State :=
  s.setQueue { s.queue with holds := s.queue.holds.set f (.startAt s.now 600000) }

/-- A stop that counts as an attempt (R61 step 2). -/
def Cause.counts : Cause → Bool
  | .noFlow => true
  | .pressure => true
  | _ => false

/-- The running marker falls (R61 step 1). -/
def stopRunning (f : FaceId) (c : DemandClass) (s : State) : State :=
  s.setEntries (changeEntry f c (fun e => { e with running := false }) s.queue.entries)

/-- The attempts of a stopped entry, and its removal and the fault hold at the third (R61 step 2). -/
def countAttempt (f : FaceId) (c : DemandClass) (s : State) : State :=
  match findEntry f c s.queue.entries with
  | some e =>
    if 3 ≤ e.attempts + 1 then holdFace f (removeEntry .attempts { e with attempts := e.attempts + 1 } s)
    else s.setEntries (changeEntry f c (fun e => { e with attempts := e.attempts + 1 }) s.queue.entries)
  | none => s

/-- A PREWET whose deadline was reached while it ran leaves at its chain end (R61 step 3). -/
def dropReached (f : FaceId) (c : DemandClass) (s : State) : State :=
  match findEntry f c s.queue.entries with
  | some e => if e.cls = .prewet ∧ e.reached then removeEntry .deadline e s else s
  | none => s

/-- One entry of the completion reduction (R62). Where the reduction takes more than was asked, the litres that the
removal record shows are not stated (log 14). -/
def reduceEntry (litres : Nat) (s : State) (e : Entry) : State :=
  if e.requested ≤ e.delivered + litres then
    if litres ≤ e.requested then removeEntry .satisfied { e with requested := e.requested - litres } s
    else (removeEntry .satisfied { e with requested := Config.freeLitres s.free } s).drawFree
  else s.setEntries (changeEntry e.face e.cls (fun e => { e with requested := e.requested - litres }) s.queue.entries)

/-- The completion reduction of the lower classes of the chain's face, in queue order (R62). -/
def completionReduction (f : FaceId) (c : DemandClass) (litres : Nat) (s : State) : State :=
  if litres = 0 then s
  else
    (s.queue.entries.filter fun e => decide (e.face = f) && decide (e.cls.rank < c.rank)).foldl (reduceEntry litres) s

/-- The chain's face goes to the end of the rotation order (R63). -/
def rotate (f : FaceId) (s : State) : State :=
  s.setQueue { s.queue with rotation := (s.queue.rotation.filter fun g => decide (g ≠ f)) ++ [f] }

/-- Steps 1 to 3 of a chain-end report, where the chain's entry is still present (R61). -/
def endEntry (ch : Chain) (cause : Cause) (s : State) : State :=
  match runningEntry ch.face ch.cls s.queue.entries with
  | some _ =>
    let s1 := stopRunning ch.face ch.cls s
    let s2 := if cause.counts then countAttempt ch.face ch.cls s1 else s1
    dropReached ch.face ch.cls s2
  | none => s

/-- Steps 1 to 5 of a chain-end report (R61). Step 6 is the selection. -/
def queueChainEnd (ch : Chain) (cause : Cause) (s : State) : State :=
  rotate ch.face (completionReduction ch.face ch.cls ch.litres (endEntry ch cause s))

/-! ### Litres (R60) -/

/-- A litre charged to the running entry, which leaves the queue when it has had its litres (R60). -/
def chargeEntry (ch : Chain) (s : State) : State :=
  match runningEntry ch.face ch.cls s.queue.entries with
  | some e =>
    if e.requested ≤ e.delivered + 1 then removeEntry .satisfied { e with delivered := e.delivered + 1 } s
    else s.setEntries (changeEntry ch.face ch.cls (fun e => { e with delivered := e.delivered + 1 }) s.queue.entries)
  | none => s

/-! ### Selection (R67 to R69) -/

/-- The entry is a candidate (R68). -/
def State.candidate (s : State) (e : Entry) : Bool := !e.running && s.gate.allows e.cls && !s.held e.face

/-- The highest rank among entries. -/
def highestRank (es : List Entry) : Nat := es.foldl (fun r e => max r e.cls.rank) 0

/-- The order of the faces in the configured service mode (R69). -/
def State.faceOrder (s : State) : List FaceId :=
  match s.cfg.mode with
  | .fixed => [s.cfg.firstFace, s.cfg.firstFace + 1, s.cfg.firstFace + 2, s.cfg.firstFace + 3]
  | .rotate => s.queue.rotation

/-- The entry that a selection takes (R68, R69). -/
def State.choose (s : State) : Option Entry :=
  let cs := s.queue.entries.filter s.candidate
  let best := cs.filter fun e => e.cls.rank == highestRank cs
  s.faceOrder.findSome? fun f => best.find? fun e => decide (e.face = f)

end Sys2Proof.Machine
end

