-- ==== Sys2Proof/Machine/Cannon.lean ====
section
/-! DEFINITION. The Cannon Controller and the commands of its timers and inputs (chapter 5: R72 to R93), with the parts
of the Spray Queue and of the Water Claim Unit that act on a chain: selection (R67), preemption (R59), the recompute
(R104, R105), the gating change (R97), the pressure backstop (R108, R109) and the supply's staleness (R96, R113). -/

namespace Sys2Proof.Machine

/-! ### Outputs and timers -/

/-- The no-flow watch when the valve closes: it waits, unless its count has already come to its end (R85; log 35). -/
def Timer.pauseWatch (now : Nat) (t : Timer) : Timer := if t.isDue now then t else t.pause now

/-- The spray valve closes: the on timer stops and the no-flow watch waits (R78, R85). -/
def Cannon.closeValve (now : Nat) (c : Cannon) : Cannon :=
  { c with valveOpen := false, on := .stopped, noFlow := c.noFlow.pauseWatch now }

/-- The valve, the drive, the pulse train, the no-flow watch and the slew timer stop (R83 step 1). -/
def Cannon.halt (c : Cannon) : Cannon :=
  { c with
    valveOpen := false, drive := none, onTime := none, period := .stopped, on := .stopped, slew := .stopped
    noFlow := .stopped }

/-- The slew timer as the drive comes to stand at a segment's end: a slew's timer is discarded (R76), and a sweep leg's
keeps what is left of it, since it counts only while the drive moves (R80; log 41). -/
def Cannon.waitLeg (now : Nat) (c : Cannon) : Timer := if c.state = .slewing then .stopped else c.slew.pause now

/-- The stop at the end of a segment, or at the end of a slew: as at a chain end, but a sweep leg waits (R76, R80,
R82). -/
def Cannon.haltSegment (now : Nat) (c : Cannon) : Cannon := { c.halt with slew := c.waitLeg now }

/-- The slew timer as the sweep starts, or goes on with a leg that waited (R80; log 41). -/
def Timer.startLeg (now ms : Nat) : Timer → Timer
  | .paused left => .running (now + left)
  | _ => .startAt now ms

/-- The cannon changed. -/
def State.onCannon (s : State) (g : Cannon → Cannon) : State := s.setCannon (g s.cannon)

/-- The open request marker set. -/
def State.setRequest (s : State) (b : Bool) : State := s.setQueue { s.queue with request := b }

/-- The face description of a face; of a face without a record, that of the settings in force. -/
def State.descOf (s : State) (f : FaceId) : FaceDesc :=
  match s.face.records.get f with
  | some r => r.desc
  | none => s.cfg.faces.get f

/-! ### Chains (R74) -/

/-- The chain formed for an entry: ceiling(r / Q) segments, at most 200 (R74). -/
def planChain (sec quantum : Nat) (waiting : Bool) (e : Entry) : Chain :=
  { face := e.face, cls := e.cls, origin := e.origin, basis := e.enqueue, requested := e.requested
    remaining := e.residual, planned := min 200 (ceilDiv e.residual quantum), quantum := quantum, start := sec
    index := 1, completed := 0, segment := 0, litres := 0, valveOpened := false, waiting := waiting
    sweep := .clockwise }

/-- The volume of the current segment: Q, and for the last segment what is left (R74). -/
def Chain.volume (ch : Chain) : Nat :=
  if ch.index < ch.planned then ch.quantum else ch.remaining - (ch.planned - 1) * ch.quantum

/-! ### Slewing and claiming (R76, R77) -/

/-- The direction of a slew that stays within the permitted arc; free where the bearing does not settle it (R76;
log 13). -/
def turnTowards (c : Configuration) (bearing : Option Nat) (target : Nat) (free : Direction) : Direction :=
  match bearing with
  | some b =>
    if clockwiseFrom c.acwStop b ≤ clockwiseFrom c.acwStop c.cwStop then
      if clockwiseFrom c.acwStop b < clockwiseFrom c.acwStop target then .clockwise else .anticlockwise
    else free
  | none => free

/-- The entry into CLAIMING, with the ask while the cut-out condition is false (R77). -/
def enterClaiming (ch : Chain) (s : State) : State :=
  let s1 := s.onCannon fun c => { c.haltSegment s.now with state := .claiming }
  if s.cutOut then s1 else askClaim ch.cls ch.basis s1

/-- The entry into SLEWING; a cannon that already stands on bearing goes on to CLAIMING at once (R76). -/
def enterSlewing (ch : Chain) (s : State) : State :=
  let target := (s.descOf ch.face).arcStart
  if s.cannon.bearing = some target then enterClaiming ch s
  else
    (s.onCannon fun c =>
      { c with
        state := .slewing
        drive := some (turnTowards s.cfg c.bearing target (Config.freeTurn s.free))
        slew := .startAt s.now (s.cfg.slewTimeout * 1000) }).drawFree

/-- The entry into PRIMING: the branch opens and the priming timer starts (R75). -/
def enterPriming (s : State) : State :=
  s.onCannon fun c =>
    { c with state := .priming, branchOpen := true, priming := .startAt s.now (s.cfg.primingTime * 1000) }

/-- A selected entry becomes a chain, and the cannon goes on from the state in which the selection finds it (R74). The
request is not open in the other states. -/
def startChain (e : Entry) (s : State) : State :=
  let was := s.cannon.state
  let waits := decide (was = .draining) || decide (was = .priming)
  let ch := planChain s.sec s.cfg.quantum waits e
  let s1 :=
    ((s.setRequest false).setEntries
      (changeEntry e.face e.cls (fun e => { e with running := true }) s.queue.entries)).onCannon fun c =>
        { c with chain := some ch, chargeFace := some e.face, standby := .stopped }
  match was with
  | .parked => if s.cannon.primed then enterSlewing ch s1 else enterPriming s1
  | .standby => enterPriming s1
  | _ => s1

/-- A selection can reach the cannon: no chain is active and its state opens or keeps a request (R73, R74). -/
def Cannon.selectable (c : Cannon) : Bool :=
  c.chain.isNone
    && (decide (c.state = .parked) || decide (c.state = .standby) || decide (c.state = .draining)
        || decide (c.state = .priming))

/-- The queue tries a selection for an open request, in RUN (R67). -/
def trySelection (s : State) : State :=
  if s.queue.request && s.inRun && s.cannon.selectable && !s.locked then
    match s.choose with
    | some e => startChain e s
    | none => s
  else s

/-- The request opens; one that is already open stays open (R73). -/
def openRequest (s : State) : State := if s.queue.request then s else trySelection (s.setRequest true)

/-! ### The states without a chain (R73, R88, R91, R92) -/

/-- The standby timer at the full count, where it runs (R73). -/
def State.standbyTimer (s : State) : Timer :=
  if s.operational && decide (0 < s.cfg.standbyCount) then .startAt s.now (s.cfg.standbyCount * 60000) else .stopped

/-- The cannon comes to PARKED: the branch opens if it is closed, with primed false, and the standby timer starts
(R73, R88, R90). -/
def parkCannon (s : State) : State :=
  s.onCannon fun c =>
    { c with
      state := .parked, branchOpen := true, primed := c.primed && c.branchOpen, standby := s.standbyTimer
      drain := .stopped, priming := .stopped }

/-- The entry into PARKED, which opens the request (R73). -/
def enterParked (s : State) : State := openRequest (parkCannon s)

/-- The cannon comes to LOCKED with the branch as it stands, and the request is withdrawn (R73, R88). -/
def lockCannon (s : State) : State :=
  (s.setRequest false).onCannon fun c =>
    { c with state := .locked, standby := .stopped, drain := .stopped, priming := .stopped }

/-- A priming abandoned at a LOCK: the branch closes and primed stays false (R75, R88). -/
def abandonPriming (s : State) : State :=
  lockCannon (s.onCannon fun c => { c with branchOpen := false, primed := false })

/-- The entry into DRAINING (R91). -/
def drainCannon (s : State) : State :=
  s.onCannon fun c => { c with state := .draining, drain := .startAt s.now (s.cfg.drainTime * 1000) }

/-- The entry into FAULT, with the request withdrawn (R92). -/
def faultCannon (s : State) : State :=
  (s.setRequest false).onCannon fun c =>
    { c with state := .fault, standby := .stopped, drain := .stopped, priming := .stopped }

/-! ### Chain ends (R83, R84) -/

/-- The spray record of a chain end (R93). -/
def Cannon.record (sec : Nat) (ch : Chain) (cause : Cause) (c : Cannon) : Cannon :=
  let r : SprayRecord :=
    { serial := c.nextSerial, face := ch.face, cls := ch.cls, origin := ch.origin, requested := ch.requested
      delivered := ch.litres, planned := ch.planned, completed := ch.completed
      firstFailed := if cause = .complete then none else some ch.index
      cause := cause, start := ch.start, finish := sec }
  let log := c.log ++ [r]
  { c with log := log.drop (log.length - 8), nextSerial := (c.nextSerial + 1) % 256 }

/-- The own claim at a chain end: released, or NONE with nothing sent under DUPLICATE and RESTART (R83 step 2, R107). -/
def endClaim (cause : Cause) (s : State) : State :=
  match cause with
  | .duplicate => noClaim s
  | .restart => noClaim s
  | _ => releaseClaim s

/-- What the cannon does after a chain end, by the cause, the state in which the chain ended and whether the valve had
opened; and the request opened or withdrawn with the report (R84, R73). -/
def afterChain (cause : Cause) (ch : Chain) (s : State) : State :=
  match cause with
  | .lockout =>
    match s.cannon.state with
    | .spraying => drainCannon (s.setRequest false)
    | .claiming => if ch.valveOpened then drainCannon (s.setRequest false) else lockCannon s
    | .slewing => lockCannon s
    | .priming => abandonPriming s
    | _ => s.setRequest false
  | .driveFault => faultCannon s
  | .noFlow =>
    if s.cannon.noFlowCount = 0 then
      (parkCannon (s.onCannon fun c => { c with noFlowCount := 1 })).setRequest true
    else faultCannon s
  | .restart => s.setRequest false
  | _ =>
    match s.cannon.state with
    | .priming => s.setRequest true
    | .draining => s.setRequest true
    | _ => if ch.valveOpened then drainCannon (s.setRequest true) else (parkCannon s).setRequest true

/-- A chain end, taken whole; without a chain there is nothing to end (R83). The cannon's next state is taken before
the report, so that the selection of R61 step 6 finds it. -/
def chainEnd (cause : Cause) (s : State) : State :=
  match s.cannon.chain with
  | none => s
  | some ch =>
    let s1 := endClaim cause (s.onCannon Cannon.halt)
    let s2 := s1.onCannon fun c => { c.record s.sec ch cause with chain := none }
    trySelection (queueChainEnd ch cause (afterChain cause ch s2))

/-! ### Offers and preemption (R59, R67) -/

/-- An added or merged KNOCKDOWN for another face stops a running chain of a lower class (R59). -/
def preempt (o : Offer) (s : State) : State :=
  match s.queue.entries.find? Entry.running with
  | some e =>
    if o.cls = .knockdown ∧ e.face ≠ o.face ∧ e.cls ≠ .knockdown ∧ !s.held o.face then chainEnd .preempted s else s
  | none => s

/-- The deadline of an offered PREWET that local time has already reached (R56, R57, R64). -/
def passOffered (o : Offer) (s : State) : State :=
  match (findEntry o.face o.cls s.queue.entries).filter (Entry.deadlineDue s.sec) with
  | some e => passDeadline e s
  | none => s

/-- An offer taken whole: the queue's handling, a deadline already reached, preemption and the selection (R55 to R59,
R64, R67). -/
def offerDemand (o : Offer) (s : State) : State × OfferAnswer :=
  match admitOffer o s with
  | (s1, .merged) => (trySelection (preempt o (passOffered o s1)), .merged)
  | (s1, .added) => (trySelection (preempt o (passOffered o s1)), .added)
  | r => r

/-! ### The pulse train (R78, R79) -/

/-- A face whose arc is one bearing is not swept (R80). -/
def pointArc (d : FaceDesc) : Bool := decide (d.arcStart = d.arcEnd)

/-- The header pressure reads below P_min (R108). -/
def State.lowPressure (s : State) : Bool :=
  match s.claim.pressure with
  | some p => decide (p < s.cfg.pMin)
  | none => false

/-- The valve opens with the on timer at T_on'; at T_on' = P it is not closed before the period ends (R78). -/
def Cannon.openValve (now period t : Nat) (c : Cannon) : Cannon :=
  { c with
    valveOpen := true, openedAt := now, onTime := some t, period := .startAt now (period * 1000)
    on := if t = period then .stopped else .startAt now (t * 1000)
    noFlow := c.noFlow.resume now }

/-- The entry into SPRAYING from CLAIMING with T_on' (R78, R80, R85, R108). -/
def enterSpraying (t : Nat) (s : State) : State :=
  match s.cannon.chain, s.cannon.state with
  | some ch, .claiming =>
    let swept := !pointArc (s.descOf ch.face)
    let s1 := s.onCannon fun c =>
      { c.openValve s.now s.cfg.period t with
        state := .spraying
        chain := some { ch with valveOpened := true }
        drive := if swept then some ch.sweep else none
        slew := if swept then s.cannon.slew.startLeg s.now (s.cfg.slewTimeout * 1000) else .stopped
        noFlow := .startAt s.now (s.cfg.noFlowTime * 1000) }
    s1.setClaim
      { s1.claim with lowSince := if s.lowPressure then some s.now else none, stageAt := none, staged := false }
  | _, _ => s

/-- A changed T_on' applied to the pulse train: at once when lowered, from the next opening when raised (R79). Where the
on timer, which a raise leaves as it was timed, already ends before a lowered T_on', it keeps its earlier end (log 39). -/
def Cannon.applyOnTime (now t : Nat) (c : Cannon) : Cannon :=
  if c.valveOpen && decide (t < c.onTime.getD 0) then
    if c.openedAt + t * 1000 ≤ now then { c.closeValve now with onTime := some t }
    else
      { c with
        onTime := some t
        on :=
          match c.on with
          | .running due => .running (min due (c.openedAt + t * 1000))
          | _ => .running (c.openedAt + t * 1000) }
  else { c with onTime := some t }

/-- A changed T' reported to the cannon while it is SPRAYING (R79). -/
def changeOnTime (t : Nat) (s : State) : State :=
  if s.cannon.state = .spraying then s.onCannon fun c => c.applyOnTime s.now t else s

/-! ### Decisions on the claim (R102, R104, R105) -/

/-- A grant or a throttle that ends the wait in CLAIMING (R77, R102). -/
def settleDecision (d : Decision) (s : State) : State :=
  match d.tHeld with
  | some t => enterSpraying t (takeDecision d s)
  | none => takeDecision d s

/-- The recompute of a DEFERRED, GRANTED or THROTTLED own claim (R104, R105). -/
def recompute (s : State) : State :=
  match s.claim.own.state with
  | .none => s
  | .settling => s
  | .deferred => if s.decision.state = .deferred then s else settleDecision s.decision s
  | _ =>
    match s.decision.tHeld with
    | some t => changeOnTime t (takeDecision s.decision s)
    | none => chainEnd .yielded s

/-! ### The gating (R97) -/

/-- A change in the set of allowed classes: the open request is retried, and a chain whose class is no longer allowed
stops SOURCE (R97, R87). -/
def gatingEffects (before : Gate) (s : State) : State :=
  if s.gate = before then s
  else
    let s1 := trySelection s
    match s1.cannon.chain with
    | some ch => if s1.gate.allows ch.cls then s1 else chainEnd .source s1
    | none => s1

/-! ### Locks, MUTE and FAULT (R88, R89, R92) -/

/-- The cannon's response to a LOCK that finds the list empty (R88). -/
def respondToLock (s : State) : State :=
  match s.cannon.state with
  | .parked => lockCannon s
  | .standby => lockCannon s
  | .priming => if s.cannon.chain.isSome then chainEnd .lockout s else abandonPriming s
  | .draining => if s.cannon.chain.isSome then chainEnd .lockout s else s.setRequest false
  | .locked => s
  | .fault => s
  | _ => chainEnd .lockout s

/-- The cannon's response when the lock list becomes empty (R88, R168). -/
def respondToUnlock (s : State) : State := if s.cannon.state = .locked then enterParked s else s

/-- PARKED, or LOCKED while the lock list is not empty (R90, R92). -/
def parkOrLock (s : State) : State := if s.locked then lockCannon s else enterParked s

/-- The end of FAULT at a CLEAR FAULT (R92, R85). -/
def leaveFault (s : State) : State := parkOrLock (s.onCannon fun c => { c with noFlowCount := 0 })

/-- A panel RESTART in the cannon, after its chain has ended: drain and priming abandoned, FAULT left, primed kept
unless the branch was closed or a priming was abandoned (R90). -/
def restartCannon (s : State) : State :=
  parkOrLock
    (s.onCannon fun c =>
      { c.halt with
        state := .parked, noFlowCount := 0, primed := c.primed && !decide (c.state = .priming), drain := .stopped
        priming := .stopped, standby := .stopped })

/-! ### FLOW_PULSE (R81, R82) -/

/-- The litre belongs to the chain: the cannon is SLEWING, CLAIMING or SPRAYING for it (R81). -/
def Cannon.chargesChain (c : Cannon) : Bool :=
  decide (c.state = .slewing) || decide (c.state = .claiming) || decide (c.state = .spraying)

/-- The litre credited to the charge face (R22, R81). -/
def chargeFaceLitre (s : State) : State :=
  match s.cannon.chargeFace with
  | some f =>
    changeRecord f
      (fun r =>
        { r with pendingSpray := satAdd maxU16 r.pendingSpray 1, sprayed := satAdd maxU32 r.sprayed 1 }) s
  | none => s

/-- The no-flow watch starts again at the litre: it counts while the valve is open (R85). -/
def Cannon.restartWatch (now noFlowTime : Nat) (c : Cannon) : Cannon :=
  if c.state = .spraying then
    { c with noFlow := if c.valveOpen then .startAt now (noFlowTime * 1000) else .paused (noFlowTime * 1000) }
  else c

/-- The litre counted in the segment and in the chain (R81). -/
def Chain.addLitre (ch : Chain) : Chain := { ch with segment := ch.segment + 1, litres := ch.litres + 1 }

/-- The segment ends COMPLETE: the claim is released, and the next segment or the chain end follows (R82). -/
def completeSegment (ch : Chain) (s : State) : State :=
  let done := { ch with completed := ch.completed + 1 }
  if ch.index < ch.planned then
    let next := { done with index := ch.index + 1, segment := 0 }
    enterClaiming next
      (releaseClaim (s.onCannon fun c => { c.haltSegment s.now with noFlowCount := 0, chain := some next }))
  else chainEnd .complete (s.onCannon fun c => { c with noFlowCount := 0, chain := some done })

/-- The litre in the chain that the cannon serves (R60, R81, R82, R85). -/
def chargeChain (s : State) : State :=
  match s.cannon.chain with
  | some ch =>
    if s.cannon.chargesChain then
      let ch1 := ch.addLitre
      let s1 := chargeEntry ch s
      let s2 := s1.onCannon fun c => { c.restartWatch s.now s.cfg.noFlowTime with chain := some ch1 }
      if ch1.volume ≤ ch1.segment then completeSegment ch1 s2 else s2
    else s
  | none => s

/-- The active chain is a KNOCKDOWN chain (R110). -/
def Cannon.knockdownChain (c : Cannon) : Bool :=
  match c.chain with
  | some ch => decide (ch.cls = .knockdown)
  | none => false

/-- FLOW_PULSE (R81): the litre is charged to the face, the account and the chain, and the gating follows (log 12). -/
def takeFlowPulse (s : State) : State :=
  if s.operational then
    gatingEffects s.gate (chargeChain (chargeAccount s.cannon.knockdownChain (chargeFaceLitre s)))
  else s

/-- FLOW_PULSE (R81). -/
def execFlowPulse (s : State) : Host.Outcome State Fault Refusal := .next (arrival takeFlowPulse s)

/-! ### ENCODER_REPORT (R76, R80) -/

/-- The report turns the sweep: it equals the end of the arc in the direction of travel, or lies past it within the
permitted arc (R80). -/
def sweepTurns (c : Configuration) (d : FaceDesc) (dir : Direction) (bearing : Nat) : Bool :=
  let at_ := clockwiseFrom c.acwStop bearing
  match dir with
  | .clockwise =>
    decide (clockwiseFrom c.acwStop d.arcEnd ≤ at_) && decide (at_ ≤ clockwiseFrom c.acwStop c.cwStop)
  | .anticlockwise => decide (at_ ≤ clockwiseFrom c.acwStop d.arcStart)

/-- The other direction. -/
def otherWay : Direction → Direction
  | .clockwise => .anticlockwise
  | .anticlockwise => .clockwise

/-- ENCODER_REPORT (R76, R80). -/
def takeEncoderReport (bearing : Nat) (s : State) : State :=
  let s1 := s.onCannon fun c => { c with bearing := some bearing }
  match s.cannon.chain, s.cannon.state, s.cannon.drive with
  | some ch, .slewing, _ => if bearing = (s.descOf ch.face).arcStart then enterClaiming ch s1 else s1
  | some ch, .spraying, some dir =>
    if !pointArc (s.descOf ch.face) && sweepTurns s.cfg (s.descOf ch.face) dir bearing then
      s1.onCannon fun c =>
        { c with
          drive := some (otherWay dir), slew := .startAt s.now (s.cfg.slewTimeout * 1000)
          chain := some { ch with sweep := otherWay dir } }
    else s1
  | _, _, _ => s1

/-- ENCODER_REPORT (R76). -/
def execEncoderReport (bearing : Fin 360) (s : State) : Host.Outcome State Fault Refusal :=
  .next (arrival (takeEncoderReport bearing.val) s)

/-! ### The cannon's timers -/

/-- ON_TIMER_EXPIRY (R78): the valve closes. -/
def takeOnTimer (s : State) : State :=
  if s.cannon.on.isDue s.now then s.onCannon (Cannon.closeValve s.now) else s

/-- ON_TIMER_EXPIRY (R78). -/
def execOnTimerExpiry (s : State) : Host.Outcome State Fault Refusal := .next (arrival takeOnTimer s)

/-- PERIOD_TIMER_EXPIRY (R78): the valve opens again and both timers restart. -/
def takePeriodTimer (s : State) : State :=
  if s.cannon.period.isDue s.now then
    if s.cannon.state = .spraying then
      s.onCannon fun c => c.openValve s.now s.cfg.period (c.onTime.getD s.cfg.tOn)
    else s.onCannon fun c => { c with period := .stopped }
  else s

/-- PERIOD_TIMER_EXPIRY (R78). -/
def execPeriodTimerExpiry (s : State) : Host.Outcome State Fault Refusal := .next (arrival takePeriodTimer s)

/-- NO_FLOW_EXPIRY (R85): the segment stops NO_FLOW. -/
def takeNoFlow (s : State) : State :=
  if s.cannon.noFlow.isDue s.now then chainEnd .noFlow (s.onCannon fun c => { c with noFlow := .stopped }) else s

/-- NO_FLOW_EXPIRY (R85). -/
def execNoFlowExpiry (s : State) : Host.Outcome State Fault Refusal := .next (arrival takeNoFlow s)

/-- SLEW_TIMEOUT (R76, R80): the chain stops DRIVE_FAULT. -/
def takeSlewTimeout (s : State) : State :=
  if s.cannon.slew.isDue s.now then chainEnd .driveFault (s.onCannon fun c => { c with slew := .stopped }) else s

/-- SLEW_TIMEOUT (R76). -/
def execSlewTimeout (s : State) : Host.Outcome State Fault Refusal := .next (arrival takeSlewTimeout s)

/-- The slew of a chain that waited for a drain or a priming (R74, R75, R91). -/
def startWaiting (ch : Chain) (s : State) : State :=
  enterSlewing { ch with waiting := false } (s.onCannon fun c => { c with chain := some { ch with waiting := false } })

/-- PRIMING_EXPIRY (R75). -/
def takePriming (s : State) : State :=
  if s.cannon.priming.isDue s.now then
    if s.cannon.state = .priming then
      let s1 := s.onCannon fun c => { c with priming := .stopped, primed := true }
      match s.cannon.chain with
      | some ch => startWaiting ch s1
      | none => enterParked s1
    else s.onCannon fun c => { c with priming := .stopped }
  else s

/-- PRIMING_EXPIRY (R75). -/
def execPrimingExpiry (s : State) : Host.Outcome State Fault Refusal := .next (arrival takePriming s)

/-- DRAIN_EXPIRY (R91). -/
def takeDrain (s : State) : State :=
  if s.cannon.drain.isDue s.now then
    let s1 := s.onCannon fun c => { c with drain := .stopped }
    if s.cannon.state = .draining then
      if s.locked then lockCannon s1
      else
        match s.cannon.chain with
        | some ch => startWaiting ch s1
        | none => enterParked s1
    else s1
  else s

/-- DRAIN_EXPIRY (R91). -/
def execDrainExpiry (s : State) : Host.Outcome State Fault Refusal := .next (arrival takeDrain s)

/-- STANDBY_EXPIRY (R73): the branch closes, and the request is open in STANDBY. -/
def takeStandby (s : State) : State :=
  if s.cannon.standby.isDue s.now then
    let s1 := s.onCannon fun c => { c with standby := .stopped }
    if s.cannon.state = .parked then
      openRequest (s1.onCannon fun c => { c with state := .standby, branchOpen := false, primed := false })
    else s1
  else s

/-- STANDBY_EXPIRY (R73). -/
def execStandbyExpiry (s : State) : Host.Outcome State Fault Refusal := .next (arrival takeStandby s)

/-! ### The Spray Queue's timers -/

/-- FAULT_HOLD_EXPIRY (R66): the hold of a face ends, and the open request is retried. -/
def takeFaultHold (f : FaceId) (s : State) : State :=
  if (s.queue.holds.get f).isDue s.now then
    trySelection (s.setQueue { s.queue with holds := s.queue.holds.set f .stopped })
  else s

/-- FAULT_HOLD_EXPIRY (R66). -/
def execFaultHoldExpiry (f : FaceId) (s : State) : Host.Outcome State Fault Refusal :=
  .next (arrival (takeFaultHold f) s)

/-- DEADLINE (R64). -/
def execDeadline (s : State) : Host.Outcome State Fault Refusal := .next (arrival passDeadlines s)

/-! ### The Water Claim Unit's commands -/

/-- SETTLE_EXPIRY (R102). -/
def takeSettle (s : State) : State :=
  if s.claim.own.settle.isDue s.now then
    if s.claim.own.state = .settling then settleDecision s.decision s
    else s.setOwn { s.claim.own with settle := .stopped }
  else s

/-- SETTLE_EXPIRY (R102). -/
def execSettleExpiry (s : State) : Host.Outcome State Fault Refusal := .next (arrival takeSettle s)

/-- CLAIM_REFRESH (R106). -/
def takeClaimRefresh (s : State) : State :=
  if s.claim.own.refresh.isDue s.now then
    if s.claim.own.state = .none then s.setOwn { s.claim.own with refresh := .stopped } else announceClaim s
  else s

/-- CLAIM_REFRESH (R106). -/
def execClaimRefresh (s : State) : Host.Outcome State Fault Refusal := .next (arrival takeClaimRefresh s)

/-- PRESSURE_READING (R108): the reading is kept, and the low time starts, runs on or becomes 0. -/
def takePressure (p : Nat) (s : State) : State :=
  if s.cannon.state = .spraying then
    if p < s.cfg.pMin then
      s.setClaim { s.claim with pressure := some p, lowSince := some (s.claim.lowSince.getD s.now) }
    else s.setClaim { s.claim with pressure := some p, lowSince := none, stageAt := none }
  else s.setClaim { s.claim with pressure := some p }

/-- PRESSURE_READING (R108). -/
def execPressureReading (p : Nat) (s : State) : Host.Outcome State Fault Refusal := .next (arrival (takePressure p) s)

/-- The claim holds flow: GRANTED or THROTTLED. -/
def ClaimState.holdsFlow : ClaimState → Bool
  | .granted => true
  | .throttled => true
  | _ => false

/-- The moment of a first stage: the low time is 5 s or more, no stage was taken in this spell, and the own claim is not
top-ranked (R108; log 16). -/
def State.firstStageDue (s : State) : Bool :=
  decide (s.cannon.state = .spraying) && s.claim.own.state.holdsFlow && s.claim.stageAt.isNone
    && (match s.claim.lowSince with
        | some t => decide (t + 5000 ≤ s.now)
        | none => false)
    && !s.topRanked

/-- FIRST_STAGE (R108). -/
def takeFirstStage (s : State) : State :=
  if s.firstStageDue then
    let t := max s.cfg.tOnMin (s.claim.own.tHeld.getD 0 / 2)
    let s1 := s.setClaim
      { s.claim with
        own := { s.claim.own with
          state := .throttled, tHeld := some t, ceiling := some t, qg := flowOf s.cfg t }
        stageAt := some s.now, staged := true }
    announceClaim (changeOnTime t s1)
  else s

/-- FIRST_STAGE (R108). -/
def execFirstStage (s : State) : Host.Outcome State Fault Refusal := .next (arrival takeFirstStage s)

/-- The moment of a second stage: 5 s after a first stage in one low spell, the own claim not top-ranked (R108, R109;
log 16). -/
def State.secondStageDue (s : State) : Bool :=
  decide (s.cannon.state = .spraying) && s.claim.lowSince.isSome
    && (match s.claim.stageAt with
        | some t => decide (t + 5000 ≤ s.now)
        | none => false)
    && !s.topRanked

/-- SECOND_STAGE (R109): the segment stops PRESSURE. -/
def takeSecondStage (s : State) : State :=
  if s.secondStageDue then chainEnd .pressure (s.setClaim { s.claim with stageAt := none }) else s

/-- SECOND_STAGE (R109). -/
def execSecondStage (s : State) : Host.Outcome State Fault Refusal := .next (arrival takeSecondStage s)

/-- The recompute that a change of the capacity in use triggers (R95 step 4, R96). -/
def recomputeOnCapacity (before : Nat) (s : State) : State := if s.capacityInUse = before then s else recompute s

/-- The rollover of a stale supply, where the day start is 1,440 minutes or more in the past (R113). -/
def rollStale (s : State) : State :=
  if s.claim.supply.stale && s.dayOver then gatingEffects s.gate (staleRollover s) else s

/-- The stale timer has reached 300 s and SUPPLY_STALE is not yet true; the timer counts on (R96). -/
def State.supplyStaleDue (s : State) : Bool := !s.claim.supply.stale && s.claim.supply.staleTimer.isDue s.now

/-- SUPPLY_STALE_EXPIRY: the recompute for the changed capacity, then the test for a rollover (R96, R113; log 38). -/
def takeSupplyStale (s : State) : State :=
  if s.supplyStaleDue then
    rollStale
      (recomputeOnCapacity s.capacityInUse
        (s.setClaim { s.claim with supply := { s.claim.supply with stale := true } }))
  else s

/-- SUPPLY_STALE_EXPIRY (R96). -/
def execSupplyStaleExpiry (s : State) : Host.Outcome State Fault Refusal := .next (arrival takeSupplyStale s)

/-- STALE_ROLLOVER (R113). -/
def execStaleRollover (s : State) : Host.Outcome State Fault Refusal := .next (arrival rollStale s)

end Sys2Proof.Machine
end

