-- ==== Sys2Proof/Machine/Dust.lean ====
section
/-! DEFINITION. The Dust Watch Unit: readings, the exceedance state, the own notice, the upwind test, answers and the
cover list (chapter 7: R117 to R135). -/

namespace Sys2Proof.Machine

/-- The Dust Watch Unit changed. -/
def State.onDust (s : State) (g : Dust → Dust) : State := s.setDust (g s.dust)

/-! ### The upwind test (R125) -/

/-- The receiver lies upwind of the sender (R125). -/
def upwind (c : Configuration) (m : PlumeMsg) : Bool :=
  let dx := Int.ofNat c.x - Int.ofNat m.x
  let dy := Int.ofNat c.y - Int.ofNat m.y
  let dot := dx * sine m.theta + dy * cosine m.theta
  let cb := cosine c.beta
  let d2 := dx * dx + dy * dy
  decide (0 < dot) && decide (d2 * cb * cb ≤ dot * dot) && decide (d2 ≤ Int.ofNat c.dMax * Int.ofNat c.dMax)

/-! ### Answers (R128 to R130) -/

/-- A face qualifies for a KNOCKDOWN: WATCH or ACT, and within 67 degrees of the notice's wind (R128). -/
def FaceRecord.facesPlume (theta : Nat) (r : FaceRecord) : Bool :=
  decide (r.cls ≠ .quiet) && decide (angleDiff theta r.desc.normal ≤ 67)

/-- The KNOCKDOWN offers of an answer, each against the queue as the one before left it, and their count (R128). -/
def offerKnockdowns (theta node : Nat) (p : State × Nat) (f : FaceId) : State × Nat :=
  match p.1.face.records.get f with
  | some r =>
    if r.facesPlume theta then
      match offerDemand
        { face := f, cls := .knockdown, volume := p.1.cfg.vKnock, origin := .peerNotice node, deadline := none } p.1 with
      | (s1, .merged) => (s1, p.2 + 1)
      | (s1, .added) => (s1, p.2 + 1)
      | (s1, _) => (s1, p.2)
    else p
  | none => p

/-- The answer of an upwind receiver, with its offers and its count (R128). -/
def formAnswer (theta node : Nat) (s : State) : State × CoverAnswer × Nat :=
  if s.locked then (s, .locked, 0)
  else if s.cannon.state = .fault then (s, .fault, 0)
  else if s.cutOut then (s, .windCut, 0)
  else
    let r := allFaces.foldl (offerKnockdowns theta node) (s, 0)
    (r.1, if 0 < r.2 then .queued else .noFace, r.2)

/-- The pending answers with one added in the order of forming and of target, one per target (R129). -/
def insertAnswer (a : PendingAnswer) : List PendingAnswer → List PendingAnswer
  | [] => [a]
  | b :: rest =>
    if a.formed < b.formed ∨ (a.formed = b.formed ∧ a.target < b.target) then a :: b :: rest
    else b :: insertAnswer a rest

/-- The pending answers without the one to a target. -/
def dropAnswer (target : Nat) (as : List PendingAnswer) : List PendingAnswer :=
  as.filter fun a => !decide (a.target = target)

/-- The COVER frame of an answer (R129). -/
def PendingAnswer.content (a : PendingAnswer) : Content := .cover a.target a.serial a.answer a.count a.formed

/-- A new answer: queued at once, or held pending in place of an older one to the same target (R129). -/
def sendAnswer (a : PendingAnswer) (s : State) : State :=
  let r := lineOffer a.content s
  r.1.onDust fun d =>
    { d with
      answers :=
        if r.2 then dropAnswer a.target d.answers else insertAnswer a (dropAnswer a.target d.answers) }

/-- One pending answer offered again (R129). -/
def retryAnswer (s : State) (a : PendingAnswer) : State :=
  let r := lineOffer a.content s
  if r.2 then r.1.onDust fun d => { d with answers := dropAnswer a.target d.answers } else r.1

/-- A COVER lost after its last attempt becomes a pending answer again, unless one to its target is held (R129). -/
def returnAnswer (a : PendingAnswer) (s : State) : State :=
  if s.dust.answers.any fun b => decide (b.target = a.target) then s
  else s.onDust fun d => { d with answers := insertAnswer a d.answers }

/-! ### The cover list (R131, R132) -/

/-- An answer entered in the cover list (R131). -/
def putCover (e : CoverEntry) (cs : List CoverEntry) : List CoverEntry :=
  if cs.any fun c => decide (c.responder = e.responder) then
    cs.map fun c => if c.responder = e.responder then e else c
  else if cs.length < 8 then cs ++ [e] else cs

/-- An answer covers the notice: QUEUED with a count of 1 or more (R132). -/
def CoverEntry.covers (e : CoverEntry) : Bool := decide (e.answer = .queued) && decide (1 ≤ e.count)

/-- An answer taken into the list, and the covered marker (R131, R132). -/
def Dust.takeCover (sec : Nat) (e : CoverEntry) (d : Dust) : Dust :=
  let d1 := { d with cover := putCover e d.cover }
  if e.covers && !d.covered then { d1 with covered := true, coverage := some sec, response := .stopped } else d1

/-- The self-test: the station's own answer to its own notice, entered in the cover list (R130). -/
def selfTest (s : State) : State :=
  let r := formAnswer s.wind.record.bearing s.station.node s
  r.1.onDust
    (Dust.takeCover s.sec { responder := s.station.node, answer := r.2.1, count := r.2.2, time := s.sec })

/-! ### The own notice (R120 to R124) -/

/-- The PLUME frame of the notice as the wind and the mean stand (R123). -/
def State.plumeContent (s : State) : Content :=
  .plume s.cfg.x s.cfg.y s.wind.record.bearing (s.dust.mean.getD 0) (s.dust.serial.getD 0)

/-- The notice is announced, or its announcement is held pending (R123). -/
def announceNotice (s : State) : State :=
  let r := lineOffer s.plumeContent s
  r.1.onDust fun d => { d with announce := !r.2 }

/-- The pending announcement is offered again, in RUN and in EXCEED (R123). -/
def retryNotice (s : State) : State :=
  if s.inRun ∧ s.dust.announce ∧ s.dust.level = .exceed then announceNotice s else s

/-- The pending answers are offered again in RUN, in their order (R129). -/
def retryAnswers (s : State) : State := if s.inRun then s.dust.answers.foldl retryAnswer s else s

/-- The pending announcement, then the pending answers (R123, R129). -/
def retryDust (s : State) : State := retryAnswers (retryNotice s)

/-- A new notice begins (R120). -/
def startNotice (s : State) : State :=
  let s1 := s.onDust fun d =>
    { d with
      level := .exceed, serial := some d.nextSerial, nextSerial := (d.nextSerial + 1) % 256, cover := []
      covered := false, uncovered := false, coverage := none
      response := .startAt s.now (s.cfg.responseWindow * 1000) }
  (announceNotice (selfTest s1)).onDust fun d => { d with refresh := .startAt s.now 300000, count := 0 }

/-- A return to EXCEED (R121). -/
def returnToExceed (s : State) : State :=
  let s1 := s.onDust fun d => { d with level := .exceed, recovery := .stopped }
  (announceNotice (selfTest s1)).onDust fun d => { d with refresh := .startAt s.now 300000 }

/-! ### DUST_READING (R117 to R121) -/

/-- The consecutive exceedance count after a mean in CLEAR or ELEVATED (R119). -/
def nextCount (lExc mean : Nat) (level : Exceedance) (count : Nat) : Nat :=
  if mean < lExc then 0 else if level = .elevated then count + 1 else 1

/-- A mean applied to the exceedance state (R119, R121). -/
def applyMean (mean : Nat) (s : State) : State :=
  let c := s.cfg
  match s.dust.level with
  | .exceed =>
    if mean < c.lElev then
      s.onDust fun d =>
        { d with
          level := .recovering, recovery := .startAt s.now (c.recoveryTime * 60000), refresh := .stopped
          announce := false }
    else s
  | .recovering =>
    if c.lExc ≤ mean then returnToExceed s
    else if c.lElev ≤ mean then s.onDust fun d => { d with recovery := .startAt s.now (c.recoveryTime * 60000) }
    else s
  | level =>
    let n := nextCount c.lExc mean level s.dust.count
    let s1 := s.onDust fun d => { d with count := n, level := if mean < c.lElev then .clear else .elevated }
    if 3 ≤ n then startNotice s1 else s1

/-- The window after a reading (R117). -/
def pushReading (v : Nat) (w : List Nat) : List Nat :=
  let w1 := w ++ [v]
  w1.drop (w1.length - 6)

/-- A reading into the window; with 6 readings the mean is formed and applied (R117, R118). -/
def takeReading (v : Nat) (s : State) : State :=
  let w := pushReading v s.dust.window
  let s1 := s.onDust fun d => { d with window := w, silent := false, watch := .startAt s.now 40000 }
  if w.length = 6 then
    let mean := w.sum / 6
    applyMean mean (s1.onDust fun d => { d with mean := some mean, recovery := d.recovery.resume s.now })
  else s1

/-- DUST_READING (R117): the reading, then the frames that were pending before it (R123, R129; log 17). -/
def takeDustReading (value : Int) (s : State) : State :=
  if s.operational then
    let s1 := takeReading (clampInt 5000 value) s
    retryAnswers (if s.dust.announce then retryNotice s1 else s1)
  else s

/-- DUST_READING (R117). -/
def execDustReading (value : Int) (s : State) : Host.Outcome State Fault Refusal :=
  .next (arrival (takeDustReading value) s)

/-! ### The unit's timers -/

/-- READING_WATCH_EXPIRY (R118): the monitor falls silent at the first expiry, and each later one is a retry point. -/
def takeReadingWatch (s : State) : State :=
  if s.dust.watch.isDue s.now then
    if s.dust.silent then retryDust (s.onDust fun d => { d with watch := d.watch.reload 10000 })
    else
      s.onDust fun d =>
        { d with
          window := [], count := 0, silent := true, recovery := d.recovery.pause s.now
          watch := d.watch.reload 10000 }
  else s

/-- READING_WATCH_EXPIRY (R118). -/
def execReadingWatchExpiry (s : State) : Host.Outcome State Fault Refusal := .next (arrival takeReadingWatch s)

/-- PLUME_REFRESH (R124). -/
def takePlumeRefresh (s : State) : State :=
  if s.dust.refresh.isDue s.now then
    if s.dust.level = .exceed then
      (announceNotice s).onDust fun d => { d with refresh := .startAt s.now 300000 }
    else s.onDust fun d => { d with refresh := .stopped }
  else s

/-- PLUME_REFRESH (R124). -/
def execPlumeRefresh (s : State) : Host.Outcome State Fault Refusal := .next (arrival takePlumeRefresh s)

/-- RECOVERY_EXPIRY (R122): the notice ends. -/
def takeRecovery (s : State) : State :=
  if s.dust.recovery.isDue s.now then
    if s.dust.level = .recovering then
      s.onDust fun d =>
        { d with level := .clear, count := 0, recovery := .stopped, response := .stopped, announce := false }
    else s.onDust fun d => { d with recovery := .stopped }
  else s

/-- RECOVERY_EXPIRY (R122). -/
def execRecoveryExpiry (s : State) : Host.Outcome State Fault Refusal := .next (arrival takeRecovery s)

/-- RESPONSE_WINDOW_EXPIRY (R132): a notice without a covering answer raises PLUME_UNCOVERED. -/
def takeResponseWindow (s : State) : State :=
  if s.dust.response.isDue s.now then
    if s.dust.covered then s.onDust fun d => { d with response := .stopped }
    else raisePlumeUncovered (s.onDust fun d => { d with response := .stopped, uncovered := true })
  else s

/-- RESPONSE_WINDOW_EXPIRY (R132). -/
def execResponseWindowExpiry (s : State) : Host.Outcome State Fault Refusal := .next (arrival takeResponseWindow s)

/-- A pending answer has waited 600 s (R129). -/
def PendingAnswer.expired (sec : Nat) (a : PendingAnswer) : Bool := decide (a.formed + 600 ≤ sec)

/-- PENDING_ANSWER_EXPIRY (R129): the answer to a target leaves the pending answers. -/
def takePendingAnswer (target : Nat) (s : State) : State :=
  s.onDust fun d =>
    { d with answers := d.answers.filter fun a => !(decide (a.target = target) && a.expired s.sec) }

/-- PENDING_ANSWER_EXPIRY (R129). -/
def execPendingAnswerExpiry (target : Nat) (s : State) : Host.Outcome State Fault Refusal :=
  .next (arrival (takePendingAnswer target) s)

/-! ### Frames of the line (R126, R127, R131) -/

/-- A PLUME frame acted on (R126): in LISTEN and RUN, with a bearing, an unmarked serial and the station upwind. -/
def takePlume (sender : Nat) (m : PlumeMsg) (s : State) : State :=
  if (s.station.mode = .listen ∨ s.station.mode = .run) ∧ m.theta ≤ 359
      ∧ (findPeer sender s.peers.entries).bind Peer.acted ≠ some m.serial ∧ upwind s.cfg m then
    let s1 :=
      s.setPeerEntries (changePeer sender (fun p => { p with acted := some m.serial }) s.peers.entries)
    let r := formAnswer m.theta sender s1
    sendAnswer
      { target := sender, serial := m.serial, answer := r.2.1, count := r.2.2, formed := s.sec } r.1
  else s

/-- A COVER frame for the present notice (R131, R132). -/
def takeCoverFrame (sender : Nat) (m : CoverMsg) (s : State) : State :=
  if s.operational ∧ m.target = s.station.node ∧ s.noticeStands ∧ s.dust.serial = some m.serial then
    s.onDust
      (Dust.takeCover s.sec
        { responder := sender, answer := m.answer, count := if m.answer = .queued then m.count else 0, time := s.sec })
  else s

/-- A STATUS reporting CLEAR or ELEVATED makes the sender's acted serial absent (R127). -/
def clearActed (sender : Nat) (level : Exceedance) (s : State) : State :=
  if s.operational ∧ (level = .clear ∨ level = .elevated) then
    s.setPeerEntries (changePeer sender (fun p => { p with acted := none }) s.peers.entries)
  else s

/-! ### Restart (R135) -/

/-- The Dust Watch Unit at a panel RESTART (R135). -/
def Dust.restart (d : Dust) : Dust :=
  { d with
    window := [], mean := none, watch := .stopped, level := .clear, count := 0, recovery := .stopped
    refresh := .stopped, response := .stopped, announce := false, cover := [], covered := false, coverage := none
    uncovered := false, answers := [] }

end Sys2Proof.Machine
end

