-- ==== Sys2Proof/Machine/Forecast.lean ====
section
/-! DEFINITION. The Forecast Table: acceptance, slot ends and staleness (chapter 1: R12 to R16). -/

namespace Sys2Proof.Machine

/-- The frame passes the checks of R12 on its content. -/
def ForecastMsg.sound (m : ForecastMsg) : Bool :=
  decide (1 ≤ m.slots.length) && decide (m.slots.length ≤ 12) && decide (m.lead ≤ 29)
    && m.slots.all fun k => decide (k.bearing ≤ 359)

/-- The issue is newer than the stored one (R13). -/
def newerIssue (issue : Nat) (stored : Option Nat) : Bool :=
  match stored with
  | some old => let d := (issue + 256 - old % 256) % 256; decide (1 ≤ d) && decide (d ≤ 127)
  | none => true

/-- The slots of an issue with lead offset o accepted at minute a (R14), speeds clamped to 400 (R12). -/
def timedSlots (start : Nat) : List CarriedSlot → List Slot
  | [] => []
  | k :: rest =>
    { start := start, finish := start + 30, mean := min 400 k.mean, gust := min 400 k.gust, bearing := k.bearing
      rain := k.rain } :: timedSlots (start + 30) rest

/-- The table accepts the issue (R13). -/
def Forecast.accepts (m : ForecastMsg) (t : Forecast) : Bool :=
  m.sound && (t.slots.isEmpty || newerIssue m.issue t.issue)

/-- The table replaced whole (R13). -/
def Forecast.replace (minute : Nat) (m : ForecastMsg) : Forecast :=
  { issue := some m.issue, arrival := some minute, slots := timedSlots (minute + m.lead) m.slots
    staleStart := some minute, stale := false }

/-- A FORECAST frame from a sender offered to the table (R12, R13). -/
def takeForecast (sender : Nat) (m : ForecastMsg) (s : State) : State :=
  if s.operational && decide (sender = s.cfg.forecastNode) && s.forecast.accepts m then
    s.setForecast (Forecast.replace s.minute m)
  else s

/-- The front slot has reached its end (R15). -/
def Forecast.slotDue (minute : Nat) (t : Forecast) : Bool :=
  match t.slots with
  | k :: _ => decide (k.finish ≤ minute)
  | [] => false

/-- SLOT_END (R15): the front slot is removed. -/
def takeSlotEnd (s : State) : State :=
  if s.forecast.slotDue s.minute then s.setForecast { s.forecast with slots := s.forecast.slots.tail } else s

/-- SLOT_END (R15). -/
def execSlotEnd (s : State) : Host.Outcome State Fault Refusal := .next (arrival takeSlotEnd s)

/-- Local time has reached the stale start + 180 (R16). -/
def Forecast.staleDue (minute : Nat) (t : Forecast) : Bool :=
  !t.stale
    && (match t.staleStart with
        | some m => decide (m + 180 ≤ minute)
        | none => false)

/-- FORECAST_STALE_EXPIRY (R16). -/
def takeForecastStale (s : State) : State :=
  if s.forecast.staleDue s.minute then s.setForecast { s.forecast with stale := true } else s

/-- FORECAST_STALE_EXPIRY (R16). -/
def execForecastStaleExpiry (s : State) : Host.Outcome State Fault Refusal := .next (arrival takeForecastStale s)

/-- The stale start set at the first LISTEN entry, if no issue has been accepted (R16). -/
def startForecastStale (s : State) : State :=
  if s.forecast.issue.isNone then s.setForecast { s.forecast with staleStart := some s.minute } else s

end Sys2Proof.Machine
end

