-- ==== Sys2Proof/Machine/Face.lean ====
section
/-! DEFINITION. The Face Model Unit: rain pulses and the eight steps of an evaluation (chapter 2: R19 to R37). The
look-ahead run that ends an evaluation is in Machine/LookAhead.lean. -/

namespace Sys2Proof.Machine

/-! ### Records (R19, R20) -/

/-- A face record when it is formed (R20). -/
def FaceRecord.formed (d : FaceDesc) : FaceRecord :=
  { desc := d, m := d.mInit, rd := 0, rs := 0, pendingSpray := 0, pendingRain := 0, sprayed := 0, index := 0
    cls := .quiet, active := false, estimated := true, lastPrewet := none, runoff := 0, lastEval := none
    lastSizing := none }

/-- The record of a description: none where it is not enabled (R19). -/
def formRecord (d : FaceDesc) : Option FaceRecord := if d.enabled then some (FaceRecord.formed d) else none

/-- The lowest-numbered face that has a record (R81). -/
def lowestFace (rs : PerFace (Option FaceRecord)) : Option FaceId := allFaces.find? fun f => (rs.get f).isSome

/-- The face records formed from the settings in force, the summaries absent and the charge face corrected (R19, R52,
R81). -/
def formRecords (s : State) : State :=
  let rs := s.cfg.faces.map formRecord
  let keep := match s.cannon.chargeFace with
    | some f => (rs.get f).isSome
    | none => false
  ((s.setFace { s.face with records := rs }).setLook ⟨none, none, none, none⟩).onCannon fun c =>
    { c with chargeFace := if keep then c.chargeFace else lowestFace rs }

/-! ### RAIN_PULSE (R21) -/

/-- A pulse counted in a record (R21). -/
def FaceRecord.addRain (r : FaceRecord) : FaceRecord := { r with pendingRain := satAdd maxU16 r.pendingRain 1 }

/-- RAIN_PULSE (R21). -/
def takeRainPulse (s : State) : State :=
  if s.operational then s.setFace { s.face with records := s.face.records.map (Option.map FaceRecord.addRain) } else s

/-- RAIN_PULSE (R21). -/
def execRainPulse (s : State) : Host.Outcome State Fault Refusal := .next (arrival takeRainPulse s)

/-! ### Steps 1 to 7 (R25 to R31) -/

/-- The exposure factor of an angle (R25). -/
def exposure (delta : Nat) : Nat :=
  if delta ≤ 22 then 16 else if delta ≤ 45 then 14 else if delta ≤ 67 then 11 else if delta ≤ 90 then 8
  else if delta ≤ 112 then 6 else if delta ≤ 135 then 4 else if delta ≤ 157 then 3 else 2

/-- The exposure factor of a face under the minute wind (R25). -/
def WindRecord.exposureOf (w : WindRecord) (normal : Nat) : Nat :=
  if w.source = .fallback then 16 else exposure (angleDiff w.bearing normal)

/-- The three cases of drying: moisture and remainder after a sum S (R26, R43). -/
def dry (m sum : Nat) : Nat × Nat :=
  let loss := sum / 8192
  if m < loss then (0, 0) else (m - loss, sum % 8192)

/-- The effective wind (R30, R45). -/
def effectiveWind (w e : Nat) : Nat := w * e / 16

/-- The threshold wind (R30, R45). -/
def thresholdWind (d : FaceDesc) (m : Nat) : Nat := min 400 (d.wt0 + m * d.km / 100)

/-- The index of an excess, before activity (R30, R45). -/
def excessIndex (weff wt : Nat) : Nat := (weff - wt) * (weff - wt) / 64

/-- Step 1, drying (R26). -/
def stepDrying (w e : Nat) (r : FaceRecord) : FaceRecord :=
  let p := dry r.m (r.rd + r.desc.kd * (w + 20) * e)
  { r with m := p.1, rd := p.2 }

/-- The rain gain (R27). -/
def rainGain (r : FaceRecord) : Nat := r.pendingRain * r.desc.kw / 5

/-- The spray total T (R27). -/
def sprayTotal (r : FaceRecord) : Nat := r.rs + r.pendingSpray * r.desc.kw

/-- The runoff litres of step 4 (R28). -/
def runoffLitres (d : FaceDesc) (sum : Nat) : Nat := (sum - d.msat) * d.area / d.kw

/-- Steps 2 to 4: gains, saturation and runoff (R27, R28). The second part is the litres credited. -/
def stepGains (r : FaceRecord) : FaceRecord × Nat :=
  let gr := rainGain r
  let gs := sprayTotal r / r.desc.area
  let sum := r.m + gr + gs
  let litres := runoffLitres r.desc sum
  ({ r with
      m := min r.desc.msat sum
      rs := sprayTotal r % r.desc.area
      pendingRain := 0, pendingSpray := 0
      estimated := r.estimated && decide (gr = 0) && decide (gs = 0)
      runoff := satAdd maxU32 r.runoff litres }, litres)

/-- A working machine lies within the face radius (R29). -/
def machineNear (d : FaceDesc) (p : Nat × Nat) : Bool :=
  decide ((Int.ofNat p.1 - Int.ofNat d.centreX) ^ 2 + (Int.ofNat p.2 - Int.ofNat d.centreY) ^ 2
    ≤ (Int.ofNat d.radius) ^ 2)

/-- Step 5, activity (R29). -/
def faceActive (contact : Bool) (machines : List (Nat × Nat)) (d : FaceDesc) : Bool :=
  (d.contact && contact) || machines.any (machineNear d)

/-- Step 7, the class from the index and the class before (R31). -/
def nextClass (c : Configuration) (i : Nat) : FaceClass → FaceClass
  | .quiet => if c.tAct ≤ i then .act else if c.tWatch ≤ i then .watch else .quiet
  | .watch => if c.tAct ≤ i then .act else if i < c.tWatch - c.hyst then .quiet else .watch
  | .act => if i < c.tAct - c.hyst then .watch else .act

/-- Steps 5 to 7 on a record (R29 to R31). -/
def stepIndex (sec w e : Nat) (c : Configuration) (active : Bool) (r : FaceRecord) : FaceRecord :=
  let weff := effectiveWind w e
  let wt := thresholdWind r.desc r.m
  let i := min 255 (excessIndex weff wt + if active then r.desc.ka else 0)
  { r with
    active := active, index := i, cls := nextClass c i r.cls
    lastEval := some { time := sec, e := e, weff := weff, wt := wt } }

/-- Steps 1 to 7 on a record, and the runoff litres credited (R24 to R31). -/
def evaluateRecord (sec : Nat) (c : Configuration) (w : WindRecord) (contact : Bool) (machines : List (Nat × Nat))
    (r : FaceRecord) : FaceRecord × Nat :=
  let e := w.exposureOf r.desc.normal
  let g := stepGains (stepDrying w.speed e r)
  (stepIndex sec w.speed e c (faceActive contact machines r.desc) g.1, g.2)

/-! ### Step 8 (R33 to R36) -/

/-- A face has a chain running: the queue holds a running entry for it (2.4). -/
def State.chainRuns (s : State) (f : FaceId) : Bool :=
  s.queue.entries.any fun e => decide (e.face = f) && e.running

/-- The moisture requirement of an effective wind, capped at Msat (R34, R47). -/
def requirement (d : FaceDesc) (weff : Nat) : Nat := min d.msat (ceilDiv ((weff + d.mg - d.wt0) * 100) d.km)

/-- The SUPPRESS volume (R34). -/
def suppressVolume (c : Configuration) (d : FaceDesc) (weff m : Nat) : Nat :=
  let v :=
    if d.km = 0 then c.vMaxDose
    else if requirement d weff ≤ m then c.vMin
    else ceilDiv ((requirement d weff - m) * d.area) d.kw
  clampTo c.vMin c.vMaxDose v

/-- Step 8 writes last sizing whole. An outcome that sizes no volume leaves none there, also where an earlier step 8 had
sized one (R38; log 40). -/
def recordSizing (f : FaceId) (v : Option Nat) (o : SizingOutcome) (s : State) : State :=
  changeRecord f (fun r => { r with lastSizing := some { volume := v, outcome := o } }) s

/-- The sized volume reaches the queue (R35). -/
def offerSuppress (f : FaceId) (v : Nat) (s : State) : State :=
  if (findEntry f .suppress s.queue.entries).isSome then
    recordSizing f (some v) .updated
      (s.setEntries
        (changeEntry f .suppress (fun e => { e with requested := min maxU16 (max (e.delivered + 1) v) })
          s.queue.entries))
  else
    match offerDemand { face := f, cls := .suppress, volume := v, origin := .localRisk, deadline := none } s with
    | (s1, .merged) => recordSizing f (some v) .added s1
    | (s1, .added) => recordSizing f (some v) .added s1
    | (s1, _) => recordSizing f (some v) .refused s1

/-- A QUIET face's SUPPRESS request is withdrawn (R36). Of a running one the outcome is not stated (log 31). -/
def withdrawSuppress (f : FaceId) (s : State) : State :=
  match findEntry f .suppress s.queue.entries with
  | some e =>
    if e.running then (recordSizing f (Config.freeSizing s.free).1 (Config.freeSizing s.free).2 s).drawFree
    else recordSizing f none .removed (removeEntry .withdrawn e s)
  | none => recordSizing f none .none s

/-- Step 8 (R33). SKIPPED, HELD, REMOVED and NONE size no volume (log 40). -/
def stepSuppress (f : FaceId) (r : FaceRecord) (s : State) : State :=
  match r.cls with
  | .act =>
    if s.chainRuns f then recordSizing f none .skipped s
    else offerSuppress f (suppressVolume s.cfg r.desc (r.lastEval.map LastEval.weff |>.getD 0) r.m) s
  | .watch => recordSizing f none .held s
  | .quiet => withdrawSuppress f s

/-- One face taken through steps 1 to 8 (R24). -/
def evaluateFace (s : State) (f : FaceId) : State :=
  match s.face.records.get f with
  | some r =>
    let p :=
      evaluateRecord s.sec s.cfg s.wind.record (s.pins.contacts.get f) (workingMachines s.sec s.peers.entries) r
    stepSuppress f p.1 (creditRunoff p.2 (changeRecord f (fun _ => p.1) s))
  | none => s

/-- Every face in ascending number (R24). -/
def evaluateFaces (s : State) : State := allFaces.foldl evaluateFace s

end Sys2Proof.Machine
end

