-- ==== Sys2Proof/Machine/LookAhead.lean ====
section
/-! DEFINITION. The Look-Ahead Unit, and the evaluation whole (chapter 3: R40 to R53; R24). -/

namespace Sys2Proof.Machine

/-- A slot satisfies the two conditions of the window (R41). -/
def Slot.inWindow (n lead : Nat) (k : Slot) : Bool := decide (n < k.finish) && decide (k.start ≤ n + lead)

/-- The projected minutes of a slot (R41). -/
def Slot.minutes (n : Nat) (k : Slot) : Nat := k.finish - max n k.start

/-- The predicted slot: its start, its index and its effective wind (R46). -/
structure Predicted where
  start : Nat
  index : Nat
  weff : Nat
deriving DecidableEq, Repr

/-- What a projection comes to: the slots taken, the projected moisture and the predicted slot. -/
structure Projection where
  slots : Nat
  moisture : Nat
  predicted : Option Predicted
deriving DecidableEq, Repr

/-- Drying and rain of one slot on the scratch M_p, R_p (R43, R44). -/
def projectSlot (d : FaceDesc) (n m rp : Nat) (k : Slot) : Nat × Nat :=
  let p := dry m (rp + d.kd * (k.mean + 20) * exposure (angleDiff k.bearing d.normal) * k.minutes n)
  (min d.msat (p.1 + k.rain * d.kw / 10), p.2)

/-- The slot index I_k (R45). -/
def slotIndex (d : FaceDesc) (m : Nat) (k : Slot) : Nat :=
  min 255
    (excessIndex (effectiveWind k.mean (exposure (angleDiff k.bearing d.normal))) (thresholdWind d m))

/-- The slots of the window projected in order, up to the first whose index reaches T_act (R42 to R46). Where the window
holds none, the projected moisture is the M that R42 starts from (log 37). -/
def projectSlots (tAct n : Nat) (d : FaceDesc) : List Slot → Nat → Nat → Nat → Projection
  | [], m, _, count => { slots := count, moisture := m, predicted := none }
  | k :: rest, m, rp, count =>
    let p := projectSlot d n m rp k
    if tAct ≤ slotIndex d p.1 k then
      { slots := count + 1, moisture := p.1
        predicted :=
          some
            { start := k.start, index := slotIndex d p.1 k
              weff := effectiveWind k.mean (exposure (angleDiff k.bearing d.normal)) } }
    else projectSlots tAct n d rest p.1 p.2 (count + 1)

/-- The PREWET volume of a predicted slot; none where it is SATURATED (R47). -/
def prewetVolume (c : Configuration) (d : FaceDesc) (weff m : Nat) : Option Nat :=
  if d.km = 0 then some (clampTo c.vMin c.vMaxDose c.vMaxDose)
  else if m < requirement d weff then
    some (clampTo c.vMin c.vMaxDose (ceilDiv ((requirement d weff - m) * d.area) d.kw))
  else none

/-- The PREWET deadline (R48). -/
def prewetDeadline (t n start : Nat) : Nat := if n < start then start * 60 else t

/-- A face's summary written (R51). -/
def writeSummary (f : FaceId) (y : Summary) (s : State) : State := s.setLook (s.look.set f (some y))

/-- The PREWET demand of a face, or its SKIPPED offer, and the outcome recorded (R49). -/
def offerPrewet (f : FaceId) (v d : Nat) (s : State) : State × LookOutcome :=
  if s.chainRuns f then (s, .skipped)
  else
    match offerDemand { face := f, cls := .prewet, volume := v, origin := .lookahead, deadline := some d } s with
    | (s1, .merged) => (s1, .merged)
    | (s1, .added) => (s1, .added)
    | (s1, _) => (s1, .refused)

/-- One face projected, offered and summarised (R41 to R51). -/
def lookAheadFace (s : State) (f : FaceId) : State :=
  match s.face.records.get f with
  | none => s
  | some r =>
    let n := s.minute
    let slots := s.forecast.slots.filter (Slot.inWindow n s.cfg.prewetLead)
    let p := projectSlots s.cfg.tAct n r.desc slots r.m r.rd 0
    let base : Summary :=
      { minute := n, issue := s.forecast.issue.getD 0, projected := p.slots
        outcome := if slots.isEmpty then .noSlot else .clear
        slot := p.predicted.map Predicted.start, index := p.predicted.map Predicted.index, moisture := p.moisture
        volume := none, deadline := none }
    match p.predicted with
    | none => writeSummary f base s
    | some k =>
      match prewetVolume s.cfg r.desc k.weff p.moisture with
      | none => writeSummary f { base with outcome := .saturated } s
      | some v =>
        let d := prewetDeadline s.sec n k.start
        let o := offerPrewet f v d s
        writeSummary f { base with outcome := o.2, volume := some v, deadline := some d } o.1

/-- The look-ahead run, where the table holds a slot (R40). -/
def lookAhead (s : State) : State :=
  if s.forecast.slots.isEmpty then s else allFaces.foldl lookAheadFace s

/-- EVALUATION (R24): every face through steps 1 to 8, then the look-ahead run. -/
def takeEvaluation (s : State) : State :=
  if s.face.timer.isDue s.now then
    lookAhead (evaluateFaces (s.setFace { s.face with timer := s.face.timer.reload 60000 }))
  else s

/-- EVALUATION (R24). -/
def execEvaluation (s : State) : Host.Outcome State Fault Refusal := .next (arrival takeEvaluation s)

end Sys2Proof.Machine
end

