-- ==== Sys2Proof/Machine/Wind.lean ====
section
/-! DEFINITION. The Wind Unit and its two commands (chapter 1: R2 to R11), with what a close does to the cannon
(R77, R86). -/

namespace Sys2Proof.Machine

/-! ### ANEMOMETER_SAMPLE (R3) -/

/-- The signed offset of a bearing from the first bearing, in -179..+180 (R3). -/
def bearingOffset (first bearing : Nat) : Int :=
  let d := Int.ofNat bearing - Int.ofNat first
  if 180 < d then d - 360 else if d < -179 then d + 360 else d

/-- A sample accepted into the accumulator (R3). -/
def Accumulator.add (speed bearing : Nat) (a : Accumulator) : Accumulator :=
  { count := a.count + 1, speedSum := a.speedSum + speed, largest := max a.largest speed
    first := some (a.first.getD bearing)
    offsetSum := a.offsetSum + bearingOffset (a.first.getD bearing) bearing }

/-- A sample offered to the accumulator (R3). -/
def Accumulator.offer (speed bearing : Int) (a : Accumulator) : Accumulator :=
  if bearing < 0 ∨ 359 < bearing ∨ 60 ≤ a.count then a else a.add (clampInt 400 speed) bearing.toNat

/-- ANEMOMETER_SAMPLE (R3): a sample that arrives while the minute timer runs. -/
def takeSample (speed bearing : Int) (s : State) : State :=
  if s.wind.minute.isRunning then s.setWind { s.wind with acc := s.wind.acc.offer speed bearing } else s

/-- ANEMOMETER_SAMPLE (R3). -/
def execAnemometerSample (speed bearing : Int) (s : State) : Host.Outcome State Fault Refusal :=
  .next (arrival (takeSample speed bearing) s)

/-! ### MINUTE_CLOSE (R4 to R9) -/

/-- The local minute: mean speed, gust and bearing of 10 samples or more (R4). -/
def Accumulator.minute (a : Accumulator) : Option (Nat × Nat × Nat) :=
  if 10 ≤ a.count then
    some (a.speedSum / a.count, a.largest,
      ((Int.ofNat (a.first.getD 0) + a.offsetSum.tdiv (Int.ofNat a.count)) % 360).toNat)
  else none

/-- The record of a fresh delivery (R5, R6). -/
def freshRecord (sec count : Nat) (src : WindSource) (node : Option Nat) (speed gust bearing : Nat) : WindRecord :=
  { speed := speed, gust := gust, bearing := bearing, source := src, node := node, closeTime := some sec
    lastFresh := some sec, initial := false, sampleCount := count }

/-- The last fresh wind is no more than 600 s old (R7). -/
def WindRecord.holdable (sec : Nat) (r : WindRecord) : Bool :=
  match r.lastFresh with
  | some t => decide (sec - t ≤ 600)
  | none => false

/-- The record of a close from the accumulator, the peers' reports and the record before it (R5 to R9; log 28). -/
def closeRecord (sec fallback : Nat) (a : Accumulator) (peer : Option PeerWind) (r : WindRecord) : WindRecord :=
  match a.minute, peer with
  | some (w, g, b), _ => freshRecord sec a.count .localMinute none w g b
  | none, some p => freshRecord sec a.count .peer (some p.node) p.speed p.speed p.bearing
  | none, none =>
    if r.holdable sec then
      { r with source := .held, closeTime := some sec, initial := false, sampleCount := a.count }
    else
      { r with
        speed := fallback, gust := fallback, source := .fallback, node := none, closeTime := some sec, initial := false
        sampleCount := a.count }

/-- What a close does to the cannon: WIND_CUT at a rise of the cut-out condition while SPRAYING, the claim given up in
CLAIMING, and the ask at its fall (R77, R86). -/
def cutOutEffects (before : Bool) (s : State) : State :=
  match before, s.cutOut, s.cannon.state with
  | false, true, .spraying => chainEnd .windCut s
  | false, true, .claiming =>
    if s.claim.own.state = .settling ∨ s.claim.own.state = .deferred then releaseClaim s else s
  | true, false, .claiming =>
    match s.cannon.chain with
    | some ch => askClaim ch.cls ch.basis s
    | none => s
  | _, _, _ => s

/-- The peer report that a close would take (R6). -/
def State.peerWind (s : State) : Option PeerWind := nearestWind (peerWinds s.sec s.cfg.x s.cfg.y s.peers.entries)

/-- MINUTE_CLOSE (R4). -/
def takeMinuteClose (s : State) : State :=
  if s.wind.minute.isDue s.now then
    cutOutEffects s.cutOut
      (s.setWind
        { acc := Accumulator.empty, minute := s.wind.minute.reload 60000
          record := closeRecord s.sec s.cfg.fallbackWind s.wind.acc s.peerWind s.wind.record })
  else s

/-- MINUTE_CLOSE (R4). -/
def execMinuteClose (s : State) : Host.Outcome State Fault Refusal := .next (arrival takeMinuteClose s)

/-- The power-on record takes the fallback wind speed at the LISTEN entry that ends commissioning (R11). -/
def fallbackAtListen (s : State) : State :=
  if s.wind.record.initial then
    s.setWind { s.wind with
      record := { s.wind.record with speed := s.cfg.fallbackWind, gust := s.cfg.fallbackWind } }
  else s

end Sys2Proof.Machine
end

