-- ==== Sys2Proof/Machine/Control.lean ====
section
/-! DEFINITION. Station Control: power-on, commissioning, the entries into LISTEN, RUN and MUTE, and the panel RESTART
(chapter 11: R179 to R187; R2, R16, R73, R96, R118, R145, R148, R162 to R164). -/

namespace Sys2Proof.Machine

/-- Station Control changed. -/
def State.onStation (s : State) (g : Station → Station) : State := s.setStation (g s.station)

/-- The Line Controller changed. -/
def State.onLine (s : State) (g : Line → Line) : State := s.setLine (g s.line)

/-! ### LISTEN (R183) -/

/-- The station has not entered LISTEN since power-on: the supply stale timer, which starts at that entry, has not
started (R96; log 27). -/
def State.firstListen (s : State) : Bool := decide (s.claim.supply.staleTimer = .stopped)

/-- The measures that start at the first LISTEN entry after power-on (R96, R16). -/
def startFirstListen (s : State) : State :=
  if s.firstListen then
    startForecastStale
      (s.setClaim { s.claim with supply := { s.claim.supply with staleTimer := .startAt s.now 300000 } })
  else s

/-- The sweep timer starts, unless it has run since the station left START (R145). -/
def startSweep (s : State) : State :=
  if s.peers.sweep.isRunning then s else s.setPeers { s.peers with sweep := .startAt s.now 10000 }

/-- The standby timer of a cannon that is PARKED at a LISTEN entry (R73). -/
def startStandby (s : State) : State :=
  if s.cannon.state = .parked then s.onCannon fun c => { c with standby := s.standbyTimer } else s

/-- The timers that every LISTEN entry starts, and DUPLICATE_NODE cleared (R183). -/
def startListen (s : State) : State :=
  let s1 := s.onStation fun t => { t with mode := .listen, listen := .startAt s.now 60000, window := .stopped }
  let s2 := s1.setWind { s1.wind with acc := Accumulator.empty, minute := .startAt s.now 60000 }
  let s3 := s2.setFace { s2.face with timer := .startAt s.now 60000 }
  let s4 := s3.onDust fun d => { d with watch := .startAt s.now 40000 }
  let s5 := s4.onLine fun l => { l with isolation := .startAt s.now 300000, duplicate := false }
  startStandby (startSweep s5)

/-- The blocks take the stored configuration (R181). -/
def takeSettings (s : State) : State := s.onStation fun t => { t with config := t.stored }

/-- The entry into LISTEN from START or COMMISSION: the blocks take the stored configuration and the face records are
formed from it (R19, R11, R181, R183). -/
def enterListenFresh (s : State) : State :=
  startFirstListen (fallbackAtListen (formRecords (startListen (takeSettings s))))

/-- The entry into LISTEN from a panel RESTART, which keeps the face records (R183). -/
def enterListenAgain (s : State) : State := startFirstListen (startListen s)

/-! ### POWER_ON (R179) -/

/-- The lock list as the store can hold it: at most 4 entries with distinct codes up to 999,999 (R164). -/
def validLocks (l : List (Nat × LockLevel)) : Bool :=
  decide (l.length ≤ 4) && decide ((l.map Prod.fst).Nodup) && l.all fun p => decide (p.1 ≤ 999999)

/-- The lock list loaded from the store; one that is not valid gives an empty list (R164). -/
def Store.loadLocks (st : Store) : List Lock :=
  match st.locks with
  | some l => if validLocks l then l.map fun p => { code := p.1, level := p.2, time := none } else []
  | none => []

/-- The station state after START (R179). -/
def firstMode (node : Nat) (key : Bool) (valid : Bool) : Mode :=
  if node = 0 then .unconfigured else if key then .commission else if valid then .listen else .unconfigured

/-- Every block at its power-on value, with what a power cycle keeps: the store, the commands still waiting, the input
levels and the count of free values (R179, R164; log 25). -/
def powerUp (straps : Nat) (key : Bool) (s : State) : State :=
  let config := loadBlock straps s.store.block
  let locks := s.store.loadLocks
  let base := ((State.reset.setStore s.store).setPending s.pending).setFree s.free
  let s1 := base.setPins { s.pins with straps := straps, key := key }
  let s2 := s1.onStation fun t => { t with node := straps, stored := config, config := config }
  let s3 := s2.setLockout { s2.lockout with locks := locks }
  let s4 := s3.setWind (Wind.powerOn (match config with
    | some c => c.fallbackWind
    | none => 0))
  let s5 := s4.setPeers { s4.peers with sweep := .startAt 0 10000 }
  if locks.isEmpty then s5.setRequest true
  else s5.onCannon fun c => { c with state := .locked, branchOpen := false }

/-- The station leaves START for the first state of the table that applies (R179, R181). -/
def leaveStart (m : Mode) (s : State) : State :=
  match m with
  | .listen => enterListenFresh s
  | .commission => s.onStation fun t => { t with mode := .commission, window := .startAt s.now 1800000 }
  | _ => s.onStation fun t => { t with mode := .unconfigured }

/-- POWER_ON (R179). -/
def takePowerOn (straps : Nat) (key : Bool) (s : State) : State :=
  leaveStart (firstMode straps key (loadBlock straps s.store.block).isSome) (powerUp straps key s)

/-- POWER_ON (R179). -/
def execPowerOn (straps : Fin 64) (key : Bool) (s : State) : Host.Outcome State Fault Refusal :=
  .next (closeArrival s (takePowerOn straps.val key s))

/-! ### Commissioning (R181) -/

/-- The commissioning window ends (R181). -/
def endCommission (s : State) : State :=
  if s.station.stored.isSome then enterListenFresh s
  else s.onStation fun t => { t with mode := .unconfigured, window := .stopped }

/-- COMMISSIONING_KEY_RELEASE (R181): acted on in COMMISSION alone. -/
def takeKeyRelease (s : State) : State :=
  if s.station.mode = .commission then endCommission (s.setPins { s.pins with key := false }) else s

/-- COMMISSIONING_KEY_RELEASE (R181). -/
def execCommissioningKeyRelease (s : State) : Host.Outcome State Fault Refusal := .next (arrival takeKeyRelease s)

/-- COMMISSIONING_WINDOW_EXPIRY (R181). -/
def takeWindowExpiry (s : State) : State :=
  if s.station.window.isDue s.now then
    if s.station.mode = .commission then endCommission s else s.onStation fun t => { t with window := .stopped }
  else s

/-- COMMISSIONING_WINDOW_EXPIRY (R181). -/
def execCommissioningWindowExpiry (s : State) : Host.Outcome State Fault Refusal := .next (arrival takeWindowExpiry s)

/-! ### RUN (R184) -/

/-- The entry into RUN (R184). -/
def enterRun (s : State) : State :=
  trySelection (retryDust (offerStatus (s.onStation fun t => { t with mode := .run, listen := .stopped })))

/-- LISTEN_TIMER_EXPIRY (R183). -/
def takeListenTimer (s : State) : State :=
  if s.station.listen.isDue s.now then
    if s.station.mode = .listen then enterRun s else s.onStation fun t => { t with listen := .stopped }
  else s

/-- LISTEN_TIMER_EXPIRY (R183). -/
def execListenTimerExpiry (s : State) : Host.Outcome State Fault Refusal := .next (arrival takeListenTimer s)

/-! ### MUTE (R185) -/

/-- The entry into MUTE (R185, R89, R163). -/
def enterMute (s : State) : State :=
  let s1 := chainEnd .duplicate (s.onStation fun t => { t with mode := .mute, listen := .stopped })
  (noClaim s1).onLine (Line.clear s.now)

/-- A duplicate, by the station state (R152). With the latched node number 0 none can arise. -/
def takeDuplicate (s : State) : State :=
  if s.station.node = 0 then s
  else
    match s.station.mode with
    | .listen => enterMute (s.onLine fun l => { l with duplicate := true })
    | .run => enterMute (s.onLine fun l => { l with duplicate := true })
    | .start => s
    | _ => s.onLine fun l => { l with duplicate := true }

/-! ### RESTART (R186) -/

/-- The Spray Queue at a panel RESTART: entries and holds gone, the request closed (R71). -/
def clearQueue (s : State) : State :=
  s.setQueue
    { s.queue with entries := [], holds := ⟨.stopped, .stopped, .stopped, .stopped⟩, request := false }

/-- What a panel RESTART clears or stops in the blocks, before the LISTEN entry (R186). -/
def clearBlocks (s : State) : State :=
  let s1 := (noClaim (chainEnd .restart (clearQueue s))).onLine (Line.clear s.now)
  let s2 := s1.setPeers { entries := [], sweep := .stopped }
  let s3 := s2.onDust Dust.restart
  let s4 := s3.setWind { s3.wind with acc := Accumulator.empty, minute := .stopped }
  s4.setFace { s4.face with timer := .stopped }

/-- RESTART, taken in LISTEN, RUN and MUTE (R186, R187). -/
def takeRestart (s : State) : State :=
  let s1 := (clearBlocks s).onStation fun t => { t with cause := .restart, lastReset := s.sec }
  restartCannon (enterListenAgain s1)

end Sys2Proof.Machine
end

