-- ==== Sys2Proof/Machine/Frames.lean ====
section
/-! DEFINITION. The frames of the yard line as they arrive, and the Line Controller's own commands (chapters 8 and 9:
R95, R99, R137 to R145, R149 to R162; 12.1, R188). -/

namespace Sys2Proof.Machine

/-! ### Reception (R149 to R152) -/

/-- Bits of another member are seen on the line: it is busy, and the quiet time is 0 (R149, R157). The controller listens
outside START; while it is sending, the bits on the line are its own (log 5). -/
def State.hearBits (s : State) : State :=
  if s.station.mode = .start ∨ s.line.access = .sending then s else s.onLine fun l => { l with busy := true }

/-- No member drives the line any more: it is quiet, and the quiet time begins (R149; log 5). -/
def State.hearQuiet (s : State) : State :=
  if s.station.mode = .start then s else s.onLine (Line.goQuiet s.now)

/-- A byte of the yard line as it arrives (R149, R150): outside START its bits make the line busy, it is taken into the
reception, and a frame that it completes waits as the command that it is. A station that is sending reads its own bits
back and receives nothing (log 5, log 8). -/
def State.hearByte (b : Byte) (s : State) : State :=
  if s.station.mode = .start ∨ s.line.access = .sending then s
  else
    let r := takeByte startMark frameComplete s.line.partialFrame b
    (s.onLine fun l => { l with busy := true, partialFrame := r.1 }).setPending
      (s.pending ++ (r.2.bind (receiveFrame s.station.node)).toList)

/-- The last byte of a complete frame: the reception ends and the line goes quiet (R149, R150). -/
def frameEnds (s : State) : State :=
  s.onLine fun l => { l with busy := false, partialFrame := [], quietSince := s.now }

/-- The isolation watch at a frame handed to the Peer Map: it restarts in LISTEN, RUN and MUTE, and LINE_ISOLATED becomes
false (R162). -/
def hearFrame (s : State) : State :=
  if s.operational then s.onLine fun l => { l with isolation := .startAt s.now 300000, isolated := false } else s

/-- An accepted frame of another member: the sender's entry after the common part, the position and the kind-specific
part, a recompute if the common part removed a claim, and the frame handed on (R137, R138, R144; log 21). -/
def handFrame (k : FrameKind) (n : Nat) (pos : Option (Nat × Nat)) (part : Peer → Peer) (handOn : State → State)
    (s : State) : State :=
  let removed := refreshRemovesClaim s.sec n k.member s.peers.entries
  let p := part (refreshedPeer s.sec n k.member pos s.peers.entries)
  let s1 := (hearFrame s).setPeerEntries (putPeer p s.peers.entries)
  handOn (if removed then recompute s1 else s1)

/-- A complete frame by its sender node (R150, R151): discarded, a duplicate, or handed on. -/
def takeFrame (k : FrameKind) (n : Nat) (payload : List Byte) (hand : State → State) (s : State) : State :=
  let s1 := frameEnds s
  if !frameWellFormed k n payload then s1
  else if n = s.station.node then takeDuplicate s1
  else hand s1

/-! ### STATUS_FRAME (R140, R127) -/

/-- The wind report that a speed and a bearing give (R140, R141). -/
def windReport (sec speed bearing : Nat) : Option WindReport :=
  if bearing ≤ 359 then some { speed := min 400 speed, bearing := bearing, arrival := sec } else none

/-- The sender's entry after a STATUS (R140). -/
def Peer.takeStatus (sec : Nat) (c : StatusContent) (p : Peer) : Peer :=
  { p with
    summary :=
      some
        { cannonClass := c.cannonClass, locked := c.locked, level := c.level, serial := c.serial, faces := c.faces
          runoff := c.runoff, fresh := c.fresh }
    wind := c.wind.bind fun w => windReport sec w.1 w.2 }

/-- A STATUS handed to the Peer Map and to the Dust Watch Unit; one with an undefined code is taken by the common part
alone (R137, R140, R188). -/
def handStatus (n : Nat) (payload : List Byte) (s : State) : State :=
  let pos := some (payloadPosition payload)
  match decodeStatus payload with
  | some c => handFrame .status n pos (Peer.takeStatus s.sec c) (clearActed n c.level) s
  | none => handFrame .status n pos id id s

/-- STATUS_FRAME (R140). -/
def execStatusFrame (n : Nat) (payload : List Byte) (s : State) : Host.Outcome State Fault Refusal :=
  .next (arrival (takeFrame .status n payload (handStatus n payload)) s)

/-! ### CLAIM_FRAME and RELEASE_FRAME (R99, R104) -/

/-- The claim part that a CLAIM gives, clamped (R99, R188). -/
def claimPart (sec serial : Nat) (c : DemandClass) (flow wait : Nat) : ClaimPart :=
  { cls := c, flow := min 2000 flow, wait := min 255 wait, serial := serial, announce := sec }

/-- A CLAIM kept by the Water Claim Unit in LISTEN, RUN and MUTE, and the recompute it triggers; in the other states the
recompute of a removal by the common part (R99, R137). -/
def takeClaimPart (n : Nat) (part : ClaimPart) (removed : Bool) (s : State) : State :=
  if s.operational then
    recompute (s.setPeerEntries (changePeer n (fun p => { p with claim := some part }) s.peers.entries))
  else if removed then recompute s else s

/-- The sender's entry after the common part, without a recompute of its own: the claim's own effect follows in the same
arrival (R144). -/
def handClaimKind (k : FrameKind) (n : Nat) (s : State) : State :=
  (hearFrame s).setPeerEntries (putPeer (refreshedPeer s.sec n k.member none s.peers.entries) s.peers.entries)

/-- The common part removes a claim part of the sender (R138, R144). -/
def State.losesClaim (s : State) (k : FrameKind) (n : Nat) : Bool :=
  refreshRemovesClaim s.sec n k.member s.peers.entries

/-- A CLAIM handed on; one of an undefined class is handed on to no block (R99, R188). -/
def handClaim (n : Nat) (payload : List Byte) (s : State) : State :=
  match decodeClaim payload with
  | some (serial, c, flow, wait) =>
    takeClaimPart n (claimPart s.sec serial c flow wait) (s.losesClaim .claim n) (handClaimKind .claim n s)
  | none => handFrame .claim n none id id s

/-- CLAIM_FRAME (R99). -/
def execClaimFrame (n : Nat) (payload : List Byte) (s : State) : Host.Outcome State Fault Refusal :=
  .next (arrival (takeFrame .claim n payload (handClaim n payload)) s)

/-- The sender holds a claim part of a serial. -/
def State.claimOf (s : State) (n serial : Nat) : Bool :=
  match (findPeer n s.peers.entries).bind Peer.claim with
  | some c => decide (c.serial = serial)
  | none => false

/-- A RELEASE handed on: the claim part of its serial is removed (R99). -/
def handRelease (n : Nat) (payload : List Byte) (s : State) : State :=
  let removed := s.losesClaim .release n
  let s1 := handClaimKind .release n s
  if s1.operational && s1.claimOf n (byteAt payload 0) then
    recompute (s1.setPeerEntries (changePeer n (fun p => { p with claim := none }) s1.peers.entries))
  else if removed then recompute s1 else s1

/-- RELEASE_FRAME (R99). -/
def execReleaseFrame (n : Nat) (payload : List Byte) (s : State) : Host.Outcome State Fault Refusal :=
  .next (arrival (takeFrame .release n payload (handRelease n payload)) s)

/-! ### PLUME_FRAME and COVER_FRAME (R126, R131) -/

/-- A PLUME handed on (R126). -/
def handPlume (n : Nat) (payload : List Byte) (s : State) : State :=
  handFrame .plume n (some (payloadPosition payload)) id (takePlume n (decodePlume payload)) s

/-- PLUME_FRAME (R126). -/
def execPlumeFrame (n : Nat) (payload : List Byte) (s : State) : Host.Outcome State Fault Refusal :=
  .next (arrival (takeFrame .plume n payload (handPlume n payload)) s)

/-- A COVER handed on; one with an undefined answer is handed on to no block (R131, R188). -/
def handCover (n : Nat) (payload : List Byte) (s : State) : State :=
  match decodeCover payload with
  | some m => handFrame .cover n none id (takeCoverFrame n m) s
  | none => handFrame .cover n none id id s

/-- COVER_FRAME (R131). -/
def execCoverFrame (n : Nat) (payload : List Byte) (s : State) : Host.Outcome State Fault Refusal :=
  .next (arrival (takeFrame .cover n payload (handCover n payload)) s)

/-! ### WIND_FRAME, MACHINE_FRAME and FORECAST_FRAME (R141, R142, R12) -/

/-- The sender's entry after a WIND frame; a bearing above 359 leaves the report as it stands (R141). -/
def Peer.takeWind (sec speed bearing : Nat) (p : Peer) : Peer :=
  match windReport sec speed bearing with
  | some w => { p with wind := some w }
  | none => p

/-- A WIND frame handed to the Peer Map (R141). -/
def handWind (n : Nat) (payload : List Byte) (s : State) : State :=
  let w := decodeWind payload
  handFrame .wind n (some (payloadPosition payload)) (Peer.takeWind s.sec w.1 w.2) id s

/-- WIND_FRAME (R141). -/
def execWindFrame (n : Nat) (payload : List Byte) (s : State) : Host.Outcome State Fault Refusal :=
  .next (arrival (takeFrame .wind n payload (handWind n payload)) s)

/-- A FORECAST frame handed on (R12). -/
def handForecast (n : Nat) (payload : List Byte) (s : State) : State :=
  handFrame .forecast n none id (takeForecast n (decodeForecast payload)) s

/-- FORECAST_FRAME (R12). -/
def execForecastFrame (n : Nat) (payload : List Byte) (s : State) : Host.Outcome State Fault Refusal :=
  .next (arrival (takeFrame .forecast n payload (handForecast n payload)) s)

/-- A MACHINE frame handed to the Peer Map; of an undefined flag the position alone is taken (R142, R188). -/
def handMachine (n : Nat) (payload : List Byte) (s : State) : State :=
  let pos := some (payloadPosition payload)
  match decodeMachine payload with
  | some b => handFrame .machine n pos (fun p => { p with machine := some b }) id s
  | none => handFrame .machine n pos id id s

/-- MACHINE_FRAME (R142). -/
def execMachineFrame (n : Nat) (payload : List Byte) (s : State) : Host.Outcome State Fault Refusal :=
  .next (arrival (takeFrame .machine n payload (handMachine n payload)) s)

/-! ### SUPPLY_FRAME (R95) -/

/-- The supply state replaced by a frame (R95 step 2). -/
def takeSupplyState (m : SupplyMsg) (s : State) : State :=
  s.setClaim
    { s.claim with
      supply :=
        { capacity := some m.capacity, source := m.source, pond := some m.pond, day := some m.day
          allowance := m.allowance, lastArrival := some s.sec, staleTimer := .startAt s.now 300000, stale := false } }

/-- An accepted SUPPLY frame in its four steps (R95; log 11). -/
def acceptSupply (m : SupplyMsg) (s : State) : State :=
  let s2 := takeSupplyState m (takeDay m.day m.allowance s)
  recomputeOnCapacity s.capacityInUse (gatingEffects s.gate s2)

/-- A SUPPLY frame taken by the Water Claim Unit and the Water Account: in LISTEN, RUN and MUTE, from the configured
supply node (R95). -/
def takeSupply (n : Nat) (m : SupplyMsg) (s : State) : State :=
  if s.operational ∧ n = s.cfg.supplyNode then acceptSupply m s else s

/-- A SUPPLY frame handed on; one of an unknown source is ignored (R95). -/
def handSupply (n : Nat) (payload : List Byte) (s : State) : State :=
  match decodeSupply payload with
  | some m => handFrame .supply n none id (takeSupply n m) s
  | none => handFrame .supply n none id id s

/-- SUPPLY_FRAME (R95). -/
def execSupplyFrame (n : Nat) (payload : List Byte) (s : State) : Host.Outcome State Fault Refusal :=
  .next (arrival (takeFrame .supply n payload (handSupply n payload)) s)

/-! ### DUPLICATE, FRAME_BROKEN and FRAME_DISCARDED (R150, R152) -/

/-- DUPLICATE (R152). -/
def execDuplicate (s : State) : Host.Outcome State Fault Refusal :=
  .next (arrival (fun s => takeDuplicate (frameEnds s)) s)

/-- FRAME_BROKEN (R150): the partial frame is discarded. -/
def takeFrameBroken (s : State) : State := s.onLine fun l => { l.goQuiet s.now with partialFrame := [] }

/-- FRAME_BROKEN (R150). -/
def execFrameBroken (s : State) : Host.Outcome State Fault Refusal := .next (arrival takeFrameBroken s)

/-- FRAME_DISCARDED (R150): a complete frame that fails the checks changes nothing outside the Line Controller. -/
def execFrameDiscarded (s : State) : Host.Outcome State Fault Refusal := .next (arrival frameEnds s)

/-! ### Access (R157 to R160) -/

/-- ACCESS_GAP (R157): the head starts, in RUN. -/
def takeAccessGap (s : State) : State := if s.inRun && s.line.gapDue s.now then s.onLine Line.startHead else s

/-- ACCESS_GAP (R157). -/
def execAccessGap (s : State) : Host.Outcome State Fault Refusal := .next (arrival takeAccessGap s)

/-- The bytes that the station drives onto the line: while SENDING, those of the frame in transmission, with the latched
node number as their sender (R158, R188). -/
def State.drivenBytes (s : State) : Option (List Byte) :=
  match s.line.access with
  | .sending => s.line.txFrame?.map fun f => f.content.bytes s.station.node
  | _ => none

/-- The originator is told that its frame was sent (R158): the Water Claim Unit sets sent. -/
def frameSent (f : TxFrame) (s : State) : State :=
  match f.content with
  | .claim serial _ _ _ => claimSent serial s
  | _ => s

/-- The originator is told that its frame was lost (R160): a COVER returns to the pending answers. -/
def frameLost (f : TxFrame) (s : State) : State :=
  match f.content with
  | .cover target serial answer count formed =>
    returnAnswer { target := target, serial := serial, answer := answer, count := count, formed := formed } s
  | _ => s

/-- TRANSMISSION_COMPLETES (R158). -/
def takeTransmission (s : State) : State :=
  match s.line.access, s.line.txFrame? with
  | .sending, some f => frameSent f (s.onLine (Line.dropTx s.now))
  | _, _ => s

/-- TRANSMISSION_COMPLETES (R158). -/
def execTransmissionCompletes (s : State) : Host.Outcome State Fault Refusal := .next (arrival takeTransmission s)

/-- COLLISION (R159, R160). -/
def takeCollision (s : State) : State :=
  match s.line.access, s.line.txFrame? with
  | .sending, some f =>
    if f.noRetry then s.onLine (Line.dropTx s.now)
    else if 8 ≤ f.attempts + 1 then frameLost f (s.onLine (Line.dropTx s.now))
    else s.onLine (Line.backOff s.now s.station.node (f.attempts + 1))
  | _, _ => s

/-- COLLISION (R159). -/
def execCollision (s : State) : Host.Outcome State Fault Refusal := .next (arrival takeCollision s)

/-- The end of a backoff (R159). -/
def Line.endBackoff (l : Line) : Line :=
  if l.access = .backoff then ({ l with backoff := .stopped, access := .waiting } : Line).settleAccess
  else { l with backoff := .stopped }

/-- BACKOFF_EXPIRY (R159). -/
def takeBackoff (s : State) : State := if s.line.backoff.isDue s.now then s.onLine Line.endBackoff else s

/-- BACKOFF_EXPIRY (R159). -/
def execBackoffExpiry (s : State) : Host.Outcome State Fault Refusal := .next (arrival takeBackoff s)

/-! ### STATUS_PERIOD, STATUS_DUE_MARK and ISOLATION_EXPIRY (R161, R162) -/

/-- STATUS_PERIOD (R161): 30 s after the last STATUS offer taken. -/
def takeStatusPeriod (s : State) : State :=
  if s.line.period.isDue s.now then
    let s1 := s.onLine fun l => { l with period := .stopped }
    if s.inRun then offerStatus s1 else s1
  else s

/-- STATUS_PERIOD (R161). -/
def execStatusPeriod (s : State) : Host.Outcome State Fault Refusal := .next (arrival takeStatusPeriod s)

/-- STATUS_DUE_MARK (R161): 2 s after the last STATUS offer taken, a STATUS that is due is offered. -/
def takeStatusDueMark (s : State) : State :=
  if s.line.spacing.isDue s.now then
    let s1 := s.onLine fun l => { l with spacing := .stopped }
    if s.inRun && s.line.due then offerStatus s1 else s1
  else s

/-- STATUS_DUE_MARK (R161). -/
def execStatusDueMark (s : State) : Host.Outcome State Fault Refusal := .next (arrival takeStatusDueMark s)

/-- ISOLATION_EXPIRY (R162). -/
def takeIsolation (s : State) : State :=
  if s.line.isolation.isDue s.now then s.onLine fun l => { l with isolation := .stopped, isolated := true } else s

/-- ISOLATION_EXPIRY (R162). -/
def execIsolationExpiry (s : State) : Host.Outcome State Fault Refusal := .next (arrival takeIsolation s)

/-! ### SWEEP (R145) -/

/-- SWEEP (R145): LOST transitions and stale claim parts, then one recompute if a claim part was removed. -/
def takeSweep (s : State) : State :=
  if s.peers.sweep.isDue s.now then
    let s1 := s.setPeers
      { entries := s.peers.entries.map (Peer.swept s.sec), sweep := s.peers.sweep.reload 10000 }
    if sweepRemovesClaim s.sec s.peers.entries then recompute s1 else s1
  else s

/-- SWEEP (R145). -/
def execSweep (s : State) : Host.Outcome State Fault Refusal := .next (arrival takeSweep s)

end Sys2Proof.Machine
end

