-- ==== Sys2Proof/Machine/Lockout.lean ====
section
/-! DEFINITION. The Lockout Unit: LOCK, UNLOCK and the attempt counter (chapter 10: R164 to R168). -/

namespace Sys2Proof.Machine

/-- The largest lock code (10.1). -/
def maxCode : Nat := 999999

/-- The level of a level byte (12.3). -/
def lockLevelOf (n : Nat) : Option LockLevel :=
  if n = 0 then some .standard else if n = 1 then some .strict else none

/-- The code of a lock level (12.3). -/
def LockLevel.code : LockLevel → Nat
  | .standard => 0
  | .strict => 1

/-- The lock list replaced, and written whole to the store (R164). -/
def writeLocks (l : List Lock) (s : State) : State :=
  (s.setLockout { s.lockout with locks := l }).setStore
    { s.store with locks := some (l.map fun k => (k.code, k.level)) }

/-- A LOCK added to the list; one that finds it empty stops the cannon (R165, R88). -/
def addLock (code : Nat) (level : LockLevel) (s : State) : State :=
  let s1 := writeLocks (s.lockout.locks ++ [{ code := code, level := level, time := some s.sec }]) s
  if s.locked then s1 else respondToLock s1

/-- LOCK (R165): the list and the answer code. -/
def applyLock (code level : Nat) (s : State) : State × AnswerCode :=
  match lockLevelOf level with
  | none => (s, .invalid)
  | some v =>
    if maxCode < code then (s, .invalid)
    else if s.lockout.locks.any fun k => decide (k.code = code) then (s, .duplicate)
    else if 4 ≤ s.lockout.locks.length then (s, .full)
    else (addLock code v s, .accepted)

/-- The supervisor code of the stored configuration; none in UNCONFIGURED (R164, R181; log 36). -/
def State.supervisor (s : State) : Option Nat := s.validConfig.map Configuration.supervisor

/-- Locks removed; a list that becomes empty is told to the cannon (R167, R168). -/
def removeLocks (l : List Lock) (s : State) : State :=
  let s1 := writeLocks l s
  if l.isEmpty then respondToUnlock s1 else s1

/-- An attempt lost (R167). -/
def loseAttempt (s : State) : State := s.setLockout { s.lockout with attempts := s.lockout.attempts - 1 }

/-- The answer of an UNLOCK that removed locks: how many, and how many are left (R167). -/
def removedLeft (before after : List Lock) : List Byte := enc8 (before.length - after.length) ++ enc8 after.length

/-- UNLOCK (R167): the list and the counter, the answer code and what follows it. -/
def applyUnlock (code : Nat) (s : State) : State × AnswerCode × List Byte :=
  let l := s.lockout.locks
  if maxCode < code then (s, .invalid, [])
  else if s.lockout.attempts = 0 then (s, .exhausted, [])
  else if l.isEmpty then (s, .invalid, [])
  else if l.any fun k => decide (k.code = code) then
    let kept := l.filter fun k => !decide (k.code = code)
    (removeLocks kept s, .accepted, removedLeft l kept)
  else if s.supervisor = some code then
    if l.any fun k => decide (k.level = .standard) then
      let kept := l.filter fun k => !decide (k.level = .standard)
      (removeLocks kept s, .accepted, removedLeft l kept)
    else (s, .strictHeld, [])
  else (loseAttempt s, .mismatch, [])

end Sys2Proof.Machine
end

