-- ==== Sys2Proof/Machine/Snapshot.lean ====
section
/-! DEFINITION. The nine snapshots of the panel's READ, field by field in the order of the rules that list them (R190):
R10, R17, R38, R51, R70, R93, R94, R115, R133, R147, R163, R172, R178, R187. What R190 leaves open of widths and orders
is in log 18. -/

namespace Sys2Proof.Machine

/-! ### Encodings (R190) -/

/-- An optional field: a presence byte, then the field's bytes, or as many zeros (R190). -/
def encOpt {α : Type} (width : Nat) (f : α → List Byte) : Option α → List Byte
  | some a => 1#8 :: f a
  | none => 0#8 :: List.replicate width 0#8

/-- A list: a count byte, then its entries (R190). -/
def encList {α : Type} (f : α → List Byte) (l : List α) : List Byte := enc8 l.length ++ l.flatMap f

/-- The remaining time of a timer in 4-byte milliseconds, optional (R190). -/
def encTimer (now : Nat) (t : Timer) : List Byte := encOpt 4 enc32 (t.remaining now)

/-- The station states in their order of listing (11). -/
def Mode.code : Mode → Nat
  | .start => 0
  | .unconfigured => 1
  | .commission => 2
  | .listen => 3
  | .run => 4
  | .mute => 5

/-- The reset causes in their order of listing (R187). -/
def ResetCause.code : ResetCause → Nat
  | .powerOn => 0
  | .restart => 1

/-- The wind sources in their order of listing (1.2). -/
def WindSource.code : WindSource → Nat
  | .localMinute => 0
  | .peer => 1
  | .held => 2
  | .fallback => 3

/-- The projection outcomes in their order of listing (3.7). -/
def LookOutcome.code : LookOutcome → Nat
  | .noSlot => 0
  | .clear => 1
  | .saturated => 2
  | .skipped => 3
  | .merged => 4
  | .added => 5
  | .refused => 6

/-- The sizing outcomes in their order of listing (R38). -/
def sizingCode : SizingOutcome → Nat
  | .added => 0
  | .updated => 1
  | .refused => 2
  | .skipped => 3
  | .held => 4
  | .removed => 5
  | .none => 6

/-- The prewet results in their order of listing (2.1). -/
def PrewetResult.code : PrewetResult → Nat
  | .met => 0
  | .missed => 1

/-- The cannon states in their order of listing (R72). -/
def CannonState.code : CannonState → Nat
  | .parked => 0
  | .standby => 1
  | .priming => 2
  | .slewing => 3
  | .claiming => 4
  | .spraying => 5
  | .draining => 6
  | .locked => 7
  | .fault => 8

/-- The stop causes in their order of listing (R93). -/
def Cause.code : Cause → Nat
  | .complete => 0
  | .preempted => 1
  | .yielded => 2
  | .pressure => 3
  | .noFlow => 4
  | .windCut => 5
  | .source => 6
  | .lockout => 7
  | .driveFault => 8
  | .duplicate => 9
  | .restart => 10

/-- The removal reasons in their order of listing (R70). -/
def RemovalReason.code : RemovalReason → Nat
  | .satisfied => 0
  | .evicted => 1
  | .withdrawn => 2
  | .deadline => 3
  | .attempts => 4

/-- The claim states in their order of listing (R98). -/
def ClaimState.code : ClaimState → Nat
  | .none => 0
  | .settling => 1
  | .deferred => 2
  | .granted => 3
  | .throttled => 4

/-- The member kinds in their order of listing (R136). -/
def MemberKind.code : MemberKind → Nat
  | .station => 0
  | .mast => 1
  | .supply => 2
  | .machine => 3

/-- The liveness levels in their order of listing (R143). -/
def Liveness.code : Liveness → Nat
  | .live => 0
  | .quiet => 1
  | .lost => 2

/-- The access states in their order of listing (9.3). -/
def Access.code : Access → Nat
  | .idle => 0
  | .waiting => 1
  | .sending => 2
  | .backoff => 3

/-- The originators in their order of listing (R153). -/
def Originator.code : Originator → Nat
  | .stationControl => 0
  | .waterClaim => 1
  | .dustWatch => 2

/-- The flag states in their order of listing (10.4). -/
def FlagState.code : FlagState → Nat
  | .idle => 0
  | .raised => 1
  | .acked => 2

/-- The service modes (12.4). -/
def serviceCode : ServiceMode → Nat
  | .fixed => 0
  | .rotate => 1

/-- An origin: its place in the table of 4.1, and the node number of a PEER_NOTICE. -/
def encOrigin : Origin → List Byte
  | .peerNotice n => enc8 0 ++ encOpt 1 enc8 (some n)
  | .localRisk => enc8 1 ++ encOpt 1 enc8 none
  | .lookahead => enc8 2 ++ encOpt 1 enc8 none
  | .panel => enc8 3 ++ encOpt 1 enc8 none

/-! ### STATION (R172, R187) -/

/-- Station Control's part (R187). -/
def stationPart (s : State) : List Byte :=
  enc8 s.station.mode.code ++ enc8 s.station.node ++ enc8 s.station.cause.code ++ enc32 s.station.lastReset
    ++ encBool s.station.stored.isSome
    ++ encTimer s.now (if s.station.mode = .commission then s.station.window else .stopped)
    ++ encTimer s.now (if s.station.mode = .listen then s.station.listen else .stopped)

/-- The wind (R9, R10). -/
def windPart (w : Wind) : List Byte :=
  enc16 w.record.speed ++ enc16 w.record.gust ++ enc16 w.record.bearing ++ enc8 w.record.source.code
    ++ encOpt 1 enc8 w.record.node ++ encOpt 4 enc32 w.record.closeTime ++ encOpt 4 enc32 w.record.lastFresh
    ++ encBool w.record.initial ++ enc8 w.record.sampleCount ++ enc8 w.acc.count

/-- A forecast slot (R17). -/
def encSlot (k : Slot) : List Byte :=
  enc32 k.start ++ enc32 k.finish ++ enc16 k.mean ++ enc16 k.gust ++ enc16 k.bearing ++ enc8 k.rain

/-- The Forecast Table (R17). The front slot is one group behind one presence byte (log 18). -/
def forecastPart (t : Forecast) : List Byte :=
  encOpt 1 enc8 t.issue ++ encOpt 4 enc32 t.arrival ++ enc8 t.slots.length ++ encBool t.stale
    ++ encOpt 15 encSlot t.slots.head?

/-- A look-ahead summary (R51). -/
def encSummary (y : Summary) : List Byte :=
  enc32 y.minute ++ enc8 y.issue ++ enc8 y.projected ++ enc8 y.outcome.code ++ encOpt 4 enc32 y.slot
    ++ encOpt 1 enc8 y.index ++ enc16 y.moisture ++ encOpt 2 enc16 y.volume ++ encOpt 4 enc32 y.deadline

/-- The chain's part, while one is active (R94). -/
def encChain (onTime : Option Nat) (ch : Chain) : List Byte :=
  enc8 ch.face.val ++ enc8 ch.cls.rank ++ encBool ch.waiting ++ enc8 ch.planned ++ enc8 ch.completed ++ enc8 ch.index
    ++ enc16 ch.volume ++ enc16 ch.segment ++ enc16 ch.litres ++ encOpt 1 enc8 onTime

/-- The Cannon Controller's part (R94). The fields of the chain are one group behind one presence byte (log 18). -/
def cannonPart (cut : Bool) (c : Cannon) : List Byte :=
  enc8 c.state.code ++ enc8 c.state.cls.code ++ encBool c.primed ++ encOpt 2 enc16 c.bearing ++ encBool cut
    ++ enc8 c.noFlowCount ++ encOpt 1 (fun f => enc8 f.val) c.chargeFace ++ encOpt 14 (encChain c.onTime) c.chain

/-- An entry of the cover list (R131). The count, which is for QUEUED, is a plain byte, 0 for the other answers
(log 18). -/
def encCover (c : CoverEntry) : List Byte :=
  enc8 c.responder ++ enc8 c.answer.code ++ enc8 c.count ++ enc32 c.time

/-- A pending answer (R129, R133). The count, which is for QUEUED, is a plain byte, 0 for the other answers (log 18). -/
def encAnswer (a : PendingAnswer) : List Byte :=
  enc8 a.target ++ enc8 a.serial ++ enc8 a.answer.code ++ enc8 a.count ++ enc32 a.formed

/-- A timer is paused (R118). -/
def Timer.isPaused : Timer → Bool
  | .paused _ => true
  | _ => false

/-- The Dust Watch Unit's part (R133). -/
def dustPart (now : Nat) (stands : Bool) (d : Dust) : List Byte :=
  encList enc16 d.window ++ encOpt 2 enc16 d.mean ++ encBool d.silent ++ enc8 d.level.code ++ enc8 d.count
    ++ encTimer now d.recovery ++ encBool d.recovery.isPaused ++ encOpt 1 enc8 d.serial ++ encBool stands
    ++ encBool d.announce ++ encTimer now d.refresh ++ encTimer now d.response ++ encBool d.covered
    ++ encOpt 4 enc32 d.coverage ++ encBool d.uncovered ++ encList encCover d.cover ++ encList encAnswer d.answers

/-- A queued frame without its content (R163). -/
def encTxFrame (f : TxFrame) : List Byte :=
  enc8 f.content.kind.code ++ enc8 (if f.content.urgent then 0 else 1) ++ encOpt 1 enc8 f.content.claimSerial
    ++ enc8 f.originator.code ++ enc32 f.queueTime ++ enc8 f.attempts ++ encBool f.inTx ++ encBool f.noRetry

/-- The Line Controller's part (R163). The time since the last STATUS offer goes as an age (log 18). -/
def linePart (now : Nat) (l : Line) : List Byte :=
  enc8 l.access.code ++ encTimer now (if l.access = .backoff then l.backoff else .stopped) ++ enc32 (l.quietTime now)
    ++ encList encTxFrame l.queue ++ encBool l.due ++ encOpt 4 (fun t => enc32 (now - t)) l.lastStatus
    ++ encTimer now l.isolation ++ encBool l.isolated ++ encBool l.duplicate

/-- The STATION snapshot (R172). The four summaries have no count byte, and each is one group behind its presence byte
(log 18). -/
def stationSnapshot (s : State) : List Byte :=
  stationPart s ++ windPart s.wind ++ forecastPart s.forecast
    ++ s.look.toList.flatMap (encOpt 24 encSummary)
    ++ cannonPart s.cutOut s.cannon ++ dustPart s.now s.noticeStands s.dust ++ linePart s.now s.line

/-! ### FACES (R38) -/

/-- The configured fields after enabled, in the sizes of 12.4. -/
def encDesc (d : FaceDesc) : List Byte :=
  enc16 d.normal ++ enc16 d.arcStart ++ enc16 d.arcEnd ++ enc16 d.centreX ++ enc16 d.centreY ++ enc16 d.area
    ++ enc8 d.kd ++ enc8 d.kw ++ enc8 d.km ++ enc8 d.wt0 ++ enc8 d.mg ++ enc16 d.msat ++ enc16 d.mInit
    ++ enc16 d.radius ++ enc8 d.ka ++ encBool d.contact

/-- A face record (R38). Last prewet, last evaluation and last sizing are one group each (log 18). -/
def encRecord (r : FaceRecord) : List Byte :=
  encDesc r.desc ++ enc16 r.m ++ enc16 r.rd ++ enc16 r.rs ++ enc16 r.pendingSpray ++ enc16 r.pendingRain
    ++ enc32 r.sprayed ++ enc8 r.index ++ enc8 r.cls.code ++ encBool r.active ++ encBool r.estimated
    ++ encOpt 5 (fun p => enc8 (PrewetResult.code p.1) ++ enc32 p.2) r.lastPrewet ++ enc32 r.runoff
    ++ encOpt 9 (fun e => enc32 (LastEval.time e) ++ enc8 e.e ++ enc16 e.weff ++ enc16 e.wt) r.lastEval
    ++ encOpt 4 (fun z => encOpt 2 enc16 (LastSizing.volume z) ++ enc8 (sizingCode z.outcome)) r.lastSizing

/-- The bytes of a face record. -/
def recordWidth : Nat := 68

/-- The FACES snapshot: a face without a record is not enabled, and the rest of its part is absent (R38). -/
def facesSnapshot (s : State) : List Byte := s.face.records.toList.flatMap (encOpt recordWidth encRecord)

/-! ### QUEUE (R70) -/

/-- A demand entry (R54). Deadline reached, which is for PREWET, is a plain byte, 0 for the other classes (log 18). -/
def encEntry (e : Entry) : List Byte :=
  enc8 e.face.val ++ enc8 e.cls.rank ++ enc16 e.requested ++ enc16 e.delivered ++ encOrigin e.origin
    ++ enc32 e.enqueue ++ encOpt 4 enc32 e.deadline ++ encBool e.reached ++ enc8 e.attempts ++ encBool e.running

/-- The last removal record (R70). -/
def encRemoval (r : Removal) : List Byte :=
  enc8 r.face.val ++ enc8 r.cls.rank ++ encOrigin r.origin ++ enc16 r.requested ++ enc16 r.delivered
    ++ encOpt 4 enc32 r.deadline ++ enc32 r.time ++ enc8 r.reason.code

/-- The QUEUE snapshot (R70). A face's presence byte is its fault hold marker, and its 4 bytes the hold's remaining time
(log 18). -/
def queueSnapshot (s : State) : List Byte :=
  encList encEntry s.queue.entries ++ enc8 (serviceCode s.cfg.mode) ++ enc8 s.cfg.firstFace.val
    ++ encList (fun f => enc8 (Fin.val f)) s.queue.rotation ++ s.queue.holds.toList.flatMap (encTimer s.now)
    ++ encBool s.queue.request ++ encOpt 19 encRemoval s.queue.lastRemoval

/-! ### CLAIM (R115) and WATER -/

/-- The own claim record with its present wait age (R98, R115). The flows q, q_min and q_g, whose range R98 does not
state, take 2 bytes each, as the flow of a CLAIM does, and the wait age goes as 1 byte of minutes (log 18). -/
def ownPart (s : State) : List Byte :=
  let o := s.claim.own
  enc8 o.state.code ++ encOpt 1 (fun c => enc8 (DemandClass.rank c)) o.cls ++ encOpt 4 enc32 o.basis
    ++ encOpt 1 enc8 o.serial ++ enc8 o.nextSerial ++ enc16 (flowOf s.cfg s.cfg.tOn)
    ++ enc16 (flowOf s.cfg s.cfg.tOnMin) ++ enc16 o.qg ++ encOpt 1 enc8 o.tHeld ++ encOpt 1 enc8 o.ceiling
    ++ encBool o.sent ++ encOpt 4 enc32 o.lastAnnounce ++ enc8 s.waitAge

/-- The time that the stale timer has counted, in ms (6.1, R96). -/
def staleElapsed (now : Nat) : Timer → Option Nat
  | .running due => some (now + 300000 - due)
  | _ => none

/-- The supply state with SUPPLY_STALE (6.1, R115). -/
def supplyPart (now : Nat) (y : Supply) : List Byte :=
  encOpt 2 enc16 y.capacity ++ enc8 y.source.code ++ encOpt 1 enc8 y.pond ++ encOpt 2 enc16 y.day
    ++ enc24 y.allowance ++ encOpt 4 enc32 y.lastArrival ++ encOpt 4 enc32 (staleElapsed now y.staleTimer)
    ++ encBool y.stale

/-- The allowed classes of a gating, in the order of its table (R97); the CLAIM snapshot sends them as a counted list
(log 18). -/
def Gate.classes (g : Gate) : List DemandClass := [.knockdown, .suppress, .prewet, .test].filter g.allows

/-- A claim placed among claims in rank order (R100). -/
def insertClaim (a : RankedClaim) : List RankedClaim → List RankedClaim
  | [] => [a]
  | b :: rest => if a.above b then a :: b :: rest else b :: insertClaim a rest

/-- The live peer claims in rank order with the own claim, unless it is NONE, placed among them (R115). -/
def State.rankedClaims (s : State) : List RankedClaim :=
  (if s.claim.own.state = .none then s.liveClaims else s.ownRank :: s.liveClaims).foldr insertClaim []

/-- The five fields of a claim part, in the order of R99, with the wait age as 1 byte of minutes (log 18). -/
def encClaimFields (c : ClaimPart) : List Byte :=
  enc8 c.cls.rank ++ enc16 c.flow ++ enc8 c.wait ++ enc8 c.serial ++ enc32 c.announce

/-- A claim of the ranked list: its node number and its claim part (R99, R115; log 18). -/
def encRanked (c : RankedClaim) : List Byte := enc8 c.node ++ encClaimFields c.toClaimPart

/-- The CLAIM snapshot (R115). The allowed classes go as a list with a count byte, and the low time as 4-byte
milliseconds, 0 while no low spell runs (log 18). -/
def claimSnapshot (s : State) : List Byte :=
  ownPart s ++ enc16 s.capacityInUse ++ supplyPart s.now s.claim.supply
    ++ encList (fun c => enc8 (DemandClass.rank c)) s.gate.classes ++ encBool s.freshExhausted
    ++ encList encRanked s.rankedClaims ++ enc24 s.flowAbove
    ++ enc32 (match s.claim.lowSince with
        | some t => s.now - t
        | none => 0)
    ++ encBool s.claim.staged

/-- A day record (R110). -/
def encDay (r : DayRecord) : List Byte :=
  encOpt 2 enc16 r.day ++ enc24 r.allowance ++ enc32 r.reuse ++ enc32 r.fresh ++ enc32 r.knockdown ++ enc32 r.runoff

/-- The WATER snapshot (R115). -/
def waterSnapshot (s : State) : List Byte :=
  encDay s.account.today ++ encDay s.account.yesterday ++ enc32 s.account.dayStart ++ encBool s.freshExhausted

/-! ### PEERS (R147) -/

/-- A station summary (R136). -/
def encStation (y : StationSummary) : List Byte :=
  enc8 y.cannonClass.code ++ encBool y.locked ++ enc8 y.level.code ++ encOpt 1 enc8 y.serial
    ++ enc8 (encodeFaceClasses y.faces) ++ enc32 y.runoff ++ enc32 y.fresh

/-- A claim part, with whether it is live as its last byte, within the part's group (R147; log 18). -/
def encClaimPart (sec : Nat) (c : ClaimPart) : List Byte := encClaimFields c ++ encBool (c.live sec)

/-- A present entry as readers see it (R147). Position and each optional part are one group behind one presence byte
(log 18). -/
def encPeer (sec : Nat) (p : Peer) : List Byte :=
  let q := p.seen sec
  enc8 q.node ++ enc8 q.kind.code ++ encOpt 4 (fun xy => enc16 (Prod.fst xy) ++ enc16 xy.2) q.position
    ++ enc32 q.heard ++ enc32 (p.age sec * 1000) ++ enc8 (p.liveness sec).code ++ encOpt 14 encStation q.summary
    ++ encOpt 8 (fun w => enc16 (WindReport.speed w) ++ enc16 w.bearing ++ enc32 w.arrival) q.wind
    ++ encOpt 10 (encClaimPart sec) q.claim ++ encOpt 1 enc8 q.acted ++ encOpt 1 encBool q.machine

/-- The PEERS snapshot over a node range (R147). -/
def peersSnapshot (first last : Nat) (s : State) : List Byte :=
  enc8 s.peers.entries.length
    ++ encList (encPeer s.sec) (s.peers.entries.filter fun p => decide (first ≤ p.node) && decide (p.node ≤ last))

/-! ### LOG (R93), ALARMS (R178) and LOCKS (R172) -/

/-- A spray record (R93). -/
def encSpray (r : SprayRecord) : List Byte :=
  enc8 r.serial ++ enc8 r.face.val ++ enc8 r.cls.rank ++ encOrigin r.origin ++ enc16 r.requested ++ enc16 r.delivered
    ++ enc8 r.planned ++ enc8 r.completed ++ encOpt 1 enc8 r.firstFailed ++ enc8 r.cause.code ++ enc32 r.start
    ++ enc32 r.finish

/-- The LOG snapshot, oldest first (R93). -/
def logSnapshot (s : State) : List Byte := encList encSpray s.cannon.log

/-- A flag (R178). The condition is a field of condition flags alone. -/
def encFlag (s : State) (i : AlarmId) : List Byte :=
  let f := s.alarms.flags.get i
  enc8 f.state.code ++ encBool f.again ++ encOpt 4 enc32 f.raisedTime
    ++ encOpt 1 encBool (if conditionFlag i then some f.cond else none) ++ encBool (s.relaySet.get i)

/-- The ALARMS snapshot (R178). -/
def alarmsSnapshot (s : State) : List Byte := allAlarms.flatMap (encFlag s) ++ encBool s.alarms.relay

/-- The LOCKS snapshot: no code is ever shown (R172). -/
def locksSnapshot (s : State) : List Byte :=
  encList (fun k => enc8 (LockLevel.code k.level) ++ encOpt 4 enc32 (Lock.time k)) s.lockout.locks
    ++ enc8 s.lockout.attempts ++ encBool s.supervisor.isSome

/-! ### Selection (R172, R190) -/

/-- The snapshot of a selector; none for an unknown selector or a range that R147 refuses (R172). -/
def snapshot (selector first last : Nat) (s : State) : Option (List Byte) :=
  if selector = 1 then some (stationSnapshot s)
  else if selector = 2 then some (facesSnapshot s)
  else if selector = 3 then some (queueSnapshot s)
  else if selector = 4 then some (claimSnapshot s)
  else if selector = 5 then some (waterSnapshot s)
  else if selector = 6 then
    if first = 0 ∨ 63 < last ∨ last < first then none else some (peersSnapshot first last s)
  else if selector = 7 then some (logSnapshot s)
  else if selector = 8 then some (alarmsSnapshot s)
  else if selector = 9 then some (locksSnapshot s)
  else none

/-- The parts of a snapshot: one of up to 250 bytes, otherwise as many of 250 bytes as it needs (R190). -/
def partCount (data : List Byte) : Nat := max 1 (ceilDiv data.length 250)

/-- One part of a snapshot (R190). -/
def partOf (part : Nat) (data : List Byte) : List Byte := (data.drop (part * 250)).take 250

end Sys2Proof.Machine
end

