-- ==== Sys2Proof/Machine/Panel.lean ====
section
/-! DEFINITION. The Panel Link and its commands (chapter 10: R169 to R176; R182, R186, R190). -/

namespace Sys2Proof.Machine

/-- The Panel Link changed. -/
def State.onPanel (s : State) (g : Panel → Panel) : State := s.setPanel (g s.panel)

/-! ### Bytes (R169) -/

/-- A byte of the panel link as it arrives (R169): outside START it is taken into the reception, and a message that it
completes waits as the command that it is (log 5). -/
def State.hearPanelByte (b : Byte) (s : State) : State :=
  if s.station.mode = .start then s
  else
    let r := takeByte startByte messageComplete s.panel.partialMessage b
    (s.onPanel fun p => { p with partialMessage := r.1, heard := s.now }).setPending
      (s.pending ++ (r.2.bind receivePanel).toList)

/-- The bytes that the station sends on the panel link: those of the answer in progress (R169, R190). -/
def State.answerBytes (s : State) : Option (List Byte) := s.panel.answer.map PanelAnswer.bytes

/-! ### One command in progress (R170) -/

/-- A complete message with a good check: taken if no command is in progress; otherwise answered BUSY later, or discarded
while a BUSY answer waits (R170). The work is done at the moment the command is taken. -/
def takeCommand (code : Nat) (work : State → State × PanelAnswer) (s : State) : State :=
  let s1 := s.onPanel fun p => { p with partialMessage := [] }
  match s.panel.answer with
  | some _ => if s.panel.busy.isSome then s1 else s1.onPanel fun p => { p with busy := some code }
  | none =>
    let r := work s1
    r.1.onPanel fun p => { p with answer := some r.2 }

/-- ANSWER_SENT (R170): a waiting BUSY answer becomes the answer in progress, or no command is in progress. -/
def takeAnswerSent (s : State) : State :=
  match s.panel.answer, s.panel.busy with
  | some _, some code => s.onPanel fun p => { p with answer := some (PanelAnswer.of code .busy []), busy := none }
  | some _, none => s.onPanel fun p => { p with answer := none }
  | none, _ => s

/-- ANSWER_SENT (R170). -/
def execAnswerSent (s : State) : Host.Outcome State Fault Refusal := .next (arrival takeAnswerSent s)

/-- The partial message is discarded without an answer (R169). -/
def dropMessage (s : State) : State := s.onPanel fun p => { p with partialMessage := [] }

/-- PANEL_MESSAGE_BROKEN (R169). -/
def execPanelMessageBroken (s : State) : Host.Outcome State Fault Refusal := .next (arrival dropMessage s)

/-- PANEL_BAD_CHECK (R169). -/
def execPanelBadCheck (s : State) : Host.Outcome State Fault Refusal := .next (arrival dropMessage s)

/-! ### Unknown commands (R169, R190; log 20) -/

/-- The answer to an unknown command or a length that is not allowed: INVALID under code 0 (R190). -/
def refuseUnknown (s : State) : State × PanelAnswer := (s, PanelAnswer.of 0 .invalid [])

/-- PANEL_UNKNOWN_COMMAND (R169). -/
def execPanelUnknownCommand (code : Nat) (s : State) : Host.Outcome State Fault Refusal :=
  .next (arrival (takeCommand code refuseUnknown) s)

/-! ### READ (R172) -/

/-- The answer to a READ: the part of the snapshot asked for, or INVALID (R172, R190). -/
def answerRead (selector part first last : Nat) (s : State) : PanelAnswer :=
  match snapshot selector first last s with
  | some data =>
    if part < partCount data then
      PanelAnswer.of 1 .accepted (enc8 part ++ enc8 (partCount data) ++ partOf part data)
    else PanelAnswer.of 1 .invalid []
  | none => PanelAnswer.of 1 .invalid []

/-- READ (R172). -/
def execRead (selector part first last : Nat) (s : State) : Host.Outcome State Fault Refusal :=
  .next (arrival (takeCommand 1 fun s => (s, answerRead selector part first last s)) s)

/-! ### CONFIGURE (R182) -/

/-- A block that passes every check is written to the store; the supervisor code, the relay set and CONFIG_ABSENT follow
it at once, and the other blocks take it at the entry into LISTEN (R181, R182). -/
def acceptBlock (block : List Byte) (s : State) : State :=
  (s.setStore { s.store with block := storedBlock block }).onStation fun t =>
    { t with stored := some (readBlock block) }

/-- CONFIGURE: FROZEN outside COMMISSION, INVALID with the first failing field, or ACCEPTED (R182). -/
def configureWith (block : List Byte) (s : State) : State × PanelAnswer :=
  if block.length ≠ blockLength then refuseUnknown s
  else if s.station.mode ≠ .commission then (s, PanelAnswer.of 2 .frozen [])
  else
    match firstFailing s.station.node block with
    | some k => (s, PanelAnswer.of 2 .invalid (enc8 k))
    | none => (acceptBlock block s, PanelAnswer.of 2 .accepted [])

/-- CONFIGURE (R182). -/
def execConfigure (block : List Byte) (s : State) : Host.Outcome State Fault Refusal :=
  .next (arrival (takeCommand 2 (configureWith block)) s)

/-! ### LOCK and UNLOCK (R165, R167) -/

/-- LOCK with its answer (R165). -/
def lockWith (code level : Nat) (s : State) : State × PanelAnswer :=
  let r := applyLock code level s
  (r.1, PanelAnswer.of 3 r.2 [])

/-- LOCK (R165). -/
def execLock (code level : Nat) (s : State) : Host.Outcome State Fault Refusal :=
  .next (arrival (takeCommand 3 (lockWith code level)) s)

/-- UNLOCK with its answer (R167). -/
def unlockWith (code : Nat) (s : State) : State × PanelAnswer :=
  let r := applyUnlock code s
  (r.1, PanelAnswer.of 4 r.2.1 r.2.2)

/-- UNLOCK (R167). -/
def execUnlock (code : Nat) (s : State) : Host.Outcome State Fault Refusal :=
  .next (arrival (takeCommand 4 (unlockWith code)) s)

/-! ### ACK_ALARMS (R176) -/

/-- ACK ALARMS with the number of flags whose state changed (R176). -/
def ackWith (s : State) : State × PanelAnswer :=
  let f := acknowledgeAll s.alarms.flags
  (s.setAlarms { s.alarms with flags := f }, PanelAnswer.of 5 .accepted (enc8 (flagsChanged s.alarms.flags f)))

/-- ACK_ALARMS (R176). -/
def execAckAlarms (s : State) : Host.Outcome State Fault Refusal := .next (arrival (takeCommand 5 ackWith) s)

/-! ### CLEAR_FAULT (R171) -/

/-- Every fault hold ends, and the open request is retried if one stood (R66, R67). -/
def endHolds (s : State) : State :=
  let s1 := s.setQueue { s.queue with holds := ⟨.stopped, .stopped, .stopped, .stopped⟩ }
  if s.queue.holds.toList.any Timer.isRunning then trySelection s1 else s1

/-- CLEAR FAULT: the holds end whenever it is taken; a cannon in FAULT leaves it (R171, R92). The holds end first, so that
the request that PARKED opens finds every face a candidate (log 42). -/
def clearFaultWith (s : State) : State × PanelAnswer :=
  if s.cannon.state = .fault then (leaveFault (endHolds s), PanelAnswer.of 6 .accepted [])
  else (endHolds s, PanelAnswer.of 6 .notInFault [])

/-- CLEAR_FAULT (R171). -/
def execClearFault (s : State) : Host.Outcome State Fault Refusal := .next (arrival (takeCommand 6 clearFaultWith) s)

/-! ### RESTART (R186) -/

/-- RESTART: taken in LISTEN, RUN and MUTE, INVALID otherwise (R171, R186). -/
def restartWith (s : State) : State × PanelAnswer :=
  if s.operational then (takeRestart s, PanelAnswer.of 7 .accepted []) else (s, PanelAnswer.of 7 .invalid [])

/-- RESTART (R186). -/
def execRestart (s : State) : Host.Outcome State Fault Refusal := .next (arrival (takeCommand 7 restartWith) s)

/-! ### TEST_SPRAY (R173) -/

/-- The answer that follows the queue's handling of a TEST demand (R173). -/
def testAnswer : OfferAnswer → PanelAnswer
  | .merged => PanelAnswer.of 8 .accepted (enc8 0)
  | .added => PanelAnswer.of 8 .accepted (enc8 1)
  | .full => PanelAnswer.of 8 .full []
  | .invalid => PanelAnswer.of 8 .invalid []

/-- TEST SPRAY: a TEST demand offered to the queue (R173). -/
def testSprayWith (face volume : Nat) (s : State) : State × PanelAnswer :=
  if h : face < 4 then
    let r := offerDemand { face := ⟨face, h⟩, cls := .test, volume := volume, origin := .panel, deadline := none } s
    (r.1, testAnswer r.2)
  else (s, PanelAnswer.of 8 .invalid [])

/-- TEST_SPRAY (R173). -/
def execTestSpray (face volume : Nat) (s : State) : Host.Outcome State Fault Refusal :=
  .next (arrival (takeCommand 8 (testSprayWith face volume)) s)

end Sys2Proof.Machine
end

