-- ==== Sys2Proof/Machine/Due.lean ====
section
/-! DEFINITION. The expiries that are due: the station's own timers, and the gaps that break a reception, read from the
state. What the step does on an empty
queue posts them (log 1, log 2, log 3). -/

namespace Sys2Proof.Machine

/-- A command, if its moment has come. -/
def dueIf (b : Bool) (c : Instr) : List Instr := if b then [c] else []

/-- The timers of the Wind Unit, the Face Model Unit, the Forecast Table and Station Control that are due. -/
def dueControl (s : State) : List Instr :=
  dueIf (s.wind.minute.isDue s.now) .minuteClose
    ++ dueIf (s.face.timer.isDue s.now) .evaluation
    ++ dueIf (s.station.window.isDue s.now) .commissioningWindowExpiry
    ++ dueIf (s.station.listen.isDue s.now) .listenTimerExpiry
    ++ dueIf (s.forecast.slotDue s.minute) .slotEnd
    ++ dueIf (s.forecast.staleDue s.minute) .forecastStaleExpiry

/-- The timers of the Cannon Controller that are due. -/
def dueCannon (s : State) : List Instr :=
  dueIf (s.cannon.on.isDue s.now) .onTimerExpiry
    ++ dueIf (s.cannon.period.isDue s.now) .periodTimerExpiry
    ++ dueIf (s.cannon.noFlow.isDue s.now) .noFlowExpiry
    ++ dueIf (s.cannon.slew.isDue s.now) .slewTimeout
    ++ dueIf (s.cannon.priming.isDue s.now) .primingExpiry
    ++ dueIf (s.cannon.drain.isDue s.now) .drainExpiry
    ++ dueIf (s.cannon.standby.isDue s.now) .standbyExpiry

/-- The moments of the Spray Queue that have come. -/
def dueQueue (s : State) : List Instr :=
  (allFaces.filter fun f => (s.queue.holds.get f).isDue s.now).map .faultHoldExpiry
    ++ dueIf (s.queue.entries.any (Entry.deadlineDue s.sec)) .deadline

/-- The moments of the Water Claim Unit and the Water Account that have come. -/
def dueWater (s : State) : List Instr :=
  dueIf s.firstStageDue .firstStage
    ++ dueIf s.secondStageDue .secondStage
    ++ dueIf (s.claim.own.settle.isDue s.now) .settleExpiry
    ++ dueIf (s.claim.own.refresh.isDue s.now) .claimRefresh
    ++ dueIf s.supplyStaleDue .supplyStaleExpiry
    ++ dueIf (s.claim.supply.stale && s.dayOver) .staleRollover

/-- The timers of the Dust Watch Unit that are due. -/
def dueDust (s : State) : List Instr :=
  dueIf (s.dust.watch.isDue s.now) .readingWatchExpiry
    ++ dueIf (s.dust.refresh.isDue s.now) .plumeRefresh
    ++ dueIf (s.dust.recovery.isDue s.now) .recoveryExpiry
    ++ dueIf (s.dust.response.isDue s.now) .responseWindowExpiry
    ++ (s.dust.answers.filter (PendingAnswer.expired s.sec)).map fun a => .pendingAnswerExpiry a.target

/-- The moments of the Peer Map and the Line Controller that have come. -/
def dueLine (s : State) : List Instr :=
  dueIf (s.peers.sweep.isDue s.now) .sweep
    ++ dueIf (s.line.brokenDue s.now) .frameBroken
    ++ dueIf (s.inRun && s.line.gapDue s.now) .accessGap
    ++ dueIf (s.line.backoff.isDue s.now) .backoffExpiry
    ++ dueIf (s.line.isolation.isDue s.now) .isolationExpiry
    ++ dueIf (s.line.period.isDue s.now) .statusPeriod
    ++ dueIf (s.line.spacing.isDue s.now) .statusDueMark

/-- The moment of the Panel Link that has come: 200 ms within a message without a byte (R169). -/
def duePanel (s : State) : List Instr :=
  dueIf (!s.panel.partialMessage.isEmpty && decide (s.panel.heard + 200 ≤ s.now)) .panelMessageBroken

/-- The expiries that are due now; none in START, where no timer runs. -/
def dueCommands (s : State) : List Instr :=
  if s.station.mode = .start then []
  else dueControl s ++ dueCannon s ++ dueQueue s ++ dueWater s ++ dueDust s ++ dueLine s ++ duePanel s

/-- One millisecond of local time passes. -/
def passTime (s : State) : State := s.setNow (s.now + 1)

/-- The station with nothing to take: an expiry that is due is put in the queue, one of several by a free choice, and
without any a millisecond passes (log 1, log 2). -/
def idle (s : State) : State :=
  match dueCommands s with
  | [] => passTime s
  | [c] => s.setPending [c]
  | c :: rest => (s.setPending [(c :: rest).getD (Config.freeOrder s.free % (rest.length + 1)) c]).drawFree

end Sys2Proof.Machine
end

