-- ==== Sys2Proof/Machine/Dispatch.lean ====
section
/-! DEFINITION. The meaning of every command: one arm per constructor, each one call. -/

namespace Sys2Proof.Machine

/-- What a command does to everything but the queue of waiting commands. -/
def exec (i : Instr) (s : State) : Host.Outcome State Fault Refusal :=
  match i with
  | .powerOn straps key => Sys2Proof.Machine.execPowerOn straps key s
  | .anemometerSample speed bearing => Sys2Proof.Machine.execAnemometerSample speed bearing s
  | .minuteClose => Sys2Proof.Machine.execMinuteClose s
  | .evaluation => Sys2Proof.Machine.execEvaluation s
  | .rainPulse => Sys2Proof.Machine.execRainPulse s
  | .flowPulse => Sys2Proof.Machine.execFlowPulse s
  | .encoderReport bearing => Sys2Proof.Machine.execEncoderReport bearing s
  | .dustReading value => Sys2Proof.Machine.execDustReading value s
  | .readingWatchExpiry => Sys2Proof.Machine.execReadingWatchExpiry s
  | .pressureReading pressure => Sys2Proof.Machine.execPressureReading pressure s
  | .firstStage => Sys2Proof.Machine.execFirstStage s
  | .secondStage => Sys2Proof.Machine.execSecondStage s
  | .commissioningKeyRelease => Sys2Proof.Machine.execCommissioningKeyRelease s
  | .commissioningWindowExpiry => Sys2Proof.Machine.execCommissioningWindowExpiry s
  | .listenTimerExpiry => Sys2Proof.Machine.execListenTimerExpiry s
  | .statusFrame sender payload => Sys2Proof.Machine.execStatusFrame sender payload s
  | .claimFrame sender payload => Sys2Proof.Machine.execClaimFrame sender payload s
  | .releaseFrame sender payload => Sys2Proof.Machine.execReleaseFrame sender payload s
  | .plumeFrame sender payload => Sys2Proof.Machine.execPlumeFrame sender payload s
  | .coverFrame sender payload => Sys2Proof.Machine.execCoverFrame sender payload s
  | .windFrame sender payload => Sys2Proof.Machine.execWindFrame sender payload s
  | .forecastFrame sender payload => Sys2Proof.Machine.execForecastFrame sender payload s
  | .supplyFrame sender payload => Sys2Proof.Machine.execSupplyFrame sender payload s
  | .machineFrame sender payload => Sys2Proof.Machine.execMachineFrame sender payload s
  | .duplicate => Sys2Proof.Machine.execDuplicate s
  | .frameBroken => Sys2Proof.Machine.execFrameBroken s
  | .accessGap => Sys2Proof.Machine.execAccessGap s
  | .collision => Sys2Proof.Machine.execCollision s
  | .backoffExpiry => Sys2Proof.Machine.execBackoffExpiry s
  | .transmissionCompletes => Sys2Proof.Machine.execTransmissionCompletes s
  | .read selector part first last => Sys2Proof.Machine.execRead selector part first last s
  | .configure block => Sys2Proof.Machine.execConfigure block s
  | .lock code level => Sys2Proof.Machine.execLock code level s
  | .unlock code => Sys2Proof.Machine.execUnlock code s
  | .ackAlarms => Sys2Proof.Machine.execAckAlarms s
  | .clearFault => Sys2Proof.Machine.execClearFault s
  | .restart => Sys2Proof.Machine.execRestart s
  | .testSpray face volume => Sys2Proof.Machine.execTestSpray face volume s
  | .panelUnknownCommand code => Sys2Proof.Machine.execPanelUnknownCommand code s
  | .panelBadCheck => Sys2Proof.Machine.execPanelBadCheck s
  | .panelMessageBroken => Sys2Proof.Machine.execPanelMessageBroken s
  | .answerSent => Sys2Proof.Machine.execAnswerSent s
  | .settleExpiry => Sys2Proof.Machine.execSettleExpiry s
  | .claimRefresh => Sys2Proof.Machine.execClaimRefresh s
  | .onTimerExpiry => Sys2Proof.Machine.execOnTimerExpiry s
  | .periodTimerExpiry => Sys2Proof.Machine.execPeriodTimerExpiry s
  | .noFlowExpiry => Sys2Proof.Machine.execNoFlowExpiry s
  | .slewTimeout => Sys2Proof.Machine.execSlewTimeout s
  | .primingExpiry => Sys2Proof.Machine.execPrimingExpiry s
  | .drainExpiry => Sys2Proof.Machine.execDrainExpiry s
  | .standbyExpiry => Sys2Proof.Machine.execStandbyExpiry s
  | .faultHoldExpiry face => Sys2Proof.Machine.execFaultHoldExpiry face s
  | .deadline => Sys2Proof.Machine.execDeadline s
  | .supplyStaleExpiry => Sys2Proof.Machine.execSupplyStaleExpiry s
  | .staleRollover => Sys2Proof.Machine.execStaleRollover s
  | .slotEnd => Sys2Proof.Machine.execSlotEnd s
  | .forecastStaleExpiry => Sys2Proof.Machine.execForecastStaleExpiry s
  | .plumeRefresh => Sys2Proof.Machine.execPlumeRefresh s
  | .recoveryExpiry => Sys2Proof.Machine.execRecoveryExpiry s
  | .responseWindowExpiry => Sys2Proof.Machine.execResponseWindowExpiry s
  | .pendingAnswerExpiry target => Sys2Proof.Machine.execPendingAnswerExpiry target s
  | .sweep => Sys2Proof.Machine.execSweep s
  | .isolationExpiry => Sys2Proof.Machine.execIsolationExpiry s
  | .statusPeriod => Sys2Proof.Machine.execStatusPeriod s
  | .statusDueMark => Sys2Proof.Machine.execStatusDueMark s
  | .frameDiscarded => Sys2Proof.Machine.execFrameDiscarded s

end Sys2Proof.Machine
end

