-- ==== Sys2Proof/Safety.lean ====
section
/-! DEFINITION. What a claim about a run speaks of: which parts of the state a step leaves alone, and the invariants of
the station. -/

namespace Sys2Proof.Machine

/-! ### Frames -/

/-- The parts of the state. -/
inductive Field where
  | now
  | station
  | pins
  | store
  | wind
  | forecast
  | face
  | look
  | queue
  | cannon
  | claim
  | account
  | dust
  | peers
  | line
  | lockout
  | alarms
  | panel
  | free
  | pending
deriving DecidableEq, Repr

/-- A part is the same in two states. -/
def Field.agrees (f : Field) (s t : State) : Prop :=
  match f with
  | .now => t.now = s.now
  | .station => t.station = s.station
  | .pins => t.pins = s.pins
  | .store => t.store = s.store
  | .wind => t.wind = s.wind
  | .forecast => t.forecast = s.forecast
  | .face => t.face = s.face
  | .look => t.look = s.look
  | .queue => t.queue = s.queue
  | .cannon => t.cannon = s.cannon
  | .claim => t.claim = s.claim
  | .account => t.account = s.account
  | .dust => t.dust = s.dust
  | .peers => t.peers = s.peers
  | .line => t.line = s.line
  | .lockout => t.lockout = s.lockout
  | .alarms => t.alarms = s.alarms
  | .panel => t.panel = s.panel
  | .free => t.free = s.free
  | .pending => t.pending = s.pending

/-- From one state to the other only the listed parts may differ. -/
def onlyChanges (fs : List Field) (s t : State) : Prop := ∀ f, f ∉ fs → f.agrees s t

/-- Every alarm flag but the listed ones is the same in two states. -/
def flagsExcept (is : List AlarmId) (s t : State) : Prop :=
  ∀ i, i ∉ is → t.alarms.flags.get i = s.alarms.flags.get i

/-- From one state of the line to the other only STATUS moved: the URGENT frames and their order, the reception, the
backoff and the line's two conditions are the same, and access went at most from IDLE to WAITING. -/
def statusOnly (l m : Line) : Prop :=
  (m.queue.filter fun f => f.content.urgent) = (l.queue.filter fun f => f.content.urgent)
    ∧ (m.access = l.access ∨ (l.access = .idle ∧ m.access = .waiting))
    ∧ m.backoff = l.backoff ∧ m.quietSince = l.quietSince ∧ m.busy = l.busy ∧ m.partialFrame = l.partialFrame
    ∧ m.isolation = l.isolation ∧ m.isolated = l.isolated ∧ m.duplicate = l.duplicate

/-- A queued frame that waits and that an offered content replaces: a STATUS a STATUS, a CLAIM one of its serial (R154). -/
def replacedBy (c : Content) (f : TxFrame) : Prop :=
  f.inTx = false ∧
    match c, f.content with
    | .status _, .status _ => True
    | .claim serial _ _ _, .claim queued _ _ _ => queued = serial
    | _, _ => False

/-- A queued STATUS that waits (R155). -/
def statusWaits (f : TxFrame) : Prop := f.inTx = false ∧ ∃ a, f.content = .status a

/-! ### Chain ends -/

/-- The spray record of a chain that ends at a time with a cause (R93, R83). -/
def chainRecord (sec serial : Nat) (cause : Cause) (ch : Chain) : SprayRecord :=
  { serial := serial, face := ch.face, cls := ch.cls, origin := ch.origin, requested := ch.requested
    delivered := ch.litres, planned := ch.planned, completed := ch.completed
    firstFailed := if cause = .complete then none else some ch.index
    cause := cause, start := ch.start, finish := sec }

/-- The log holds one record more, the oldest gone where there were 8, and the serial counter has moved on (R93). -/
def logged (r : SprayRecord) (c d : Cannon) : Prop :=
  d.log = (c.log ++ [r]).drop (c.log.length + 1 - 8) ∧ d.nextSerial = (c.nextSerial + 1) % 256

/-- The chain of a state has ended with a cause: recorded, and its face at the end of the rotation order (R63, R83). -/
def endedBy (cause : Cause) (ch : Chain) (s t : State) : Prop :=
  logged (chainRecord s.sec s.cannon.nextSerial cause ch) s.cannon t.cannon
    ∧ t.queue.rotation = s.queue.rotation.filter (fun g => decide (g ≠ ch.face)) ++ [ch.face]

/-- What a NO_FLOW or PRESSURE stop makes of the entry of a chain (R61, R66): one attempt more, and at the third the entry
leaves and its face is held for 600 s. -/
def attemptCounted (ch : Chain) (s t : State) : Prop :=
  ∀ e ∈ s.queue.entries, e.face = ch.face → e.cls = ch.cls → e.running = true → e.reached = false →
    (e.attempts + 1 < 3 → ∃ e' ∈ t.queue.entries, e'.face = e.face ∧ e'.cls = e.cls
        ∧ e'.attempts = e.attempts + 1 ∧ e'.delivered = e.delivered ∧ e'.requested = e.requested)
      ∧ (e.attempts + 1 = 3 → findEntry e.face e.cls t.queue.entries = none
          ∧ t.queue.holds.get e.face = .running (s.now + 600000))

/-! ### LISTEN, and the frames offered again -/

/-- The timers that a LISTEN entry starts and the marks it clears (R183, R2, R24, R73, R118, R152, R162). -/
def listenStarted (t : State) : Prop :=
  t.station.mode = .listen ∧ t.station.listen = .running (t.now + 60000) ∧ t.wind.acc = Accumulator.empty
    ∧ t.wind.minute = .running (t.now + 60000) ∧ t.face.timer = .running (t.now + 60000)
    ∧ t.dust.watch = .running (t.now + 40000) ∧ t.line.isolation = .running (t.now + 300000)
    ∧ t.line.duplicate = false
    ∧ (t.cannon.state = .parked →
        t.cannon.standby =
          (if 0 < t.cfg.standbyCount then .running (t.now + t.cfg.standbyCount * 60000) else .stopped))

/-- The measures that the first LISTEN entry after power-on starts (R96, R16). -/
def firstListenStarted (t : State) : Prop :=
  t.claim.supply.staleTimer = .running (t.now + 300000)
    ∧ (t.forecast.issue = none → t.forecast.staleStart = some t.minute)

/-- The face records formed from a configuration, and no look-ahead summary (R19, R20, R52). -/
def recordsFormed (c : Configuration) (t : State) : Prop :=
  (∀ f, t.look.get f = none)
    ∧ ∀ f, t.face.records.get f =
        if (c.faces.get f).enabled then
          some
            { desc := c.faces.get f, m := (c.faces.get f).mInit, rd := 0, rs := 0, pendingSpray := 0, pendingRain := 0
              sprayed := 0, index := 0, cls := .quiet, active := false, estimated := true, lastPrewet := none
              runoff := 0, lastEval := none, lastSizing := none }
        else none

/-- The frames that the Dust Watch Unit held are offered again (R118, R123, R129): where the queue has room, the pending
announcement of a notice in EXCEED and then the pending answers in their order take new places behind the URGENT frames,
`rest` after them, and none is held any more; an answer without room is still held. -/
def dustRetried (rest : List TxFrame) (s t : State) : Prop :=
  let notice := s.dust.announce && decide (t.dust.level = .exceed)
  let contents : List Content :=
    (if notice then
        [.plume s.cfg.x s.cfg.y s.wind.record.bearing (t.dust.mean.getD 0) (s.dust.serial.getD 0)] else [])
      ++ s.dust.answers.map fun a => .cover a.target a.serial a.answer a.count a.formed
  (s.line.queue.length + contents.length ≤ 8 →
      (t.line.queue.filter fun f => f.content.urgent) =
          (s.line.queue.filter fun f => f.content.urgent)
            ++ (contents.map fun c =>
                { content := c, originator := .dustWatch, queueTime := s.sec, attempts := 0, inTx := false
                  noRetry := false })
            ++ rest
        ∧ t.dust.answers = [] ∧ (notice = true → t.dust.announce = false))
    ∧ ((s.dust.answers.map PendingAnswer.target).Nodup →
        ∀ a ∈ s.dust.answers, a ∈ t.dust.answers
          ∨ ∃ f ∈ t.line.queue, f.content = .cover a.target a.serial a.answer a.count a.formed)

/-- A selected entry has become a chain (R67, R74): the request is answered, the entry runs, its face is the charge face,
and the chain is cut from the litres that the entry still asks for, at most 200 segments of Q; `waits` says whether it
waits for a drain or a priming. -/
def chainFormed (e : Entry) (waits : Bool) (s t : State) : Prop :=
  let left := e.requested - e.delivered
  t.queue.request = false ∧ { e with running := true } ∈ t.queue.entries ∧ t.cannon.chargeFace = some e.face
    ∧ t.cannon.chain =
        some
          { face := e.face, cls := e.cls, origin := e.origin, basis := e.enqueue, requested := e.requested
            remaining := left, planned := min 200 ((left + s.cfg.quantum - 1) / s.cfg.quantum)
            quantum := s.cfg.quantum, start := s.sec, index := 1, completed := 0, segment := 0, litres := 0
            valveOpened := false, waiting := waits, sweep := .clockwise }

/-- The cannon in a state in which a selected chain waits (R74). -/
def chainWaits (s : State) : Bool := decide (s.cannon.state = .draining ∨ s.cannon.state = .priming)

/-- The open request is answered by the best candidate in RUN, and stays open without one (R67, R68). -/
def requestTried (s t : State) : Prop :=
  (∀ e, s.queue.request = true → s.cannon.selectable = true → s.lockout.locks = [] → s.choose = some e →
      chainFormed e (chainWaits s) s t)
    ∧ (s.queue.request = false ∨ s.cannon.selectable = false ∨ s.lockout.locks ≠ [] ∨ s.choose = none →
        t.cannon = s.cannon ∧ t.queue = s.queue ∧ t.claim = s.claim)

/-! ### Projections -/

/-- The scratch moisture and remainder after a slot is projected at a minute (R42 to R44). -/
def slotProjected (d : FaceDesc) (n : Nat) (p : Nat × Nat) (k : Slot) : Nat × Nat :=
  let sum := p.2 + d.kd * (k.mean + 20) * exposure (angleDiff k.bearing d.normal) * (k.finish - max n k.start)
  (min d.msat (p.1 - sum / 8192 + k.rain * d.kw / 10), if sum / 8192 ≤ p.1 then sum % 8192 else 0)

/-- The effective wind of a slot (R45). -/
def slotWind (d : FaceDesc) (k : Slot) : Nat := k.mean * exposure (angleDiff k.bearing d.normal) / 16

/-- The index that a slot gives with a moisture (R45). -/
def indexOfSlot (d : FaceDesc) (m : Nat) (k : Slot) : Nat :=
  let excess := slotWind d k - min 400 (d.wt0 + m * d.km / 100)
  min 255 (excess * excess / 64)

/-- The moisture and the index of the slot behind `pre` in a window, with the slots before it projected (R42 to R45). -/
def predictedAt (r : FaceRecord) (n : Nat) (pre : List Slot) (k : Slot) : Nat × Nat :=
  let m := ((pre ++ [k]).foldl (slotProjected r.desc n) (r.m, r.rd)).1
  (m, indexOfSlot r.desc m k)

/-- The summary of a look-ahead run on a face record, all but what the queue made of the offer (R41 to R48, R51): the
predicted slot is the first of the window whose index reaches T_act, with the slots before it projected, and the volume
meets its requirement. The moisture of NO_SLOT: log 37. -/
def summaryOf (s : State) (r : FaceRecord) (y : Summary) : Prop :=
  let c := s.cfg
  let n := s.minute
  let window := s.forecast.slots.filter fun k => decide (n < k.finish) && decide (k.start ≤ n + c.prewetLead)
  let reaches := fun pre k => c.tAct ≤ (predictedAt r n pre k).2
  y.minute = n ∧ y.issue = s.forecast.issue.getD 0
    ∧ (y.outcome = .noSlot ∨ y.outcome = .clear ∨ y.outcome = .saturated → y.volume = none ∧ y.deadline = none)
    ∧ (window = [] → y.outcome = .noSlot ∧ y.projected = 0 ∧ y.slot = none ∧ y.index = none ∧ y.moisture = r.m)
    ∧ (window ≠ [] → (∀ pre k post, window = pre ++ k :: post → ¬ reaches pre k) →
        y.outcome = .clear ∧ y.projected = window.length ∧ y.slot = none ∧ y.index = none
          ∧ y.moisture = (window.foldl (slotProjected r.desc n) (r.m, r.rd)).1)
    ∧ ∀ pre k post, window = pre ++ k :: post → reaches pre k →
        (∀ pre' j post', pre = pre' ++ j :: post' → ¬ reaches pre' j) →
        let m := (predictedAt r n pre k).1
        let d := r.desc
        let need := min d.msat (((slotWind d k + d.mg - d.wt0) * 100 + d.km - 1) / d.km)
        y.slot = some k.start ∧ y.index = some (predictedAt r n pre k).2 ∧ y.projected = pre.length + 1 ∧ y.moisture = m
          ∧ (d.km ≠ 0 → need ≤ m → y.outcome = .saturated)
          ∧ (d.km = 0 ∨ m < need →
              y.volume =
                  some (max c.vMin (min c.vMaxDose
                    (if d.km = 0 then c.vMaxDose else ((need - m) * d.area + d.kw - 1) / d.kw)))
                ∧ y.deadline = some (if n < k.start then k.start * 60 else s.sec))

/-! ### Codes -/

/-- A state without its codes: those of the locks, the supervisor code, and the store that holds them (R164, R172). -/
def State.withoutCodes (s : State) : State :=
  let bare := fun c : Configuration => { c with supervisor := 0 }
  ((s.setLockout { s.lockout with locks := s.lockout.locks.map fun k => { k with code := 0 } }).setStation
      { s.station with stored := s.station.stored.map bare, config := s.station.config.map bare }).setStore
    { block := [], locks := none }

/-! ### Winds, sizing, recompute and gating -/

/-- A usable wind report of a close: of an entry that is not LOST and has a position, no more than 180 s old, with the
squared distance of its sender (R6, R139, R144). -/
def usableWind (s : State) (q : Peer) (w : WindReport) (d : Int) : Prop :=
  q ∈ s.peers.entries ∧ s.sec - q.heard ≤ 150 ∧ q.wind = some w ∧ s.sec - w.arrival ≤ 180
    ∧ ∃ x y : Nat, q.position = some (x, y)
        ∧ d = (Int.ofNat x - Int.ofNat s.cfg.x) ^ 2 + (Int.ofNat y - Int.ofNat s.cfg.y) ^ 2

/-- The litres of runoff that a face forms at an evaluation (R25 to R28). -/
def runoffFormed (s : State) (r : FaceRecord) : Nat :=
  let e := if s.wind.record.source = .fallback then 16
    else exposure (angleDiff s.wind.record.bearing r.desc.normal)
  let dried := r.m - (r.rd + r.desc.kd * (s.wind.record.speed + 20) * e) / 8192
  let filled := dried + r.pendingRain * r.desc.kw / 5 + (r.rs + r.pendingSpray * r.desc.kw) / r.desc.area
  (filled - r.desc.msat) * r.desc.area / r.desc.kw

/-- The SUPPRESS volume of an effective wind and a moisture (R34). -/
def suppressLitres (c : Configuration) (d : FaceDesc) (weff m : Nat) : Nat :=
  let need := min d.msat (((weff + d.mg - d.wt0) * 100 + d.km - 1) / d.km)
  max c.vMin (min c.vMaxDose
    (if d.km = 0 then c.vMaxDose
     else if need ≤ m then c.vMin else ((need - m) * d.area + d.kw - 1) / d.kw))

/-- What step 8 leaves of a face whose record after the evaluation is `r`, where no selection can be tried and the queue
has room (R33 to R36): HELD, SKIPPED, UPDATED or ADDED with the volume, REMOVED or NONE (no volume in the other four:
log 40); and the SUPPRESS entry. -/
def sizedBy (s t : State) (f : FaceId) (v : Nat) (r : FaceRecord) : Prop :=
  let held := fun e : Entry => e.face = f ∧ e.cls = .suppress
  (r.cls = .watch → r.lastSizing = some { volume := none, outcome := .held }
      ∧ ∀ e ∈ s.queue.entries, held e → e ∈ t.queue.entries)
    ∧ (r.cls = .act → (∃ e ∈ s.queue.entries, e.face = f ∧ e.running = true) →
        r.lastSizing = some { volume := none, outcome := .skipped })
    ∧ (r.cls = .act → (∀ e ∈ s.queue.entries, e.face = f → e.running = false) →
        (∀ e ∈ s.queue.entries, held e →
            r.lastSizing = some { volume := some v, outcome := .updated }
              ∧ { e with requested := min 65535 (max (e.delivered + 1) v) } ∈ t.queue.entries)
          ∧ ((∀ e ∈ s.queue.entries, ¬ held e) →
            r.lastSizing = some { volume := some v, outcome := .added }
              ∧ { face := f, cls := .suppress, requested := min 65535 v, delivered := 0, origin := .localRisk
                  enqueue := s.sec, deadline := none, reached := false, attempts := 0, running := false }
                ∈ t.queue.entries))
    ∧ (r.cls = .quiet → (∀ e ∈ s.queue.entries, ¬ held e) →
        r.lastSizing = some { volume := none, outcome := .none })
    ∧ (r.cls = .quiet → ∀ e ∈ s.queue.entries, held e →
        (e.running = true → e ∈ t.queue.entries)
          ∧ (e.running = false → r.lastSizing = some { volume := none, outcome := .removed }
              ∧ ∀ x ∈ t.queue.entries, ¬ held x))

/-- A face gets a KNOCKDOWN from a notice of a bearing: it has a record in WATCH or ACT, with its normal within 67 degrees
of the bearing (R128). -/
def facesNotice (s : State) (theta : Nat) (f : FaceId) : Bool :=
  match s.face.records.get f with
  | some r => decide (r.cls ≠ .quiet) && decide (angleDiff theta r.desc.normal ≤ 67)
  | none => false

/-- The KNOCKDOWN of a face after a notice of a node (R128, R56, R57): where the face gets one, an entry of V_knock is new
or merged; where it gets none, none is new. -/
def knockdownsOffered (s t : State) (f : FaceId) (n : Nat) (gets : Bool) : Prop :=
  let knocks := fun e : Entry => e.face = f ∧ e.cls = .knockdown
  (gets = true → ∃ e ∈ t.queue.entries, knocks e
      ∧ ((∀ x ∈ s.queue.entries, ¬ knocks x) →
          e.origin = .peerNotice n ∧ e.requested = min 65535 s.cfg.vKnock ∧ e.delivered = 0 ∧ e.enqueue = s.sec)
      ∧ ∀ x ∈ s.queue.entries, knocks x →
          e.origin = x.origin ∧ e.requested = min 65535 (max x.requested (x.delivered + s.cfg.vKnock))
            ∧ e.delivered = x.delivered)
    ∧ (gets = false → (∃ e ∈ t.queue.entries, knocks e) → ∃ x ∈ s.queue.entries, knocks x)

/-- What a recompute makes of the own claim (R104, R105), with `d` the decision on the peer claims and the supply after
the arrival: a claim that is NONE or SETTLING, or DEFERRED without room, is left; a DEFERRED one with room takes the
cannon into SPRAYING; a GRANTED or THROTTLED one takes the new on-time (`Cannon.applyOnTime`, with
log 39), and without room its chain ends YIELDED. -/
def recomputed (s t : State) : Prop :=
  let d := ((s.setPeers t.peers).setClaim { s.claim with supply := t.claim.supply }).decision
  let holds := s.claim.own.state = .granted ∨ s.claim.own.state = .throttled
  (s.claim.own.state = .none ∨ s.claim.own.state = .settling
      ∨ (s.claim.own.state = .deferred ∧ d.tHeld = none) →
      t.claim.own = s.claim.own ∧ t.cannon = s.cannon ∧ t.queue = s.queue)
    ∧ (∀ onTime, s.claim.own.state = .deferred → d.tHeld = some onTime →
        ∀ ch, s.cannon.chain = some ch → s.cannon.state = .claiming →
          t.claim.own.state = d.state ∧ t.claim.own.tHeld = some onTime ∧ t.claim.own.qg = d.qg
            ∧ t.cannon.state = .spraying ∧ t.cannon.valveOpen = true ∧ t.cannon.onTime = some onTime
            ∧ t.cannon.chain = some { ch with valveOpened := true } ∧ t.queue = s.queue)
    ∧ (∀ onTime, holds → d.tHeld = some onTime →
        t.claim.own.state = d.state ∧ t.claim.own.tHeld = some onTime ∧ t.claim.own.qg = d.qg
          ∧ t.cannon = (if s.cannon.state = .spraying then s.cannon.applyOnTime s.now onTime else s.cannon)
          ∧ t.queue = s.queue)
    ∧ (∀ ch, holds → d.tHeld = none → s.cannon.chain = some ch →
        endedBy .yielded ch s t ∧ t.cannon.valveOpen = false
          ∧ (s.cannon.state = .spraying → ch.valveOpened = true →
              t.claim.own.state = .none ∧ t.cannon.state = .draining))

/-- What a change of the class gating does (R97): a chain whose class is no longer allowed stops SOURCE, the open request
is answered by the best entry that the new gating allows, and FRESH_EXHAUSTED is formed again. -/
def gatingFollowed (s t : State) : Prop :=
  t.gate ≠ s.gate →
    (∀ ch, s.cannon.chain = some ch → t.gate.allows ch.cls = false →
        endedBy .source ch s t ∧ t.cannon.valveOpen = false)
      ∧ (s.cannon.chain = none → s.queue.request = true → s.station.mode = .run → s.lockout.locks = [] →
          s.cannon.selectable = true →
          ∀ e, ((s.setClaim t.claim).setAccount t.account).choose = some e → chainFormed e (chainWaits s) s t)
      ∧ t.alarms.flags.freshExhausted.cond =
          (decide (t.claim.supply.source = .fresh) && decide (t.account.today.allowance ≤ t.account.today.fresh))

/-! ### Invariants -/

/-- Between two arrivals: outside START the condition flags hold their conditions' values and the relay is as R177 says,
and no frame is marked as having just left the queue. -/
def settled (s : State) : Prop := (s.station.mode ≠ .start → syncAlarms s = s) ∧ s.line.left = false

/-- The alarm relay law (R177). -/
def relayInv (s : State) : Prop := s.alarms.relay = relayLevel s.relaySet s.alarms.flags

/-- The Spray Queue (R54, R63): at most 8 entries, no two of one face and class, each short of its litres and under the
attempt limit, and a rotation order of the four faces. -/
def queueInv (q : SprayQueue) : Prop :=
  q.entries.length ≤ 8 ∧ (q.entries.map fun e => (e.face, e.cls)).Nodup
    ∧ (∀ e ∈ q.entries, e.delivered < e.requested ∧ e.requested ≤ 65535 ∧ e.attempts ≤ 2)
    ∧ q.rotation.length = 4 ∧ q.rotation.Nodup

/-- The cannon, its claim and the conditions of spraying (R72, R78, R101, R149, R166): the valve is open only while
SPRAYING; the cannon sprays only with flow held; a claim or a chain stands only in RUN with no lock; a request stands only
without a chain; PARKED, STANDBY, LOCKED and FAULT have no chain, and SLEWING, CLAIMING and SPRAYING have one; the drive turns only in
SLEWING and SPRAYING. -/
def cannonInv (s : State) : Prop :=
  (s.cannon.valveOpen = true → s.cannon.state = .spraying)
    ∧ (s.cannon.drive ≠ none → s.cannon.state = .slewing ∨ s.cannon.state = .spraying)
    ∧ (s.cannon.state = .spraying → s.claim.own.state.holdsFlow = true)
    ∧ (s.claim.own.state ≠ .none → s.cannon.state = .claiming ∨ s.cannon.state = .spraying)
    ∧ (s.cannon.chain.isSome = true → s.station.mode = .run ∧ s.lockout.locks = [])
    ∧ (s.queue.request = true → s.cannon.chain = none)
    ∧ ((s.cannon.state = .parked ∨ s.cannon.state = .standby ∨ s.cannon.state = .locked ∨ s.cannon.state = .fault) →
        s.cannon.chain = none)
    ∧ ((s.cannon.state = .slewing ∨ s.cannon.state = .claiming ∨ s.cannon.state = .spraying) →
        s.cannon.chain.isSome = true)

/-- The transmit queue (R149, R153, R157, R160): at most 8 frames, none outside RUN, each under the retry limit, and a
frame in transmission only while SENDING, one at most. -/
def lineInv (s : State) : Prop :=
  s.line.queue.length ≤ 8 ∧ (s.station.mode ≠ .run → s.line.queue = [])
    ∧ (∀ f ∈ s.line.queue, f.attempts ≤ 7)
    ∧ (s.line.queue.filter TxFrame.inTx).length ≤ 1
    ∧ (s.line.access ≠ .sending → s.line.queue.filter TxFrame.inTx = [])

/-- The Peer Map (R136): entries of node numbers 1 to 63 in rising order, none of the station's own. -/
def peersInv (s : State) : Prop :=
  (s.peers.entries.map Peer.node).Pairwise (· < ·)
    ∧ ∀ p ∈ s.peers.entries, 1 ≤ p.node ∧ p.node ≤ 63 ∧ p.node ≠ s.station.node

/-- The lock list and the attempt counter (R164): at most 4 locks with distinct codes up to 999,999, and 0 to 5
attempts. -/
def lockInv (l : Lockout) : Prop :=
  l.locks.length ≤ 4 ∧ (l.locks.map Lock.code).Nodup ∧ (∀ k ∈ l.locks, k.code ≤ 999999) ∧ l.attempts ≤ 5

/-- The store holds the lock list as it stands, outside START (R164). -/
def storeInv (s : State) : Prop :=
  s.station.mode ≠ .start →
    s.lockout.locks.map (fun k => (k.code, k.level)) = s.store.loadLocks.map fun k => (k.code, k.level)

/-- A face record within its ranges (R37, 2.1). -/
def recordInv (r : FaceRecord) : Prop := r.m ≤ r.desc.msat ∧ r.index ≤ 255

/-- The face records within their ranges, and a stored configuration that starts them so (R37, R182); that a description
that is not enabled does too is the model's choice (log 19). -/
def faceInv (s : State) : Prop :=
  (∀ f r, s.face.records.get f = some r → recordInv r)
    ∧ ∀ c, s.station.stored = some c → ∀ f, (c.faces.get f).mInit ≤ (c.faces.get f).msat

/-- The fresh ration (R110): today's fresh litres never exceed the day allowance by more than today's knockdown fresh
litres. -/
def accountInv (a : Account) : Prop := a.today.fresh ≤ a.today.allowance + a.today.knockdown

/-- The Dust Watch Unit (R117, R119, R129, R131): at most 6 readings, a count below 3, at most 8 cover entries with one
for a responder, and the pending answers in the order of their times and then of their targets, one for a target. -/
def dustInv (d : Dust) : Prop :=
  d.window.length ≤ 6 ∧ d.count ≤ 2 ∧ d.cover.length ≤ 8 ∧ (d.cover.map CoverEntry.responder).Nodup
    ∧ (d.answers.map PendingAnswer.target).Nodup
    ∧ d.answers.Pairwise fun a b => a.formed < b.formed ∨ (a.formed = b.formed ∧ a.target < b.target)

/-- The spray record log (R93): at most 8 records, whose serials follow one another up to the one before the next. -/
def logInv (c : Cannon) : Prop :=
  c.log.length ≤ 8 ∧ c.nextSerial < 256
    ∧ ∀ i r, c.log[i]? = some r → (r.serial + (c.log.length - i)) % 256 = c.nextSerial

/-- Slots of 30 minutes, each starting where the one before it ends (R14). -/
def slotsFollow : List Slot → Prop
  | [] => True
  | [k] => k.finish = k.start + 30
  | k :: l :: rest => k.finish = k.start + 30 ∧ l.start = k.finish ∧ slotsFollow (l :: rest)

/-- The Forecast Table (R13, R14): at most 12 slots, of 30 minutes each, each starting where the one before it ends. -/
def slotsInv (ks : List Slot) : Prop := ks.length ≤ 12 ∧ slotsFollow ks

/-- The Wind Unit (R3, R9): at most 60 samples in the accumulator, and a record within its ranges. -/
def windInv (w : Wind) : Prop := w.acc.count ≤ 60 ∧ w.record.sampleCount ≤ 60

end Sys2Proof.Machine
end

