-- ==== Sys2Proof/Certificates/Slice0/Obligations.lean ====
section
/-! DEFINITION. The statements about the station: what each command does, what it leaves alone, and what every step
keeps. A statement names the rule of spec/ it follows; where it rests on a choice of the model it names the log entry. -/

open Sys2Proof Sys2Proof.Machine

/-! ### The machine -/

/-- A step takes the command at the front of the queue and executes it with the queue's rest. -/
def Obligations.StepTakesFront : Prop :=
  ∀ (c : Instr) (rest : List Instr) (s : State), s.pending = c :: rest → step s = exec c (s.setPending rest)

/-- The idle step (the model's choice, log 1 and log 2): with no expiry due a millisecond passes and nothing else
changes; with some due, one of them is put in the queue. -/
def Obligations.IdleStep : Prop :=
  ∀ s : State, s.pending = [] →
    (dueCommands s = [] → step s = .next (s.setNow (s.now + 1)))
      ∧ (dueCommands s ≠ [] →
          ∃ c t, c ∈ dueCommands s ∧ step s = .next t ∧ t.pending = [c] ∧ onlyChanges [.pending, .free] s t)

/-- In START no command but POWER_ON changes anything (the model's choice, log 10). POWER_ON (R179): the station state by
the straps, the key and the stored configuration; the lock list from the store; every block at its power-on value; with
strap 0 CONFIG_ABSENT on the relay whatever the store holds; the store kept; in LISTEN the face records of the stored
configuration (R19) and the timers of that entry (R183). What of the pins, the waiting commands and
the count of free values is kept is the model's choice (log 25). -/
def Obligations.PowerOnState : Prop :=
  (∀ (c : Instr) (s : State), s.station.mode = .start → (∀ straps key, c ≠ .powerOn straps key) →
      exec c s = .next s)
  ∧ ∀ (straps : Fin 64) (key : Bool) (s : State), ∃ t, exec (.powerOn straps key) s = .next t
    ∧ t.now = 0
    ∧ t.station.node = straps.val ∧ t.station.cause = .powerOn ∧ t.station.lastReset = 0
    ∧ t.station.stored = loadBlock straps.val s.store.block ∧ t.station.config = t.station.stored
    ∧ (straps.val = 0 → t.alarms.flags.configAbsent.state = .raised ∧ t.alarms.relay = true)
    ∧ t.station.mode =
        (if straps.val = 0 then Mode.unconfigured
         else if key then .commission
         else if (loadBlock straps.val s.store.block).isSome then .listen else .unconfigured)
    ∧ t.wind.acc = Accumulator.empty ∧ t.wind.record.initial = true ∧ t.wind.record.source = .fallback
    ∧ t.wind.record.bearing = 0 ∧ t.wind.record.lastFresh = none
    ∧ t.wind.record.speed = ((loadBlock straps.val s.store.block).map Configuration.fallbackWind).getD 0
    ∧ t.forecast.slots = [] ∧ t.forecast.issue = none ∧ t.forecast.stale = false
    ∧ (∀ f, t.look.get f = none)
    ∧ (t.station.mode ≠ .listen → ∀ f, t.face.records.get f = none)
    ∧ (∀ cfg, t.station.mode = .listen → t.station.stored = some cfg →
        recordsFormed cfg t ∧ listenStarted t ∧ firstListenStarted t)
    ∧ (t.station.mode = .commission → t.station.window = .running 1800000)
    ∧ t.queue.entries = [] ∧ t.queue.rotation = [0, 1, 2, 3] ∧ (∀ f, t.queue.holds.get f = .stopped)
    ∧ t.queue.lastRemoval = none ∧ t.queue.request = s.store.loadLocks.isEmpty
    ∧ t.cannon.state = (if s.store.loadLocks.isEmpty then CannonState.parked else .locked)
    ∧ t.cannon.branchOpen = s.store.loadLocks.isEmpty ∧ t.cannon.valveOpen = false ∧ t.cannon.drive = none
    ∧ t.cannon.primed = false ∧ t.cannon.chain = none ∧ t.cannon.bearing = none ∧ t.cannon.noFlowCount = 0
    ∧ t.cannon.log = [] ∧ t.cannon.nextSerial = 0
    ∧ t.claim.own.state = .none ∧ t.claim.own.nextSerial = 0 ∧ t.claim.supply.capacity = none
    ∧ t.claim.supply.source = .reuse ∧ t.claim.supply.pond = none ∧ t.claim.supply.allowance = 0
    ∧ t.claim.supply.stale = false
    ∧ t.account.today = DayRecord.empty ∧ t.account.yesterday = DayRecord.empty ∧ t.account.dayStart = 0
    ∧ t.dust.window = [] ∧ t.dust.mean = none ∧ t.dust.level = .clear ∧ t.dust.count = 0 ∧ t.dust.silent = false
    ∧ t.dust.nextSerial = 0 ∧ t.dust.cover = [] ∧ t.dust.answers = [] ∧ t.dust.announce = false
    ∧ t.peers.entries = [] ∧ t.line.queue = [] ∧ t.line.access = .idle
    ∧ t.lockout.locks = s.store.loadLocks ∧ t.lockout.attempts = 5
    ∧ (∀ i, i ≠ .configAbsent → t.alarms.flags.get i = Flag.powerOn)
    ∧ t.alarms.flags.configAbsent.cond = (decide (straps.val = 0) || (loadBlock straps.val s.store.block).isNone)
    ∧ t.panel.answer = none ∧ t.panel.busy = none
    ∧ t.store = s.store ∧ t.pending = s.pending ∧ t.free = s.free
    ∧ t.pins = { contacts := s.pins.contacts, key := key, straps := straps.val }

/-! ### Wind and forecast -/

/-- ANEMOMETER_SAMPLE and RAIN_PULSE (R3, R21): what an accepted sample does to the accumulator, and when a sample is
discarded; every face record counts a pulse, up to 65,535. Nothing else changes. -/
def Obligations.SensorsAreCounted : Prop :=
  ∀ (speed bearing : Int) (s : State), settled s → s.station.mode ≠ .start →
    (s.wind.minute.isRunning = false → exec (.anemometerSample speed bearing) s = .next s)
      ∧ (bearing < 0 ∨ 359 < bearing ∨ 60 ≤ s.wind.acc.count →
          exec (.anemometerSample speed bearing) s = .next s)
      ∧ (s.wind.minute.isRunning = true → 0 ≤ bearing → bearing ≤ 359 → s.wind.acc.count < 60 →
          ∃ offset : Int,
            exec (.anemometerSample speed bearing) s =
              .next (s.setWind
                { s.wind with
                  acc :=
                    { count := s.wind.acc.count + 1
                      speedSum := s.wind.acc.speedSum + (max 0 (min 400 speed)).toNat
                      largest := max s.wind.acc.largest (max 0 (min 400 speed)).toNat
                      first := some (s.wind.acc.first.getD bearing.toNat)
                      offsetSum := s.wind.acc.offsetSum + offset } })
            ∧ (s.wind.acc.first = none → offset = 0)
            ∧ (∀ first, s.wind.acc.first = some first → first ≤ 359 →
                -179 ≤ offset ∧ offset ≤ 180 ∧ (360 : Int) ∣ offset - (bearing - Int.ofNat first)))
      ∧ (s.operational = false → exec .rainPulse s = .next s)
      ∧ (s.operational = true → ∃ face, exec .rainPulse s = .next (s.setFace face) ∧ face.timer = s.face.timer
          ∧ ∀ f, face.records.get f =
              (s.face.records.get f).map fun r => { r with pendingRain := min 65535 (r.pendingRain + 1) })

/-- MINUTE_CLOSE (R4 to R9, R77, R86): the accumulator is emptied, the timer reloads, and the minute wind record is the
local minute's, the nearest peer's (of the reports no more than 180 s old, the lower node number of two equally near), the
held one or the fallback, tried in this order. A rise of the wind cut-out condition stops a SPRAYING chain WIND_CUT and
gives up a claim that is SETTLING or DEFERRED; its fall asks for the claim; otherwise a close changes nothing else but
WIND_LOST and the relay. That the timer reloads from the moment it was due (log 22), and that the record before the close
holds the last fresh wind (log 28), are the model's choices. -/
def Obligations.MinuteCloseRecord : Prop :=
  ∀ (due : Nat) (s : State), s.station.mode ≠ .start → s.wind.minute = .running due → due ≤ s.now →
    ∃ t, exec .minuteClose s = .next t ∧ t.wind.acc = Accumulator.empty ∧ t.wind.minute = .running (due + 60000)
      ∧ onlyChanges [.wind, .queue, .cannon, .claim, .line, .face, .alarms, .free] s t
      ∧ t.wind.record.closeTime = some s.sec ∧ t.wind.record.initial = false
      ∧ t.wind.record.sampleCount = s.wind.acc.count
      ∧ (10 ≤ s.wind.acc.count →
          t.wind.record.source = .localMinute ∧ t.wind.record.node = none ∧ t.wind.record.lastFresh = some s.sec
            ∧ t.wind.record.speed = s.wind.acc.speedSum / s.wind.acc.count
            ∧ t.wind.record.gust = s.wind.acc.largest
            ∧ t.wind.record.bearing =
                ((Int.ofNat (s.wind.acc.first.getD 0) + s.wind.acc.offsetSum.tdiv (Int.ofNat s.wind.acc.count))
                  % 360).toNat)
      ∧ (s.wind.acc.count < 10 →
          (∀ q w d, usableWind s q w d →
              (∀ q' w' d', usableWind s q' w' d' → q' = q ∨ d < d' ∨ (d = d' ∧ q.node < q'.node)) →
            t.wind.record.source = .peer ∧ t.wind.record.node = some q.node ∧ t.wind.record.lastFresh = some s.sec
              ∧ t.wind.record.speed = w.speed ∧ t.wind.record.gust = w.speed ∧ t.wind.record.bearing = w.bearing)
          ∧ ((∀ q w d, ¬ usableWind s q w d) →
              t.wind.record.lastFresh = s.wind.record.lastFresh ∧ t.wind.record.bearing = s.wind.record.bearing
                ∧ ((∃ fresh, s.wind.record.lastFresh = some fresh ∧ s.sec - fresh ≤ 600) →
                    t.wind.record.source = .held ∧ t.wind.record.speed = s.wind.record.speed
                      ∧ t.wind.record.gust = s.wind.record.gust ∧ t.wind.record.node = s.wind.record.node)
                ∧ ((∀ fresh, s.wind.record.lastFresh = some fresh → 600 < s.sec - fresh) →
                    t.wind.record.source = .fallback ∧ t.wind.record.speed = s.cfg.fallbackWind
                      ∧ t.wind.record.gust = s.cfg.fallbackWind ∧ t.wind.record.node = none)))
      ∧ (∀ ch, s.cannon.chain = some ch → s.cutOut = false → t.cutOut = true → s.cannon.state = .spraying →
          endedBy .windCut ch s t ∧ t.cannon.valveOpen = false ∧ t.claim.own.state = .none
            ∧ (ch.valveOpened = true → t.cannon.state = .draining))
      ∧ (s.cutOut = false → t.cutOut = true → s.cannon.state = .claiming →
          s.claim.own.state = .settling ∨ s.claim.own.state = .deferred →
          t.claim.own.state = .none ∧ t.cannon = s.cannon ∧ t.queue = s.queue)
      ∧ (∀ ch, s.cannon.chain = some ch → s.cutOut = true → t.cutOut = false → s.cannon.state = .claiming →
          s.station.mode = .run → s.claim.own.state = .none →
          t.claim.own.state = .settling ∧ t.claim.own.cls = some ch.cls ∧ t.claim.own.basis = some ch.basis
            ∧ t.claim.own.serial = some s.claim.own.nextSerial
            ∧ t.claim.own.settle = .running (s.now + s.cfg.settleTime * 1000) ∧ t.cannon = s.cannon
            ∧ t.queue = s.queue)
      ∧ (settled s → t.cutOut = s.cutOut ∨ (s.cannon.state ≠ .spraying ∧ s.cannon.state ≠ .claiming) →
          onlyChanges [.wind, .alarms] s t ∧ flagsExcept [.windLost] s t
            ∧ t.alarms.flags.windLost =
                s.alarms.flags.windLost.follow s.sec (decide (t.wind.record.source = .fallback)))

/-- SLOT_END and FORECAST_STALE_EXPIRY (R15, R16): the front slot leaves at its end; the table turns stale 180 minutes
after the stale start; nothing else changes but the FORECAST_STALE flag and the relay. -/
def Obligations.ForecastMoments : Prop :=
  ∀ s : State, settled s → s.station.mode ≠ .start →
    (∀ k rest, s.forecast.slots = k :: rest → k.finish ≤ s.minute →
        exec .slotEnd s = .next (s.setForecast { s.forecast with slots := rest }))
      ∧ (∀ start, s.forecast.staleStart = some start → start + 180 ≤ s.minute → s.forecast.stale = false →
          ∃ t, exec .forecastStaleExpiry s = .next t ∧ t.forecast = { s.forecast with stale := true }
            ∧ onlyChanges [.forecast, .alarms] s t ∧ flagsExcept [.forecastStale] s t
            ∧ t.alarms.flags.forecastStale = s.alarms.flags.forecastStale.follow s.sec true)

/-- FORECAST_FRAME (R12 to R14): the table is replaced whole by a frame of the forecast node that passes the checks and
is newer, or finds the table empty; otherwise the table is not changed. -/
def Obligations.ForecastReplaced : Prop :=
  ∀ (n : Nat) (p : List Byte) (s : State), s.operational = true → frameWellFormed .forecast n p = true →
    n ≠ s.station.node → (∀ old, s.forecast.issue = some old → old < 256) →
    ∃ t, exec (.forecastFrame n p) s = .next t
      ∧ (let m := decodeForecast p
         let passes := n = s.cfg.forecastNode ∧ 1 ≤ m.slots.length ∧ m.slots.length ≤ 12 ∧ m.lead ≤ 29
           ∧ (∀ k ∈ m.slots, k.bearing ≤ 359)
           ∧ (s.forecast.slots = []
              ∨ ∀ old, s.forecast.issue = some old →
                  1 ≤ (m.issue + 256 - old) % 256 ∧ (m.issue + 256 - old) % 256 ≤ 127)
         (passes →
            t.forecast.issue = some m.issue ∧ t.forecast.arrival = some s.minute
              ∧ t.forecast.staleStart = some s.minute ∧ t.forecast.stale = false
              ∧ t.forecast.slots.length = m.slots.length
              ∧ ∀ (i : Nat) (c : CarriedSlot), m.slots[i]? = some c →
                  t.forecast.slots[i]? =
                    some
                      ({ start := s.minute + m.lead + 30 * i, finish := s.minute + m.lead + 30 * i + 30
                         mean := min 400 c.mean, gust := min 400 c.gust, bearing := c.bearing
                         rain := c.rain } : Slot))
           ∧ (¬ passes → t.forecast = s.forecast))
      ∧ onlyChanges [.forecast, .peers, .queue, .cannon, .claim, .line, .face, .alarms, .free] s t

/-! ### Faces and look-ahead -/

/-- Step 7 of an evaluation (R31): the class from the index and the class before. -/
def Obligations.ClassStep : Prop :=
  ∀ (c : Configuration) (i : Nat),
    nextClass c i .quiet = (if c.tAct ≤ i then FaceClass.act else if c.tWatch ≤ i then .watch else .quiet)
      ∧ nextClass c i .watch =
          (if c.tAct ≤ i then FaceClass.act else if i < c.tWatch - c.hyst then .quiet else .watch)
      ∧ nextClass c i .act = (if i < c.tAct - c.hyst then FaceClass.watch else .act)

/-- EVALUATION (R24 to R36, R40, R114): what steps 1 to 7 leave in every face record; the runoff of all faces credited to
today's record; what step 8 makes of each face's SUPPRESS, where no selection can be tried and the queue has room; the
look-ahead run that follows, on each face record in ascending order where the Forecast Table holds a slot, while without
one every summary is left as it stood (R40); and what an evaluation can change. That the timer reloads from the moment it was due (log 22), and that last sizing holds no
volume after a step 8 that sizes none (log 40), are the model's choices. -/
def Obligations.EvaluationOfAFace : Prop :=
  ∀ (due : Nat) (s : State), s.station.mode ≠ .start → s.face.timer = .running due → due ≤ s.now →
    ∃ t, exec .evaluation s = .next t ∧ t.face.timer = .running (due + 60000)
      ∧ onlyChanges [.face, .look, .queue, .cannon, .claim, .account, .line, .alarms, .free] s t
      ∧ (∀ f, s.face.records.get f = none → t.face.records.get f = none)
      ∧ t.account = { s.account with today := { s.account.today with runoff := t.account.today.runoff } }
      ∧ ((∀ f, s.face.records.get f = none) → t.account = s.account)
      ∧ ((∃ f, (s.face.records.get f).isSome = true) →
          t.account.today.runoff =
            min 4294967295
              (s.account.today.runoff
                + (s.face.records.toList.map fun r => (r.map (runoffFormed s)).getD 0).sum))
      ∧ (s.forecast.slots = [] → t.look = s.look)
      ∧ (∀ f, s.face.records.get f = none → t.look.get f = s.look.get f)
      ∧ (s.forecast.slots ≠ [] → s.cfg.vMin ≤ s.cfg.vMaxDose → ∀ f r', t.face.records.get f = some r' →
          ∃ y, t.look.get f = some y ∧ summaryOf s r' y)
      ∧ (∃ u : State, u.look = s.look ∧ u.forecast = s.forecast ∧ u.station = s.station ∧ u.now = s.now
          ∧ (∀ f r', t.face.records.get f = some r' →
              ∃ prewet, u.face.records.get f = some { r' with lastPrewet := prewet })
          ∧ (let v := if s.forecast.slots = [] then u else [0, 1, 2, 3].foldl lookAheadFace u
             t.look = v.look ∧ t.queue = v.queue ∧ t.cannon = v.cannon ∧ t.claim = v.claim))
      ∧ ∀ f r, s.face.records.get f = some r → ∃ r', t.face.records.get f = some r'
          ∧ (s.operational = true → s.queue.request = false → queueInv s.queue → s.queue.entries.length ≤ 4 →
              0 < s.cfg.vMin → s.cfg.vMin ≤ s.cfg.vMaxDose →
              sizedBy s t f (suppressLitres s.cfg r.desc ((r'.lastEval.map LastEval.weff).getD 0) r'.m) r')
          ∧ (let w := s.wind.record.speed
             let e := if s.wind.record.source = .fallback then 16
               else exposure (angleDiff s.wind.record.bearing r.desc.normal)
             let sum := r.rd + r.desc.kd * (w + 20) * e
             let dried := r.m - sum / 8192
             let total := r.rs + r.pendingSpray * r.desc.kw
             let rain := r.pendingRain * r.desc.kw / 5
             let filled := dried + rain + total / r.desc.area
             let weff := w * e / 16
             let wt := min 400 (r.desc.wt0 + r'.m * r.desc.km / 100)
             let active := (r.desc.contact && s.pins.contacts.get f)
               || (workingMachines s.sec s.peers.entries).any (machineNear r.desc)
             r'.desc = r.desc
               ∧ r'.m = min r.desc.msat filled
               ∧ r'.rd = (if sum / 8192 ≤ r.m then sum % 8192 else 0)
               ∧ r'.rs = total % r.desc.area
               ∧ r'.pendingSpray = 0 ∧ r'.pendingRain = 0 ∧ r'.sprayed = r.sprayed
               ∧ r'.runoff = min 4294967295 (r.runoff + runoffFormed s r)
               ∧ r'.estimated = (r.estimated && decide (rain = 0) && decide (total / r.desc.area = 0))
               ∧ r'.active = active
               ∧ r'.index = min 255 ((weff - wt) * (weff - wt) / 64 + if active then r.desc.ka else 0)
               ∧ r'.cls = nextClass s.cfg r'.index r.cls
               ∧ r'.lastEval = some { time := s.sec, e := e, weff := weff, wt := wt })

/-- A look-ahead run on a face (R41 to R49, R51, R53): the predicted slot is the first of the window whose index reaches
T_act, with the slots before it projected; the volume meets its requirement, and a demand of that volume and deadline is
offered unless a chain runs for the face; the summary is in range, and a deadline is not before the run. That a NO_SLOT
summary holds the present moisture is the model's choice (log 37). -/
def Obligations.LookAheadInRange : Prop :=
  ∀ (f : FaceId) (r : FaceRecord) (s : State), s.face.records.get f = some r → r.m ≤ r.desc.msat →
    s.cfg.vMin ≤ s.cfg.vMaxDose →
    ∃ y, (lookAheadFace s f).look.get f = some y ∧ summaryOf s r y
      ∧ (∀ g, g ≠ f → (lookAheadFace s f).look.get g = s.look.get g)
      ∧ y.moisture ≤ r.desc.msat
      ∧ (∀ i, y.index = some i → s.cfg.tAct ≤ i ∧ i ≤ 255)
      ∧ (∀ v, y.volume = some v → s.cfg.vMin ≤ v ∧ v ≤ s.cfg.vMaxDose)
      ∧ (∀ d, y.deadline = some d → s.sec ≤ d ∧ ∃ k ∈ s.forecast.slots, y.slot = some k.start
            ∧ d = (if s.minute < k.start then k.start * 60 else s.sec))
      ∧ (y.volume = none → (lookAheadFace s f).queue = s.queue)
      ∧ ∀ v, y.volume = some v →
          ((∃ e ∈ s.queue.entries, e.face = f ∧ e.running = true) →
              y.outcome = .skipped ∧ (lookAheadFace s f).queue = s.queue)
            ∧ ((∀ e ∈ s.queue.entries, e.face = f → e.running = false) →
                let o : Offer := { face := f, cls := .prewet, volume := v, origin := .lookahead, deadline := y.deadline }
                (lookAheadFace s f).queue = (offerDemand o s).1.queue
                  ∧ y.outcome =
                      match (admitOffer o s).2 with
                      | .merged => .merged
                      | .added => .added
                      | _ => .refused)

/-! ### The Spray Queue -/

/-- What the queue makes of an offer (R55 to R59, R87): refused, merged, added, or added in place of the latest waiting
entry of the lowest class; and a KNOCKDOWN that is taken stops the running chain PREEMPTED where that is of a lower class
and for another face, unless its own face is held; any other offer leaves the chain running. -/
def Obligations.OfferIsAdmitted : Prop :=
  ∀ (o : Offer) (s : State), queueInv s.queue →
    let es := s.queue.entries
    let taken := s.operational = true ∧ (s.face.records.get o.face).isSome = true ∧ o.volume ≠ 0
    let new : Entry :=
      { face := o.face, cls := o.cls, requested := min 65535 o.volume, delivered := 0, origin := o.origin
        enqueue := s.sec, deadline := o.deadline, reached := false, attempts := 0, running := false }
    (¬ taken → admitOffer o s = (s, .invalid))
      ∧ (taken → ∀ e ∈ es, e.face = o.face → e.cls = o.cls →
          admitOffer o s =
            (s.setQueue
              { s.queue with
                entries := es.map fun x =>
                  if x = e then
                    { e with
                      requested := min 65535 (max e.requested (e.delivered + o.volume))
                      deadline := earlier e.deadline o.deadline }
                  else x }, .merged))
      ∧ (taken → (∀ e ∈ es, ¬ (e.face = o.face ∧ e.cls = o.cls)) →
          (es.length < 8 → admitOffer o s = (s.setQueue { s.queue with entries := es ++ [new] }, .added))
            ∧ (∀ e pre post, es.length = 8 → es = pre ++ e :: post → (∀ x ∈ es, e.cls.rank ≤ x.cls.rank) →
                e.running = false → (∀ x ∈ post, x.cls = e.cls → x.running = true) → e.cls.rank < o.cls.rank →
                (admitOffer o s).2 = .added ∧ (admitOffer o s).1.queue.entries = pre ++ post ++ [new]
                  ∧ (admitOffer o s).1.queue.lastRemoval =
                      some
                        { face := e.face, cls := e.cls, origin := e.origin, requested := e.requested
                          delivered := e.delivered, deadline := e.deadline, time := s.sec, reason := .evicted }
                  ∧ onlyChanges [.queue, .face, .alarms] s (admitOffer o s).1)
            ∧ (es.length = 8 →
                (∀ e ∈ es, (∀ x ∈ es, e.cls.rank ≤ x.cls.rank) → e.running = true ∨ o.cls.rank ≤ e.cls.rank) →
                admitOffer o s = (s, .full)))
      ∧ (∀ ch, s.cannon.chain = some ch → (admitOffer o s).2 = .merged ∨ (admitOffer o s).2 = .added →
          let t := (offerDemand o s).1
          let preempts := o.cls = .knockdown ∧ (s.queue.holds.get o.face).isRunning = false
          (preempts → (∃ e ∈ es, e.running = true) →
              (∀ e ∈ es, e.running = true → e.face ≠ o.face ∧ e.cls ≠ .knockdown) →
              endedBy .preempted ch s t ∧ t.cannon.valveOpen = false)
            ∧ (¬ preempts ∨ (∀ e ∈ es, e.running = true → e.face = o.face ∨ e.cls = .knockdown) →
                t.cannon = s.cannon))

/-- A selection takes a candidate of the highest class present, the first of its class in the order of the service mode
(FIXED: from the first face up, wrapping from 3 to 0; ROTATE: the rotation order), and finds none only where there is no
candidate (R68, R69). -/
def Obligations.SelectionIsBest : Prop :=
  ∀ s : State, queueInv s.queue →
    let order : List FaceId :=
      match s.cfg.mode with
      | .fixed => [0, 1, 2, 3].map fun i => s.cfg.firstFace + i
      | .rotate => s.queue.rotation
    (∀ e, s.choose = some e →
        e ∈ s.queue.entries ∧ e.running = false ∧ s.gate.allows e.cls = true
          ∧ (s.queue.holds.get e.face).isRunning = false
          ∧ ∀ x ∈ s.queue.entries, x.running = false → s.gate.allows x.cls = true →
              (s.queue.holds.get x.face).isRunning = false →
              x.cls.rank ≤ e.cls.rank
                ∧ (x.cls = e.cls → order.idxOf e.face ≤ order.idxOf x.face))
      ∧ (s.choose = none →
          ∀ x ∈ s.queue.entries, x.running = true ∨ s.gate.allows x.cls = false
            ∨ (s.queue.holds.get x.face).isRunning = true)

/-- DEADLINE (R64, R65, R70): every PREWET whose deadline has come leaves, MISSED, if it is not running, and is marked if
it is; the face's last prewet result, the last removal record and one PREWET_MISSED event for each follow, in queue order;
nothing else changes but the relay. FAULT_HOLD_EXPIRY (R66, R67): the hold of the face ends, and no other; an open request
is tried again, and where none can be nothing else changes. -/
def Obligations.QueueMoments : Prop :=
  ∀ s : State, settled s → s.station.mode ≠ .start →
    (queueInv s.queue → ∃ t, exec .deadline s = .next t
      ∧ (let reached := fun e : Entry =>
           decide (e.cls = .prewet) && !e.reached && e.deadline.any fun d => decide (d ≤ s.sec)
         let missed := s.queue.entries.filter fun e => reached e && !e.running
         t.queue =
             { s.queue with
               entries :=
                 s.queue.entries.filterMap fun e =>
                   if reached e then if e.running then some { e with reached := true } else none else some e
               lastRemoval :=
                 match missed.getLast? with
                 | some e =>
                   some
                     { face := e.face, cls := e.cls, origin := e.origin, requested := e.requested
                       delivered := e.delivered, deadline := e.deadline, time := s.sec, reason := .deadline }
                 | none => s.queue.lastRemoval }
           ∧ t.face.timer = s.face.timer
           ∧ (∀ f, t.face.records.get f =
               match missed.find? fun e => decide (e.face = f) with
               | some e =>
                 (s.face.records.get f).map fun r => { r with lastPrewet := some (.missed, e.deadline.getD 0) }
               | none => s.face.records.get f)
           ∧ t.alarms.flags.prewetMissed =
               missed.foldl (fun g _ => g.event s.sec) s.alarms.flags.prewetMissed
           ∧ (missed = [] → t.alarms = s.alarms))
      ∧ onlyChanges [.queue, .face, .alarms] s t ∧ flagsExcept [.prewetMissed] s t)
      ∧ ∀ (f : FaceId) (due : Nat), s.queue.holds.get f = .running due → due ≤ s.now →
          ∃ t, exec (.faultHoldExpiry f) s = .next t
            ∧ (∀ g, t.queue.holds.get g = if g = f then .stopped else s.queue.holds.get g)
            ∧ (let u := s.setQueue { s.queue with holds := s.queue.holds.set f .stopped }
               s.station.mode = .run → requestTried u t)
            ∧ (s.queue.request = false ∨ s.station.mode ≠ .run → onlyChanges [.queue] s t
                ∧ t.queue.entries = s.queue.entries ∧ t.queue.request = s.queue.request
                ∧ t.queue.rotation = s.queue.rotation ∧ t.queue.lastRemoval = s.queue.lastRemoval)
            ∧ onlyChanges [.queue, .cannon, .claim, .line, .alarms, .free] s t ∧ flagsExcept [] s t

/-! ### The cannon -/

/-- ENCODER_REPORT (R76, R77, R80): the bearing is kept; on bearing the slew ends in CLAIMING and the claim is asked; the
sweep turns at the ends of the arc. -/
def Obligations.EncoderReports : Prop :=
  ∀ (b : Fin 360) (s : State), settled s → s.station.mode ≠ .start →
    let kept := s.setCannon { s.cannon with bearing := some b.val }
    (s.cannon.chain = none ∨ (s.cannon.state ≠ .slewing ∧ s.cannon.state ≠ .spraying) →
        exec (.encoderReport b) s = .next kept)
      ∧ (∀ ch, s.cannon.chain = some ch → s.cannon.state = .slewing → b.val ≠ (s.descOf ch.face).arcStart →
          exec (.encoderReport b) s = .next kept)
      ∧ (∀ ch, s.cannon.chain = some ch → s.cannon.state = .slewing → b.val = (s.descOf ch.face).arcStart →
          ∃ t, exec (.encoderReport b) s = .next t
            ∧ t.cannon =
                { s.cannon with
                  state := .claiming, bearing := some b.val, valveOpen := false, drive := none, onTime := none
                  period := .stopped, on := .stopped, slew := .stopped, noFlow := .stopped }
            ∧ (s.cutOut = false → s.station.mode = .run → s.claim.own.state = .none →
                t.claim.own.state = .settling ∧ t.claim.own.cls = some ch.cls ∧ t.claim.own.basis = some ch.basis
                  ∧ t.claim.own.serial = some s.claim.own.nextSerial
                  ∧ t.claim.own.nextSerial = (s.claim.own.nextSerial + 1) % 16
                  ∧ t.claim.own.settle = .running (s.now + s.cfg.settleTime * 1000))
            ∧ (s.cutOut = true → t.claim = s.claim)
            ∧ onlyChanges [.cannon, .claim, .line] s t)
      ∧ (∀ ch dir, s.cannon.chain = some ch → s.cannon.state = .spraying → s.cannon.drive = some dir →
          let d := s.descOf ch.face
          let place := clockwiseFrom s.cfg.acwStop
          let turns := d.arcStart ≠ d.arcEnd
            ∧ ((dir = .clockwise ∧ place d.arcEnd ≤ place b.val ∧ place b.val ≤ place s.cfg.cwStop)
              ∨ (dir = .anticlockwise ∧ place b.val ≤ place d.arcStart))
          (¬ turns → exec (.encoderReport b) s = .next kept)
            ∧ (turns →
                exec (.encoderReport b) s =
                  .next (s.setCannon
                    { s.cannon with
                      bearing := some b.val, drive := some (otherWay dir)
                      slew := .running (s.now + s.cfg.slewTimeout * 1000)
                      chain := some { ch with sweep := otherWay dir } })))

/-- ON_TIMER_EXPIRY and PERIOD_TIMER_EXPIRY (R78, R85): the valve closes and opens again; the no-flow watch counts only
while it is open. STANDBY_EXPIRY (R73): a PARKED cannon with its request open enters STANDBY, its branch closed. That both timers restart from the moment of the command, and that a watch whose count has come to its end does not wait, are the model's choices (log 22, log 35). -/
def Obligations.CannonTimers : Prop :=
  ∀ (due : Nat) (s : State), settled s → s.station.mode ≠ .start → due ≤ s.now →
    (s.cannon.on = .running due →
        exec .onTimerExpiry s =
          .next (s.setCannon
            { s.cannon with
              valveOpen := false, on := .stopped
              noFlow := match s.cannon.noFlow with
                | .running d => if d ≤ s.now then .running d else .paused (d - s.now)
                | w => w }))
      ∧ (∀ onTime, s.cannon.period = .running due → s.cannon.state = .spraying → s.cannon.onTime = some onTime →
          exec .periodTimerExpiry s =
            .next (s.setCannon
              { s.cannon with
                valveOpen := true, openedAt := s.now, onTime := some onTime
                period := .running (s.now + s.cfg.period * 1000)
                on := if onTime = s.cfg.period then .stopped else .running (s.now + onTime * 1000)
                noFlow := match s.cannon.noFlow with
                  | .paused left => .running (s.now + left)
                  | w => w }))
      ∧ (s.cannon.standby = .running due → s.cannon.state = .parked → s.queue.request = true →
          exec .standbyExpiry s =
            .next (s.setCannon
              { s.cannon with state := .standby, branchOpen := false, primed := false, standby := .stopped }))

/-- PRIMING_EXPIRY and DRAIN_EXPIRY (R75, R91, R168, R73): without a chain the cannon parks, or locks at the end of a
drain that a LOCK runs toward; where no request was open the entry into PARKED opens one, and in RUN the best candidate is
selected; with a chain, it begins to slew, or claims at once where the cannon stands on bearing. -/
def Obligations.PrimingAndDrainEnd : Prop :=
  ∀ (due : Nat) (s : State), settled s → s.station.mode ≠ .start → due ≤ s.now → s.cannon.branchOpen = true →
    (∀ c, (c = Instr.primingExpiry ∧ s.cannon.state = .priming ∧ s.cannon.priming = .running due)
        ∨ (c = Instr.drainExpiry ∧ s.cannon.state = .draining ∧ s.cannon.drain = .running due
            ∧ s.lockout.locks = []) →
      (∀ ch, s.cannon.chain = some ch →
          ∃ t, exec c s = .next t ∧ t.cannon.valveOpen = (if s.cannon.bearing = some (s.descOf ch.face).arcStart
              then false else s.cannon.valveOpen)
            ∧ t.cannon.state = (if s.cannon.bearing = some (s.descOf ch.face).arcStart
                then CannonState.claiming else .slewing)
            ∧ (s.cannon.bearing ≠ some (s.descOf ch.face).arcStart →
                t.cannon.slew = .running (s.now + s.cfg.slewTimeout * 1000) ∧ t.cannon.drive.isSome = true
                  ∧ t.claim = s.claim)
            ∧ t.cannon.primed = (s.cannon.primed || decide (c = Instr.primingExpiry))
            ∧ t.cannon.chain = some { ch with waiting := false }
            ∧ onlyChanges [.cannon, .claim, .line, .free] s t)
        ∧ (s.cannon.chain = none → s.queue.request = true →
            ∃ t, exec c s = .next t ∧ t.cannon.state = .parked
              ∧ t.cannon.primed = (s.cannon.primed || decide (c = Instr.primingExpiry))
              ∧ t.cannon.standby =
                  (if s.operational = true ∧ 0 < s.cfg.standbyCount
                    then .running (s.now + s.cfg.standbyCount * 60000) else .stopped)
              ∧ onlyChanges [.cannon, .line] s t)
        ∧ (s.cannon.chain = none → s.queue.request = false → s.lockout.locks = [] →
            ∃ t, exec c s = .next t
              ∧ (s.station.mode ≠ .run ∨ s.choose = none →
                  t.cannon.state = .parked ∧ t.queue = { s.queue with request := true } ∧ t.cannon.chain = none)
              ∧ (∀ e, s.choose = some e → s.station.mode = .run →
                  chainFormed e false s t
                    ∧ (s.cannon.primed = false → c = Instr.drainExpiry → t.cannon.state = .priming)
                    ∧ (s.cannon.primed = true ∨ c = Instr.primingExpiry →
                        t.cannon.state = .slewing ∨ t.cannon.state = .claiming))
              ∧ onlyChanges [.queue, .cannon, .claim, .line, .free] s t))
      ∧ (s.cannon.state = .draining → s.cannon.drain = .running due → s.lockout.locks ≠ [] →
          ∃ t, exec .drainExpiry s = .next t ∧ t.cannon.state = .locked ∧ t.queue.request = false
            ∧ t.cannon.chain = s.cannon.chain ∧ onlyChanges [.queue, .cannon, .line] s t)

/-- SLEW_TIMEOUT (R76, R80, R83, R92): the chain ends DRIVE_FAULT and the cannon is in FAULT, its request withdrawn, its
claim NONE and CANNON_FAULT true. -/
def Obligations.SlewTimeoutFaults : Prop :=
  ∀ (due : Nat) (ch : Chain) (s : State), s.station.mode ≠ .start → s.cannon.slew = .running due → due ≤ s.now →
    s.cannon.chain = some ch →
    ∃ t, exec .slewTimeout s = .next t ∧ endedBy .driveFault ch s t
      ∧ t.cannon.state = .fault ∧ t.cannon.chain = none ∧ t.cannon.valveOpen = false ∧ t.cannon.drive = none
      ∧ t.queue.request = false ∧ t.claim.own.state = .none ∧ t.alarms.flags.cannonFault.cond = true
      ∧ (∀ e ∈ t.queue.entries, e.face = ch.face → e.cls = ch.cls → e.running = false)
      ∧ onlyChanges [.queue, .cannon, .claim, .line, .face, .alarms, .free] s t

/-- NO_FLOW_EXPIRY (R85, R61, R66): the chain ends NO_FLOW and the count stands at 1; the second in a row ends in FAULT.
The entry has one attempt more, and at the third it leaves and its face is held. -/
def Obligations.NoFlowStops : Prop :=
  ∀ (due : Nat) (ch : Chain) (s : State), s.station.mode ≠ .start → s.cannon.noFlow = .running due → due ≤ s.now →
    s.cannon.chain = some ch → queueInv s.queue → s.cannon.noFlowCount ≤ 1 →
    ∃ t, exec .noFlowExpiry s = .next t ∧ endedBy .noFlow ch s t ∧ t.cannon.noFlowCount = 1
      ∧ t.cannon.valveOpen = false
      ∧ (s.cannon.noFlowCount = 1 → t.cannon.state = .fault ∧ t.queue.request = false ∧ t.claim.own.state = .none)
      ∧ (s.cannon.noFlowCount = 0 → t.cannon.state ≠ .fault)
      ∧ attemptCounted ch s t
      ∧ onlyChanges [.queue, .cannon, .claim, .line, .face, .alarms, .free] s t

/-- FLOW_PULSE (R81, R22, R110): in LISTEN, RUN and MUTE every litre is charged to the charge face's spray litres and to
exactly one of today's reuse and fresh litres; otherwise it is discarded. -/
def Obligations.LitreIsCharged : Prop :=
  ∀ s : State, settled s →
    (s.operational = false → exec .flowPulse s = .next s)
      ∧ (s.operational = true → ∃ t, exec .flowPulse s = .next t
          ∧ (s.claim.supply.source = .reuse →
              t.account =
                { s.account with today := { s.account.today with reuse := min 4294967295 (s.account.today.reuse + 1) } })
          ∧ (s.claim.supply.source = .fresh →
              let spent := s.account.today.allowance ≤ s.account.today.fresh
              let knocks := ∃ ch, s.cannon.chain = some ch ∧ ch.cls = .knockdown
              t.account.today.fresh = min 4294967295 (s.account.today.fresh + 1)
                ∧ (spent ∨ knocks →
                    t.account.today.knockdown = min 4294967295 (s.account.today.knockdown + 1))
                ∧ (¬ (spent ∨ knocks) → t.account.today.knockdown = s.account.today.knockdown)
                ∧ t.account.today.reuse = s.account.today.reuse
                ∧ t.account.today.allowance = s.account.today.allowance
                ∧ t.account.today.runoff = s.account.today.runoff ∧ t.account.today.day = s.account.today.day
                ∧ t.account.yesterday = s.account.yesterday ∧ t.account.dayStart = s.account.dayStart)
          ∧ (∀ f r, s.face.records.get f = some r → ∃ prewet,
              t.face.records.get f =
                some
                  (if s.cannon.chargeFace = some f then
                    { r with
                      pendingSpray := min 65535 (r.pendingSpray + 1), sprayed := min 4294967295 (r.sprayed + 1)
                      lastPrewet := prewet }
                  else { r with lastPrewet := prewet }))
          ∧ onlyChanges [.face, .account, .queue, .cannon, .claim, .line, .alarms, .free] s t)

/-- A litre of the chain (R60, R81, R82, R97): while the class gating stands, the litre counts in the segment, in the
chain and in the running entry; the litre that fills the segment ends it COMPLETE, with the next segment claiming afresh
or the chain at its end; a sweep leg's timer waits meanwhile (R80; its reading: log 41). The litre that exhausts the fresh ration raises FRESH_EXHAUSTED and stops the chain SOURCE,
unless it is a KNOCKDOWN chain. -/
def Obligations.LitreOfTheChain : Prop :=
  ∀ (ch : Chain) (s : State), s.operational = true → s.cannon.chain = some ch → queueInv s.queue →
    (s.cannon.state = .slewing ∨ s.cannon.state = .claiming ∨ s.cannon.state = .spraying) →
    s.account.today.allowance ≤ 4294967295 →
    let stands := s.claim.supply.source = .reuse ∨ s.account.today.fresh + 1 < s.account.today.allowance
      ∨ s.account.today.allowance ≤ s.account.today.fresh
    let charged := { ch with segment := ch.segment + 1, litres := ch.litres + 1 }
    ∃ t, exec .flowPulse s = .next t
      ∧ (¬ stands → t.alarms.flags.freshExhausted.cond = true)
      ∧ (¬ stands → ch.segment + 1 < ch.volume → ch.cls ≠ .knockdown →
          endedBy .source charged s t ∧ t.cannon.valveOpen = false)
      ∧ (stands ∨ ch.cls = .knockdown → ch.segment + 1 < ch.volume →
          t.cannon.state = s.cannon.state ∧ t.claim = s.claim
            ∧ t.cannon.chain = some charged
            ∧ t.queue.entries =
                s.queue.entries.filterMap fun e =>
                  if e.face = ch.face ∧ e.cls = ch.cls ∧ e.running = true then
                    if e.requested ≤ e.delivered + 1 then none else some { e with delivered := e.delivered + 1 }
                  else some e)
      ∧ (stands → ch.volume ≤ ch.segment + 1 → ch.index < ch.planned →
          t.cannon.state = .claiming ∧ t.cannon.valveOpen = false ∧ t.cannon.drive = none
            ∧ t.cannon.noFlowCount = 0 ∧ t.cannon.log = s.cannon.log
            ∧ t.cannon.slew =
                (if s.cannon.state = .slewing then .stopped
                 else match s.cannon.slew with
                   | .running d => .paused (d - s.now)
                   | w => w)
            ∧ t.cannon.chain =
                some
                  { ch with
                    segment := 0, litres := ch.litres + 1, index := ch.index + 1, completed := ch.completed + 1 }
            ∧ (t.claim.own.state = .none ∨ t.claim.own.state = .settling))
      ∧ (stands → ch.volume ≤ ch.segment + 1 → ch.planned ≤ ch.index →
          t.cannon.noFlowCount = 0
            ∧ endedBy .complete { ch with litres := ch.litres + 1, completed := ch.completed + 1 } s t)

/-! ### The water claim and the account -/

/-- A claim that is granted or throttled fits the header (R102, R104): with the live claims ranked above it, it does not
pass the capacity in use, and its on-time lies between T_on_min and T_on; a room below q_min holds no flow. That a
ceiling leaves the claim THROTTLED is the model's choice (log 15). -/
def Obligations.GrantFitsHeader : Prop :=
  ∀ s : State, 0 < s.cfg.nozzle → 0 < s.cfg.period → s.cfg.tOnMin ≤ s.cfg.tOn →
    (∀ top, s.claim.own.ceiling = some top → s.cfg.tOnMin ≤ top) →
    (∀ onTime, s.decision.tHeld = some onTime →
      s.decision.qg + s.flowAbove ≤ s.capacityInUse ∧ s.decision.qg = s.cfg.nozzle * onTime / s.cfg.period
        ∧ s.cfg.tOnMin ≤ onTime ∧ onTime ≤ s.cfg.tOn
        ∧ (∀ top, s.claim.own.ceiling = some top → onTime ≤ top ∧ s.decision.state = .throttled)
        ∧ (s.claim.own.ceiling = none →
            s.decision.state = (if onTime = s.cfg.tOn ∧ Int.ofNat (s.cfg.nozzle * s.cfg.tOn / s.cfg.period) ≤ s.room
              then .granted else .throttled)))
      ∧ (s.decision.tHeld = none ↔ s.room < Int.ofNat (s.cfg.nozzle * s.cfg.tOnMin / s.cfg.period))

/-- SETTLE_EXPIRY (R102, R77, R78, R80): the claim is granted, throttled or deferred by the room, and a grant or a throttle
takes the cannon into SPRAYING with the valve open and the sweep's leg timed, a leg that waited running on (the model's
reading, log 41). -/
def Obligations.SettleDecides : Prop :=
  ∀ (due : Nat) (ch : Chain) (s : State), settled s → s.station.mode = .run → s.claim.own.settle = .running due →
    due ≤ s.now → s.claim.own.state = .settling → s.claim.own.ceiling = none → s.cannon.state = .claiming →
    s.cannon.chain = some ch →
    let q := s.cfg.nozzle * s.cfg.tOn / s.cfg.period
    let qMin := s.cfg.nozzle * s.cfg.tOnMin / s.cfg.period
    ∃ t, exec .settleExpiry s = .next t ∧ t.claim.own.settle = .stopped
      ∧ t.claim.own.serial = s.claim.own.serial ∧ t.claim.own.cls = s.claim.own.cls
      ∧ t.claim.own.basis = s.claim.own.basis
      ∧ (Int.ofNat q ≤ s.room →
          t.claim.own.state = .granted ∧ t.claim.own.qg = q ∧ t.claim.own.tHeld = some s.cfg.tOn)
      ∧ (s.room < Int.ofNat q → Int.ofNat qMin ≤ s.room →
          let onTime := max s.cfg.tOnMin (s.room.toNat * s.cfg.period / s.cfg.nozzle)
          t.claim.own.state = .throttled ∧ t.claim.own.tHeld = some onTime
            ∧ t.claim.own.qg = s.cfg.nozzle * onTime / s.cfg.period)
      ∧ (s.room < Int.ofNat q → s.room < Int.ofNat qMin →
          t.claim.own.state = .deferred ∧ t.claim.own.tHeld = none ∧ t.claim.own.qg = 0 ∧ t.cannon = s.cannon)
      ∧ (∀ onTime, t.claim.own.tHeld = some onTime →
          t.cannon.state = .spraying ∧ t.cannon.valveOpen = true ∧ t.cannon.onTime = some onTime
            ∧ t.cannon.chain = some { ch with valveOpened := true }
            ∧ t.cannon.period = .running (s.now + s.cfg.period * 1000)
            ∧ t.cannon.on = (if onTime = s.cfg.period then .stopped else .running (s.now + onTime * 1000))
            ∧ t.cannon.noFlow = .running (s.now + s.cfg.noFlowTime * 1000)
            ∧ t.cannon.drive =
                (if (s.descOf ch.face).arcStart = (s.descOf ch.face).arcEnd then none else some ch.sweep)
            ∧ t.cannon.slew =
                (if (s.descOf ch.face).arcStart = (s.descOf ch.face).arcEnd then .stopped
                 else match s.cannon.slew with
                   | .paused left => .running (s.now + left)
                   | _ => .running (s.now + s.cfg.slewTimeout * 1000))
            ∧ t.claim.staged = false)
      ∧ onlyChanges [.cannon, .claim, .line] s t

/-- An offer to the transmit queue (R149, R154, R155): refused outside RUN; taken in place of the waiting STATUS, or of the
waiting CLAIM of its serial, with the place, the queue time and the attempts kept (the attempts of a STATUS: model's
choice, log 24; the first where two wait: log 32); taken as a new place where there is room; and where there is none,
taken in place of a waiting STATUS, which is due then, if it is URGENT, and refused otherwise. CLAIM_REFRESH (R106): the
claim is announced again, the refresh restarts at 30 s, and the queue takes the CLAIM as it takes any offer. -/
def Obligations.ClaimIsRefreshed : Prop :=
  (∀ (c : Content) (s : State),
    let l := s.line
    let new : TxFrame :=
      { content := c, originator := c.originator, queueTime := s.sec, attempts := 0, inTx := false, noRetry := false }
    (s.station.mode ≠ .run → lineOffer c s = (s, false))
      ∧ (s.station.mode = .run →
          (∀ pre f post, l.queue = pre ++ f :: post → replacedBy c f → (∀ g ∈ pre, ¬ replacedBy c g) →
              lineOffer c s = (s.setLine { l with queue := pre ++ { f with content := c } :: post }, true))
            ∧ ((∀ f ∈ l.queue, ¬ replacedBy c f) →
                (l.queue.length < 8 →
                    lineOffer c s =
                      (s.setLine
                        { l with
                          queue := l.queue ++ [new]
                          access := if l.access = .idle then .waiting else l.access }, true))
                  ∧ (∀ pre f post, 8 ≤ l.queue.length → c.urgent = true → l.queue = pre ++ f :: post → statusWaits f →
                      (∀ g ∈ pre, ¬ statusWaits g) →
                      lineOffer c s =
                        (s.setLine { l with queue := pre ++ post ++ [new], due := true, refused := true }, true))
                  ∧ (8 ≤ l.queue.length → c.urgent = false ∨ (∀ f ∈ l.queue, ¬ statusWaits f) →
                      lineOffer c s = (s, false)))))
  ∧ ∀ (due : Nat) (s : State), settled s → s.station.mode = .run → s.claim.own.refresh = .running due → due ≤ s.now →
    s.claim.own.state ≠ .none →
    ∃ t, exec .claimRefresh s = .next t
      ∧ t.claim =
          { s.claim with
            own := { s.claim.own with lastAnnounce := some s.sec, refresh := .running (s.now + 30000) } }
      ∧ (let c : Content :=
           .claim (s.claim.own.serial.getD 0) (s.claim.own.cls.getD .test)
             (if s.claim.own.state = .throttled then s.claim.own.qg else s.cfg.nozzle * s.cfg.tOn / s.cfg.period)
             (s.claim.own.basis.elim 0 fun b => min 255 ((s.sec - b) / 60))
         t.line = (lineOffer c s).1.line
           ∧ (s.line.queue.length < 8 → (∀ f ∈ s.line.queue, ¬ replacedBy c f) →
               t.line.queue =
                 s.line.queue ++
                   [{ content := c, originator := .waterClaim, queueTime := s.sec, attempts := 0, inTx := false
                      noRetry := false }]))
      ∧ onlyChanges [.claim, .line] s t

/-- PRESSURE_READING, FIRST_STAGE and SECOND_STAGE (R108, R109): the low time, the halved on-time with its ceiling, and
the PRESSURE stop, which counts an attempt of the entry and at the third removes it and holds its face (R61, R66); a
top-ranked claim takes neither stage (the second is the model's choice, log 16; the on timer of an on-time that was raised
before: log 39). -/
def Obligations.PressureBackstop : Prop :=
  ∀ s : State, settled s → s.station.mode ≠ .start →
    (∀ p, s.cannon.state = .spraying →
        exec (.pressureReading p) s =
          .next (s.setClaim
            { s.claim with
              pressure := some p
              lowSince := if p < s.cfg.pMin then some (s.claim.lowSince.getD s.now) else none
              stageAt := if p < s.cfg.pMin then s.claim.stageAt else none }))
      ∧ (∀ p, s.cannon.state ≠ .spraying →
          exec (.pressureReading p) s = .next (s.setClaim { s.claim with pressure := some p }))
      ∧ (s.topRanked = true → exec .firstStage s = .next s ∧ exec .secondStage s = .next s)
      ∧ (∀ low onTime, s.topRanked = false → s.cannon.state = .spraying → s.claim.lowSince = some low →
          low + 5000 ≤ s.now → s.claim.stageAt = none → s.claim.own.tHeld = some onTime →
          (s.claim.own.state = .granted ∨ s.claim.own.state = .throttled) →
          let half := max s.cfg.tOnMin (onTime / 2)
          ∃ t, exec .firstStage s = .next t ∧ t.claim.own.state = .throttled ∧ t.claim.own.tHeld = some half
            ∧ t.claim.own.ceiling = some half ∧ t.claim.own.qg = s.cfg.nozzle * half / s.cfg.period
            ∧ t.claim.own.lastAnnounce = some s.sec ∧ t.claim.stageAt = some s.now ∧ t.claim.staged = true
            ∧ t.claim.lowSince = s.claim.lowSince ∧ t.cannon = s.cannon.applyOnTime s.now half
            ∧ onlyChanges [.cannon, .claim, .line] s t)
      ∧ (∀ low stage ch, s.topRanked = false → s.cannon.state = .spraying → s.claim.lowSince = some low →
          s.claim.stageAt = some stage → stage + 5000 ≤ s.now → s.cannon.chain = some ch →
          s.claim.own.state ≠ .none →
          ∃ t, exec .secondStage s = .next t ∧ endedBy .pressure ch s t ∧ t.cannon.valveOpen = false
            ∧ (queueInv s.queue → attemptCounted ch s t)
            ∧ t.claim.lowSince = none ∧ t.claim.stageAt = none
            ∧ onlyChanges [.queue, .cannon, .claim, .line, .face, .alarms, .free] s t)

/-- SUPPLY_FRAME (R95, R97, R104, R110 to R112): an accepted frame replaces the supply state and sets the day, a changed
gating has its results, and a changed capacity in use a recompute; a frame of another sender or of an unknown source
changes neither. That the gating is judged once is the model's choice (log 11). -/
def Obligations.SupplyIsTaken : Prop :=
  ∀ (n : Nat) (p : List Byte) (s : State), s.operational = true → frameWellFormed .supply n p = true →
    n ≠ s.station.node → ∃ t, exec (.supplyFrame n p) s = .next t
      ∧ (n ≠ s.cfg.supplyNode ∨ 1 < byteAt p 2 → t.account = s.account ∧ t.claim.supply = s.claim.supply)
      ∧ (∀ src, n = s.cfg.supplyNode → waterSourceOf (byteAt p 2) = some src →
          t.claim.supply =
              { capacity := some (min 2000 (word16At p 0)), source := src, pond := some (min 100 (byteAt p 3))
                day := some (word16At p 4), allowance := word24At p 6, lastArrival := some s.sec
                staleTimer := .running (s.now + 300000), stale := false }
            ∧ (s.account.today.day = none ∨ s.account.today.day = some (word16At p 4) →
                t.account =
                  { s.account with
                    today :=
                      { s.account.today with
                        day := some (word16At p 4), allowance := max s.account.today.allowance (word24At p 6) } })
            ∧ (∀ day, s.account.today.day = some day → day ≠ word16At p 4 →
                t.account =
                    { today :=
                        { day := some (word16At p 4), allowance := word24At p 6, reuse := 0, fresh := 0
                          knockdown := 0, runoff := 0 }
                      yesterday := s.account.today, dayStart := s.sec }
                  ∧ ∀ f r, t.face.records.get f = some r → r.runoff = 0)
            ∧ (cannonInv s → (findPeer n s.peers.entries).bind Peer.claim = none →
                gatingFollowed s t
                  ∧ (t.gate = s.gate → t.capacityInUse ≠ s.capacityInUse → recomputed s t)))
      ∧ onlyChanges [.account, .claim, .peers, .queue, .cannon, .line, .face, .alarms, .free] s t

/-- SUPPLY_STALE_EXPIRY and STALE_ROLLOVER (R96, R97, R104, R113): the supply turns stale, and a changed capacity in use
has a recompute; while it is stale, a day of 1,440 minutes or more is rolled over to the next day number, and a changed
gating has its results. -/
def Obligations.StaleSupply : Prop :=
  ∀ s : State, s.station.mode ≠ .start →
    let rolled : Account :=
      { today :=
          { day := s.account.today.day.map fun d => (d + 1) % 65536, allowance := s.claim.supply.allowance
            reuse := 0, fresh := 0, knockdown := 0, runoff := 0 }
        yesterday := s.account.today, dayStart := s.sec }
    (∀ due, s.claim.supply.staleTimer = .running due → due ≤ s.now → s.claim.supply.stale = false →
        ∃ t, exec .supplyStaleExpiry s = .next t ∧ t.claim.supply = { s.claim.supply with stale := true }
          ∧ t.account = (if s.account.dayStart + 86400 ≤ s.sec then rolled else s.account)
          ∧ t.alarms.flags.supplyStale.cond = true
          ∧ (s.sec < s.account.dayStart + 86400 → t.capacityInUse ≠ s.capacityInUse → recomputed s t)
          ∧ onlyChanges [.account, .claim, .queue, .cannon, .line, .face, .alarms, .free] s t)
      ∧ (s.claim.supply.stale = true → s.account.dayStart + 86400 ≤ s.sec →
          ∃ t, exec .staleRollover s = .next t ∧ t.account = rolled ∧ t.claim.supply = s.claim.supply
            ∧ gatingFollowed s t
            ∧ (∀ f r, t.face.records.get f = some r → r.runoff = 0)
            ∧ onlyChanges [.account, .claim, .queue, .cannon, .line, .face, .alarms, .free] s t)

/-! ### Dust -/

/-- DUST_READING (R117 to R121): the window, the mean, and the exceedance state that follows from it; a third mean in a
row at L_exc begins a notice with the next serial; a paused recovery timer resumes at the reading that fills the window
again (R118); and in RUN the frames that the unit held are offered again (R123, R129), after the reading is applied (the
model's choice, log 17). -/
def Obligations.DustReadings : Prop :=
  ∀ (value : Int) (s : State), s.operational = true → s.cfg.lElev < s.cfg.lExc →
    let v := (max 0 (min 5000 value)).toNat
    let window := (s.dust.window ++ [v]).drop (s.dust.window.length + 1 - 6)
    let mean := window.sum / 6
    ∃ t, exec (.dustReading value) s = .next t ∧ t.dust.window = window ∧ t.dust.silent = false
      ∧ t.dust.watch = .running (s.now + 40000)
      ∧ onlyChanges [.dust, .queue, .cannon, .claim, .line, .face, .alarms, .free] s t
      ∧ (s.dust.window.length < 5 →
          t.dust.mean = s.dust.mean ∧ t.dust.level = s.dust.level ∧ t.dust.count = s.dust.count
            ∧ t.dust.serial = s.dust.serial ∧ t.dust.recovery = s.dust.recovery)
      ∧ (5 ≤ s.dust.window.length →
          t.dust.mean = some mean
            ∧ (s.dust.level = .clear →
                t.dust.level = (if mean < s.cfg.lElev then Exceedance.clear else .elevated)
                  ∧ t.dust.count = (if mean < s.cfg.lExc then 0 else 1))
            ∧ (s.dust.level = .elevated → mean < s.cfg.lExc →
                t.dust.level = (if mean < s.cfg.lElev then Exceedance.clear else .elevated) ∧ t.dust.count = 0)
            ∧ (s.dust.level = .elevated → s.cfg.lExc ≤ mean → s.dust.count + 1 < 3 →
                t.dust.level = .elevated ∧ t.dust.count = s.dust.count + 1)
            ∧ (s.dust.level = .elevated → s.cfg.lExc ≤ mean → 3 ≤ s.dust.count + 1 →
                t.dust.level = .exceed ∧ t.dust.count = 0 ∧ t.dust.serial = some s.dust.nextSerial
                  ∧ t.dust.nextSerial = (s.dust.nextSerial + 1) % 256
                  ∧ t.dust.cover.map CoverEntry.responder = [s.station.node] ∧ t.dust.uncovered = false
                  ∧ t.dust.refresh = .running (s.now + 300000)
                  ∧ t.dust.response =
                      (if t.dust.covered then .stopped else .running (s.now + s.cfg.responseWindow * 1000)))
            ∧ (s.dust.level = .exceed →
                t.dust.level = (if mean < s.cfg.lElev then Exceedance.recovering else .exceed)
                  ∧ t.dust.serial = s.dust.serial
                  ∧ (mean < s.cfg.lElev →
                      t.dust.recovery = .running (s.now + s.cfg.recoveryTime * 60000) ∧ t.dust.refresh = .stopped
                        ∧ t.dust.announce = false))
            ∧ (∀ left, s.dust.level = .recovering → s.dust.recovery = .paused left → mean < s.cfg.lElev →
                t.dust.recovery = .running (s.now + left))
            ∧ (s.dust.level = .recovering →
                t.dust.level = (if s.cfg.lExc ≤ mean then Exceedance.exceed else .recovering)
                  ∧ t.dust.serial = s.dust.serial
                  ∧ (s.cfg.lExc ≤ mean →
                      t.dust.recovery = .stopped ∧ t.dust.refresh = .running (s.now + 300000))
                  ∧ (s.cfg.lElev ≤ mean → mean < s.cfg.lExc →
                      t.dust.recovery = .running (s.now + s.cfg.recoveryTime * 60000))))
      ∧ (s.station.mode = .run → t.dust.level = s.dust.level ∨ t.dust.level ≠ .exceed → dustRetried [] s t)

/-- READING_WATCH_EXPIRY, PLUME_REFRESH, RECOVERY_EXPIRY, RESPONSE_WINDOW_EXPIRY and PENDING_ANSWER_EXPIRY (R118, R122 to
R124, R129, R132); at a later expiry of the reading watch the frames that the unit held are offered again. That the reading watch reloads from the moment it was due, and that its first expiry is no retry point,
are the model's choices (log 22, log 17). -/
def Obligations.DustTimers : Prop :=
  ∀ (due : Nat) (s : State), settled s → s.station.mode ≠ .start → due ≤ s.now →
    (s.dust.watch = .running due → s.dust.silent = false →
        exec .readingWatchExpiry s =
          .next (s.setDust
            { s.dust with
              window := [], count := 0, silent := true, watch := .running (due + 10000)
              recovery := match s.dust.recovery with
                | .running d => .paused (d - s.now)
                | w => w }))
      ∧ (s.dust.watch = .running due → s.dust.silent = true →
          ∃ t, exec .readingWatchExpiry s = .next t ∧ t.dust.watch = .running (due + 10000)
            ∧ t.dust.level = s.dust.level ∧ t.dust.silent = true
            ∧ (s.station.mode ≠ .run → t.dust = { s.dust with watch := .running (due + 10000) })
            ∧ (s.station.mode = .run → dustRetried [] s t)
            ∧ onlyChanges [.dust, .line] s t)
      ∧ (s.dust.refresh = .running due → s.dust.level = .exceed →
          ∃ t, exec .plumeRefresh s = .next t ∧ t.dust.refresh = .running (s.now + 300000)
            ∧ (s.station.mode ≠ .run → t.dust.announce = true)
            ∧ (s.station.mode = .run → s.line.queue.length < 8 →
                t.dust.announce = false
                  ∧ t.line.queue =
                      s.line.queue ++
                        [{ content :=
                             .plume s.cfg.x s.cfg.y s.wind.record.bearing (s.dust.mean.getD 0) (s.dust.serial.getD 0)
                           originator := .dustWatch, queueTime := s.sec, attempts := 0, inTx := false
                           noRetry := false }])
            ∧ onlyChanges [.dust, .line] s t)
      ∧ (s.dust.recovery = .running due → s.dust.level = .recovering →
          ∃ t, exec .recoveryExpiry s = .next t
            ∧ t.dust =
                { s.dust with
                  level := .clear, count := 0, recovery := .stopped, response := .stopped, announce := false }
            ∧ onlyChanges [.dust, .line] s t ∧ statusOnly s.line t.line)
      ∧ (s.dust.response = .running due →
          ∃ t, exec .responseWindowExpiry s = .next t
            ∧ t.dust =
                { s.dust with response := .stopped, uncovered := s.dust.uncovered || !s.dust.covered }
            ∧ (s.dust.covered = true → t.alarms = s.alarms)
            ∧ (s.dust.covered = false →
                t.alarms.flags.plumeUncovered = s.alarms.flags.plumeUncovered.event s.sec
                  ∧ t.alarms.flags.plumeUncovered.state ≠ .idle)
            ∧ onlyChanges [.dust, .alarms] s t ∧ flagsExcept [.plumeUncovered] s t)
      ∧ (∀ target,
          exec (.pendingAnswerExpiry target) s =
            .next (s.setDust
              { s.dust with
                answers := s.dust.answers.filter fun a =>
                  !(decide (a.target = target) && decide (a.formed + 600 ≤ s.sec)) }))

/-- PLUME_FRAME (R126 to R129, R59): a notice acted on marks its sender's entry and is answered once, by the lock list,
the cannon, the wind and the queue in that order; the answer is queued, or held pending. Where the queue answers and has
room, each face in WATCH or ACT whose normal lies within 67 degrees of the notice's bearing gets a KNOCKDOWN of V_knock
with the sender as its origin, no other face gets one, the count is theirs, and one for a face that is not held preempts a
running chain of a lower class and another face. -/
def Obligations.NoticeIsAnswered : Prop :=
  ∀ (n : Nat) (p : List Byte) (s : State), s.station.mode ≠ .start → frameWellFormed .plume n p = true →
    n ≠ s.station.node → ∃ t, exec (.plumeFrame n p) s = .next t
      ∧ (let m := decodePlume p
         let acted := (findPeer n s.peers.entries).bind fun q => (q.refresh s.sec .station).acted
         let acts := (s.station.mode = .listen ∨ s.station.mode = .run) ∧ m.theta ≤ 359
           ∧ acted ≠ some m.serial ∧ upwind s.cfg m = true
         (¬ acts → t.dust = s.dust ∧ (findPeer n t.peers.entries).bind Peer.acted = acted)
           ∧ (acts → (findPeer n t.peers.entries).bind Peer.acted = some m.serial
              ∧ (s.lockout.locks = [] → s.cannon.state ≠ .fault → s.cutOut = false → queueInv s.queue →
                  s.queue.entries.length ≤ 4 → 0 < s.cfg.vKnock →
                  (findPeer n s.peers.entries).bind Peer.claim = none →
                  (∀ f, knockdownsOffered s t f n (facesNotice s m.theta f))
                    ∧ ∀ ch, s.cannon.chain = some ch → cannonInv s → ch.cls ≠ .knockdown →
                        (∃ e ∈ s.queue.entries, e.running = true) →
                        (∀ e ∈ s.queue.entries, e.running = true → e.face = ch.face ∧ e.cls = ch.cls) →
                        (∃ g, g ≠ ch.face ∧ facesNotice s m.theta g = true
                          ∧ (s.queue.holds.get g).isRunning = false) →
                        endedBy .preempted ch s t)
              ∧ ∃ answer count,
                  let held : PendingAnswer :=
                    { target := n, serial := m.serial, answer := answer, count := count, formed := s.sec }
                  (held ∈ t.dust.answers ∨ ∃ f ∈ t.line.queue, f.content = .cover n m.serial answer count s.sec)
                    ∧ (s.station.mode = .listen → held ∈ t.dust.answers)
                    ∧ (s.lockout.locks ≠ [] → answer = .locked)
                    ∧ (cannonInv s → s.lockout.locks = [] → s.cannon.state = .fault → answer = .fault)
                    ∧ (s.lockout.locks = [] → s.cannon.state ≠ .fault → s.cutOut = true → answer = .windCut)
                    ∧ (s.lockout.locks = [] → s.cannon.state ≠ .fault → s.cutOut = false →
                        count ≤ 4 ∧ (0 < count → answer = .queued) ∧ (count = 0 → answer = .noFace)
                          ∧ (queueInv s.queue → s.queue.entries.length ≤ 4 → 0 < s.cfg.vKnock →
                              (findPeer n s.peers.entries).bind Peer.claim = none →
                              count = (allFaces.filter (facesNotice s m.theta)).length))))
      ∧ onlyChanges [.peers, .dust, .queue, .cannon, .claim, .line, .face, .alarms, .free] s t

/-- COVER_FRAME (R131, R132): an answer to the present notice enters the cover list, and the first that covers it marks
it covered and stops the response window; any other answer changes nothing here. -/
def Obligations.CoverIsTaken : Prop :=
  ∀ (n : Nat) (p : List Byte) (s : State), s.operational = true → frameWellFormed .cover n p = true →
    n ≠ s.station.node → (s.dust.cover.map CoverEntry.responder).Nodup →
    ∃ t, exec (.coverFrame n p) s = .next t
      ∧ (∀ answer, coverAnswerOf (byteAt p 2) = some answer → byteAt p 0 = s.station.node →
          (s.dust.level = .exceed ∨ s.dust.level = .recovering) → s.dust.serial = some (byteAt p 1) →
          let e : CoverEntry :=
            { responder := n, answer := answer, count := if answer = .queued then byteAt p 3 else 0, time := s.sec }
          let covers := answer = .queued ∧ 1 ≤ byteAt p 3
          ((∃ c ∈ s.dust.cover, c.responder = n) →
              t.dust.cover = s.dust.cover.map fun c => if c.responder = n then e else c)
            ∧ ((∀ c ∈ s.dust.cover, c.responder ≠ n) →
                t.dust.cover = if s.dust.cover.length < 8 then s.dust.cover ++ [e] else s.dust.cover)
            ∧ (s.dust.covered = true ∨ ¬ covers →
                t.dust.covered = s.dust.covered ∧ t.dust.coverage = s.dust.coverage
                  ∧ t.dust.response = s.dust.response)
            ∧ (s.dust.covered = false → covers →
                t.dust.covered = true ∧ t.dust.coverage = some s.sec ∧ t.dust.response = .stopped))
      ∧ (coverAnswerOf (byteAt p 2) = none ∨ byteAt p 0 ≠ s.station.node ∨ s.dust.level = .clear
          ∨ s.dust.level = .elevated ∨ s.dust.serial ≠ some (byteAt p 1) → t.dust = s.dust)
      ∧ onlyChanges [.dust, .peers, .queue, .cannon, .claim, .line, .face, .alarms, .free] s t

/-! ### The peer map and the line -/

/-- A frame of another member (R137 to R139, R162): its sender's entry is present, with the kind of the frame, last heard
now, and the position where the frame carries one; no other entry changes; the isolation watch starts again. What the reception holds is the model's choice (log 5). -/
def Obligations.FrameRefreshesSender : Prop :=
  ∀ (k : FrameKind) (n : Nat) (p : List Byte) (s : State), s.station.mode ≠ .start →
    frameWellFormed k n p = true → n ≠ s.station.node →
    ∃ t q, exec (Received.command ⟨n, k, p⟩) s = .next t ∧ findPeer n t.peers.entries = some q
      ∧ q.kind = k.member ∧ q.heard = s.sec
      ∧ (k = .status ∨ k = .plume ∨ k = .wind ∨ k = .machine →
          q.position = some (min 4095 (word16At p 0), min 4095 (word16At p 2)))
      ∧ (∀ m, m ≠ n → findPeer m t.peers.entries = findPeer m s.peers.entries)
      ∧ t.peers.sweep = s.peers.sweep
      ∧ (s.operational = true → t.line.isolation = .running (s.now + 300000) ∧ t.line.isolated = false)
      ∧ t.line.busy = false ∧ t.line.partialFrame = []
      ∧ t.station = s.station ∧ t.wind = s.wind ∧ t.look = s.look ∧ t.lockout = s.lockout ∧ t.store = s.store
      ∧ t.panel = s.panel ∧ t.pins = s.pins ∧ t.now = s.now ∧ t.pending = s.pending

/-- STATUS_FRAME, WIND_FRAME, MACHINE_FRAME, CLAIM_FRAME and RELEASE_FRAME (R99, R104, R105, R127, R140 to R142): the
part of the sender's entry that each writes, and the recompute of the own claim that a CLAIM, and a RELEASE of the serial
held, trigger. `Received.command` of kind and sender n is statusFrame n p, windFrame n p, and so on. -/
def Obligations.FrameParts : Prop :=
  ∀ (k : FrameKind) (n : Nat) (p : List Byte) (s : State), s.operational = true → frameWellFormed k n p = true →
    n ≠ s.station.node →
    ∃ t q, exec (Received.command ⟨n, k, p⟩) s = .next t ∧ findPeer n t.peers.entries = some q
      ∧ (∀ c, k = .status → decodeStatus p = some c →
          q.summary =
              some
                { cannonClass := c.cannonClass, locked := c.locked, level := c.level, serial := c.serial
                  faces := c.faces, runoff := c.runoff, fresh := c.fresh }
            ∧ q.wind = (c.wind.bind fun w =>
                if w.2 ≤ 359 then some { speed := min 400 w.1, bearing := w.2, arrival := s.sec } else none)
            ∧ (c.level = .clear ∨ c.level = .elevated → q.acted = none))
      ∧ (k = .wind → word16At p 8 ≤ 359 →
          q.wind = some { speed := min 400 (word16At p 4), bearing := word16At p 8, arrival := s.sec })
      ∧ (∀ b, k = .machine → boolOf (byteAt p 4) = some b → q.machine = some b)
      ∧ (∀ c, k = .claim → demandClassOf (byteAt p 1) = some c →
          q.claim =
            some
              { cls := c, flow := min 2000 (word16At p 2), wait := min 255 (byteAt p 4), serial := byteAt p 0
                announce := s.sec })
      ∧ (k = .release →
          q.claim =
            ((findPeer n s.peers.entries).bind fun q => (q.refresh s.sec .station).claim).filter fun c =>
              decide (c.serial ≠ byteAt p 0))
      ∧ (k = .claim → (demandClassOf (byteAt p 1)).isSome = true → recomputed s t)
      ∧ (k = .release → s.claimOf n (byteAt p 0) = true → recomputed s t)

/-- FRAME_DISCARDED, FRAME_BROKEN and a frame whose length or sender is not allowed (R150): nothing changes outside the
Line Controller, and there only what the reception held. What the reception holds is the model's choice (log 5). -/
def Obligations.BrokenFramesAreDropped : Prop :=
  ∀ s : State, settled s → s.station.mode ≠ .start →
    let ended := s.setLine { s.line with busy := false, partialFrame := [], quietSince := s.now }
    exec .frameDiscarded s = .next ended
      ∧ exec .frameBroken s =
          .next (s.setLine
            { s.line with
              partialFrame := [], busy := false, quietSince := if s.line.busy then s.now else s.line.quietSince })
      ∧ ∀ k n p, frameWellFormed k n p = false → exec (Received.command ⟨n, k, p⟩) s = .next ended

/-- DUPLICATE (R152, R185, R89): in LISTEN and RUN the station goes to MUTE, its chain ends DUPLICATE, its claim is NONE
and its transmit queue is empty; in the other states only DUPLICATE_NODE becomes true. What the reception holds is the
model's choice (log 5). -/
def Obligations.DuplicateMutes : Prop :=
  ∀ s : State, s.station.mode ≠ .start → s.station.node ≠ 0 →
    ∃ t, exec .duplicate s = .next t ∧ t.line.duplicate = true ∧ t.alarms.flags.duplicateNode.cond = true
      ∧ (s.station.mode = .listen ∨ s.station.mode = .run →
          t.station = { s.station with mode := .mute, listen := .stopped }
            ∧ t.line.queue = [] ∧ t.line.access = .idle ∧ t.line.backoff = .stopped ∧ t.line.due = false
            ∧ t.claim.own.state = .none ∧ t.claim.supply = s.claim.supply ∧ t.cannon.chain = none
            ∧ (∀ ch, s.cannon.chain = some ch → endedBy .duplicate ch s t ∧ t.cannon.valveOpen = false)
            ∧ (s.cannon.chain = none → t.cannon = s.cannon ∧ t.queue = s.queue))
      ∧ (settled s → s.station.mode ≠ .listen → s.station.mode ≠ .run →
          t.line = { s.line with duplicate := true, busy := false, partialFrame := [], quietSince := s.now }
            ∧ t.alarms.flags.duplicateNode = s.alarms.flags.duplicateNode.follow s.sec true
            ∧ flagsExcept [.duplicateNode] s t ∧ onlyChanges [.line, .alarms] s t)
      ∧ (s.station.mode ≠ .listen → s.station.mode ≠ .run →
          t.station = s.station ∧ onlyChanges [.line, .alarms] s t)
      ∧ onlyChanges [.station, .queue, .cannon, .claim, .line, .face, .alarms, .free] s t

/-- ACCESS_GAP and BACKOFF_EXPIRY (R153, R157, R158, R159, R188): the head starts once the line has been quiet for its
gap, and the station drives its bytes with the latched node number as sender; on a
line that another member has made busy the gap's end starts nothing, and a line that goes quiet has its quiet time from
then (R149); the head is an URGENT frame of the earliest queue time where one is queued; a backoff ends in WAITING, or in IDLE where
nothing is queued (the model's choice, log 23). -/
def Obligations.LineAccess : Prop :=
  ∀ s : State, settled s → s.station.mode = .run →
    (∀ i f, s.line.access = .waiting → s.line.busy = false → headIndex s.line.queue = some i →
        s.line.queue[i]? = some f → (if f.content.urgent then 2 else 6) ≤ s.now - s.line.quietSince →
        (∃ t, exec .accessGap s = .next t
            ∧ t = s.setLine
                { s.line with
                  access := .sending, queue := s.line.queue.modify i fun g => { g with inTx := true } }
            ∧ ((∀ g ∈ s.line.queue, g.inTx = false) →
                t.drivenBytes = some (makeFrame s.station.node f.content.kind f.content.payload)))
          ∧ ∀ g ∈ s.line.queue, g.content.urgent = true →
              f.content.urgent = true ∧ f.queueTime ≤ g.queueTime)
      ∧ (s.line.access ≠ .waiting ∨ s.line.busy = true → exec .accessGap s = .next s)
      ∧ (s.line.access ≠ .sending →
          s.hearBits = s.setLine { s.line with busy := true } ∧ s.hearBits.line.quietTime s.now = 0
            ∧ exec .accessGap s.hearBits = .next s.hearBits
            ∧ ∀ b, (s.hearByte b).line.busy = true ∧ (s.hearByte b).line.quietSince = s.line.quietSince)
      ∧ (s.line.busy = true → s.hearQuiet = s.setLine { s.line with busy := false, quietSince := s.now })
      ∧ (s.line.busy = false → s.hearQuiet = s)
      ∧ (∀ due, s.line.access = .backoff → s.line.backoff = .running due → due ≤ s.now →
          exec .backoffExpiry s =
            .next (s.setLine
              { s.line with
                backoff := .stopped, access := if s.line.queue.isEmpty then .idle else .waiting }))

/-- TRANSMISSION_COMPLETES and COLLISION (R106, R158 to R161): a completed frame leaves, and a completed CLAIM of the
present serial sets sent; a collided frame stays with its attempts raised and the node's backoff, or is lost at the eighth
attempt; a STATUS that is due after a refusal or an eviction is offered when a frame leaves. -/
def Obligations.TransmissionEnds : Prop :=
  ∀ (pre post : List TxFrame) (f : TxFrame) (s : State), settled s → s.station.mode = .run →
    s.line.access = .sending → s.line.queue = pre ++ f :: post → f.inTx = true →
    (∀ g ∈ pre ++ post, g.inTx = false) →
    (∃ t, exec .transmissionCompletes s = .next t
        ∧ (t.line.queue.filter fun g => g.content.urgent) = ((pre ++ post).filter fun g => g.content.urgent)
        ∧ (s.line.due = false ∨ s.line.refused = false → t.line.queue = pre ++ post
            ∧ t.line.access = (if (pre ++ post).isEmpty then .idle else .waiting))
        ∧ t.line.quietSince = s.now
        ∧ (∀ serial cls flow wait, f.content = .claim serial cls flow wait → s.claim.own.state ≠ .none →
            s.claim.own.serial = some serial → t.claim.own.sent = true)
        ∧ (∀ c, f.content = .status c → t.claim = s.claim)
        ∧ (s.line.due = true → s.line.refused = true → (pre ++ post).length < 8 →
            t.line.due = false ∧ t.line.lastStatus = some s.now ∧ ∃ g ∈ t.line.queue, g.content = buildStatus s)
        ∧ onlyChanges [.claim, .line] s t)
      ∧ (f.noRetry = false → f.attempts + 1 < 8 →
          exec .collision s =
            .next (s.setLine
              { s.line with
                queue := pre ++ { f with inTx := false, attempts := f.attempts + 1 } :: post
                access := .backoff, quietSince := s.now
                backoff := .running (s.now + ((s.station.node + 7 * (f.attempts + 1)) % 16 + 1)) }))
      ∧ (f.noRetry = true ∨ 8 ≤ f.attempts + 1 →
          ∃ t, exec .collision s = .next t
            ∧ (t.line.queue.filter fun g => g.content.urgent) = ((pre ++ post).filter fun g => g.content.urgent)
            ∧ (∀ target serial answer count formed, f.noRetry = false →
                f.content = .cover target serial answer count formed →
                ∃ a ∈ t.dust.answers, a.target = target)
            ∧ (s.line.due = true → s.line.refused = true → (pre ++ post).length < 8 →
                t.line.due = false ∧ t.line.lastStatus = some s.now ∧ ∃ g ∈ t.line.queue, g.content = buildStatus s)
            ∧ onlyChanges [.dust, .line] s t)

/-- STATUS_PERIOD and STATUS_DUE_MARK (R161, R10, R39, R114, R133): STATUS is offered as the station then stands, and the
30 s and the 2 s start again when the queue takes it; where it has no room STATUS is due. Whatever command changes one of
the four reported items in RUN, STATUS is offered with the new items or is due: until the 2 s have passed, or because the
queue had no room. That a change is judged over the whole arrival is the model's choice (log 10). -/
def Obligations.StatusIsOffered : Prop :=
  ∀ (due : Nat) (s : State), settled s → s.station.mode = .run → due ≤ s.now →
    (∀ c, (c = Instr.statusPeriod ∧ s.line.period = .running due)
        ∨ (c = Instr.statusDueMark ∧ s.line.spacing = .running due ∧ s.line.due = true) →
      (s.line.queue.length < 8 ∨ (∃ f ∈ s.line.queue, f.waitingStatus = true) →
          ∃ t f content, exec c s = .next t ∧ f ∈ t.line.queue ∧ f.content = .status content
            ∧ content.x = s.cfg.x ∧ content.y = s.cfg.y ∧ content.cannonClass = s.cannon.state.cls
            ∧ content.locked = s.locked ∧ content.level = s.dust.level
            ∧ content.serial =
                (if s.dust.level = .exceed ∨ s.dust.level = .recovering then s.dust.serial else none)
            ∧ content.faces = s.faceClasses
            ∧ content.runoff = s.account.today.runoff ∧ content.fresh = s.account.today.fresh
            ∧ content.wind =
                (if s.wind.record.source = .localMinute then some (s.wind.record.speed, s.wind.record.bearing)
                 else none)
            ∧ t.line.period = .running (s.now + 30000) ∧ t.line.spacing = .running (s.now + 2000)
            ∧ t.line.lastStatus = some s.now ∧ t.line.due = false
            ∧ onlyChanges [.line] s t ∧ statusOnly s.line t.line)
        ∧ (s.line.queue.length = 8 → (∀ f ∈ s.line.queue, f.waitingStatus = false) →
            ∃ t, exec c s = .next t ∧ t.line.queue = s.line.queue ∧ t.line.due = true
              ∧ onlyChanges [.line] s t ∧ statusOnly s.line t.line))
      ∧ (s.line.spacing = .running due → s.line.due = false →
          exec .statusDueMark s = .next (s.setLine { s.line with spacing := .stopped }))
      ∧ (∀ c t, exec c s = .next t → t.station.mode = .run →
          t.cannon.state.cls ≠ s.cannon.state.cls ∨ t.locked ≠ s.locked ∨ t.dust.level ≠ s.dust.level
            ∨ t.faceClasses ≠ s.faceClasses →
          (t.line.due = false → t.line.lastStatus = some t.now ∧ ∃ f ∈ t.line.queue, f.content = buildStatus t)
            ∧ (t.line.due = true →
                (∃ mark, t.line.spacing = .running mark ∧ t.now < mark)
                  ∨ (t.line.refused = true ∧ 8 ≤ t.line.queue.length)))

/-- SWEEP and ISOLATION_EXPIRY (R104, R105, R144, R145, R162): entries lose their parts at LOST and claim parts older than
75 s, and a claim part that goes triggers a recompute; a
line without a frame for 300 s is reported isolated. That the sweep reloads from the moment it was due is the model's choice (log 22). -/
def Obligations.SweepAndIsolation : Prop :=
  ∀ (due : Nat) (s : State), settled s → s.station.mode ≠ .start → due ≤ s.now →
    (s.peers.sweep = .running due →
        ∃ t, exec .sweep s = .next t ∧ t.peers.sweep = .running (due + 10000)
          ∧ t.peers.entries =
              (s.peers.entries.map fun p =>
                if 150 < s.sec - p.heard then
                  { p with summary := none, wind := none, claim := none, acted := none, machine := none }
                else { p with claim := p.claim.filter fun c => decide (s.sec - c.announce ≤ 75) })
          ∧ ((∀ p ∈ s.peers.entries, ∀ c, p.claim = some c → s.sec - c.announce ≤ 75 ∧ s.sec - p.heard ≤ 150) →
              onlyChanges [.peers] s t)
          ∧ ((∃ p ∈ s.peers.entries, ∃ c, p.claim = some c ∧ (75 < s.sec - c.announce ∨ 150 < s.sec - p.heard)) →
              recomputed s t)
          ∧ onlyChanges [.peers, .queue, .cannon, .claim, .line, .face, .alarms, .free] s t)
      ∧ (s.line.isolation = .running due →
          ∃ t, exec .isolationExpiry s = .next t
            ∧ t.line = { s.line with isolation := .stopped, isolated := true }
            ∧ t.alarms.flags.lineIsolated = s.alarms.flags.lineIsolated.follow s.sec true
            ∧ onlyChanges [.line, .alarms] s t ∧ flagsExcept [.lineIsolated] s t)

/-! ### The panel -/

/-- One panel command at a time (R169, R170): a command that finds one in progress changes nothing but the waiting BUSY
answer; ANSWER_SENT makes room; a broken message or one of a bad check is dropped; an unknown command is answered
INVALID (its command code is the model's choice, log 20). -/
def Obligations.PanelTakesOneCommand : Prop :=
  ∀ s : State, settled s → s.station.mode ≠ .start →
    let clean : Panel := { s.panel with partialMessage := [] }
    exec .panelBadCheck s = .next (s.setPanel clean)
      ∧ exec .panelMessageBroken s = .next (s.setPanel clean)
      ∧ (s.panel.answer = none →
          exec .answerSent s = .next s
            ∧ ∀ code, exec (.panelUnknownCommand code) s =
                .next (s.setPanel { clean with answer := some { command := 0, payload := [2#8] } }))
      ∧ (∀ a, s.panel.answer = some a →
          (∀ code, s.panel.busy = some code →
              exec .answerSent s =
                .next (s.setPanel
                  { s.panel with
                    answer := some { command := code, payload := [1#8] }, busy := none }))
            ∧ (s.panel.busy = none → exec .answerSent s = .next (s.setPanel { s.panel with answer := none }))
            ∧ ∀ c code,
                ((∃ sel part first last, c = Instr.read sel part first last ∧ code = 1)
                  ∨ (∃ block, c = Instr.configure block ∧ code = 2)
                  ∨ (∃ lock level, c = Instr.lock lock level ∧ code = 3)
                  ∨ (∃ lock, c = Instr.unlock lock ∧ code = 4)
                  ∨ (c = Instr.ackAlarms ∧ code = 5) ∨ (c = Instr.clearFault ∧ code = 6)
                  ∨ (c = Instr.restart ∧ code = 7)
                  ∨ (∃ face volume, c = Instr.testSpray face volume ∧ code = 8)
                  ∨ (c = Instr.panelUnknownCommand code)) →
                exec c s =
                  .next (s.setPanel
                    { clean with busy := if s.panel.busy.isSome then s.panel.busy else some code }))

/-- READ (R172, R190): the answer is the part asked for of the selector's snapshot, or INVALID, nothing else changes, and
the parts of a snapshot put together are the snapshot. The LOCKS snapshot holds each lock's level and applying time, the
attempts and whether a supervisor code exists (none with strap 0: the model's choice, log 36); and no snapshot depends on a
code. -/
def Obligations.ReadAnswers : Prop :=
  (∀ (first last : Nat) (s : State),
    snapshot 9 first last s =
      some
        ([BitVec.ofNat 8 s.lockout.locks.length]
          ++ (s.lockout.locks.flatMap fun k =>
              (if k.level = .standard then 0#8 else 1#8)
                :: (match k.time with
                    | some t =>
                      [1#8, BitVec.ofNat 8 (t / 16777216), BitVec.ofNat 8 (t / 65536), BitVec.ofNat 8 (t / 256),
                        BitVec.ofNat 8 t]
                    | none => [0#8, 0#8, 0#8, 0#8, 0#8]))
          ++ [BitVec.ofNat 8 s.lockout.attempts,
              if s.station.node ≠ 0 ∧ s.station.stored.isSome = true then 1#8 else 0#8]))
  ∧ (∀ (selector first last : Nat) (s s' : State), s.withoutCodes = s'.withoutCodes →
      snapshot selector first last s = snapshot selector first last s')
  ∧ ∀ (selector part first last : Nat) (s : State), settled s → s.station.mode ≠ .start → s.panel.answer = none →
    (∀ data, snapshot selector first last s = some data →
        (List.range (partCount data)).flatMap (fun i => partOf i data) = data
          ∧ (∀ i, (partOf i data).length ≤ 250)
          ∧ (part < partCount data →
              exec (.read selector part first last) s =
                .next (s.setPanel
                  { s.panel with
                    partialMessage := []
                    answer :=
                      some
                        { command := 1
                          payload := [0#8] ++ (enc8 part ++ enc8 (partCount data) ++ partOf part data) } }))
          ∧ (partCount data ≤ part →
              exec (.read selector part first last) s =
                .next (s.setPanel
                  { s.panel with partialMessage := [], answer := some { command := 1, payload := [2#8] } })))
      ∧ (selector = 0 ∨ 9 < selector ∨ (selector = 6 ∧ (first = 0 ∨ 63 < last ∨ last < first)) →
          exec (.read selector part first last) s =
            .next (s.setPanel
              { s.panel with partialMessage := [], answer := some { command := 1, payload := [2#8] } }))

/-- CONFIGURE (R181, R182, R179): FROZEN outside COMMISSION; INVALID with the first field that fails; otherwise the block
is stored, a power-on of the same node would load it, and its supervisor code and relay set are followed at once, while
the settings that the other blocks have taken stay. -/
def Obligations.ConfigureChecks : Prop :=
  ∀ (block : List Byte) (s : State), settled s → s.station.mode ≠ .start → s.panel.answer = none →
    block.length = 171 →
    let answered := fun payload : List Byte =>
      s.setPanel { s.panel with partialMessage := [], answer := some { command := 2, payload := payload } }
    (s.station.mode ≠ .commission → exec (.configure block) s = .next (answered [8#8]))
      ∧ (∀ k, s.station.mode = .commission → firstFailing s.station.node block = some k →
          exec (.configure block) s = .next (answered ([2#8] ++ enc8 k)))
      ∧ (s.station.mode = .commission → firstFailing s.station.node block = none →
          ∃ t, exec (.configure block) s = .next t
            ∧ t.station = { s.station with stored := some (readBlock block) }
            ∧ (s.station.node ≠ 0 → t.supervisor = some (readBlock block).supervisor
                ∧ t.alarms.flags.configAbsent.cond = false
                ∧ t.alarms.relay =
                    allAlarms.any fun i =>
                      (readBlock block).relaySet.get i && decide ((t.alarms.flags.get i).state = .raised))
            ∧ t.store.locks = s.store.locks
            ∧ loadBlock s.station.node t.store.block = some (readBlock block)
            ∧ t.panel = (answered [0#8]).panel
            ∧ onlyChanges [.station, .store, .panel, .alarms] s t ∧ flagsExcept [.configAbsent] s t)

/-- LOCK (R164, R165, R88): a new code is added and stored, and the first lock stops the cannon, its valve closed and its
drive still; the refusals change nothing. -/
def Obligations.LockIsTaken : Prop :=
  ∀ (code level : Nat) (s : State), settled s → s.station.mode ≠ .start → s.panel.answer = none → cannonInv s →
    let answered := fun payload : List Byte =>
      s.setPanel { s.panel with partialMessage := [], answer := some { command := 3, payload := payload } }
    (1 < level ∨ 999999 < code → exec (.lock code level) s = .next (answered [2#8]))
      ∧ (level ≤ 1 → code ≤ 999999 → (∃ k ∈ s.lockout.locks, k.code = code) →
          exec (.lock code level) s = .next (answered [4#8]))
      ∧ (level ≤ 1 → code ≤ 999999 → (∀ k ∈ s.lockout.locks, k.code ≠ code) → 4 ≤ s.lockout.locks.length →
          exec (.lock code level) s = .next (answered [3#8]))
      ∧ (level ≤ 1 → code ≤ 999999 → (∀ k ∈ s.lockout.locks, k.code ≠ code) → s.lockout.locks.length < 4 →
          ∃ t, exec (.lock code level) s = .next t ∧ t.panel = (answered [0#8]).panel
            ∧ t.lockout.locks =
                s.lockout.locks ++
                  [{ code := code, level := if level = 0 then .standard else .strict, time := some s.sec }]
            ∧ t.lockout.attempts = s.lockout.attempts
            ∧ t.store.locks = some (t.lockout.locks.map fun k => (k.code, k.level))
            ∧ t.store.block = s.store.block
            ∧ (s.lockout.locks ≠ [] → t.cannon = s.cannon ∧ t.queue = s.queue ∧ t.claim = s.claim)
            ∧ (s.lockout.locks = [] →
                (t.cannon.state = .locked ∨ t.cannon.state = .draining ∨ t.cannon.state = .fault)
                  ∧ t.cannon.valveOpen = false ∧ t.cannon.drive = none ∧ t.claim.own.state = .none
                  ∧ (s.cannon.state ≠ .fault → s.cannon.state ≠ .locked → t.queue.request = false)
                  ∧ ∀ ch, s.cannon.chain = some ch → endedBy .lockout ch s t)
            ∧ onlyChanges [.lockout, .store, .panel, .queue, .cannon, .claim, .line, .face, .alarms, .free] s t)

/-- UNLOCK (R167, R168): the lock of a code is removed; the supervisor code removes the STANDARD locks; a code that
matches none costs an attempt, and without attempts nothing is tried. That a station with strap 0 has no supervisor code
whatever its store holds is the model's choice (log 36). -/
def Obligations.UnlockIsTaken : Prop :=
  ∀ (code : Nat) (s : State), settled s → s.station.mode ≠ .start → s.panel.answer = none →
    let locks := s.lockout.locks
    let answered := fun payload : List Byte =>
      s.setPanel { s.panel with partialMessage := [], answer := some { command := 4, payload := payload } }
    let supervises := s.station.node ≠ 0 ∧ s.station.stored.map Configuration.supervisor = some code
    (999999 < code → exec (.unlock code) s = .next (answered [2#8]))
      ∧ (code ≤ 999999 → s.lockout.attempts = 0 → exec (.unlock code) s = .next (answered [6#8]))
      ∧ (code ≤ 999999 → 0 < s.lockout.attempts → locks = [] → exec (.unlock code) s = .next (answered [2#8]))
      ∧ (code ≤ 999999 → 0 < s.lockout.attempts → locks ≠ [] → (∀ k ∈ locks, k.code ≠ code) → ¬ supervises →
          exec (.unlock code) s =
            .next ((answered [5#8]).setLockout { s.lockout with attempts := s.lockout.attempts - 1 }))
      ∧ (code ≤ 999999 → 0 < s.lockout.attempts → locks ≠ [] → (∀ k ∈ locks, k.code ≠ code) → supervises →
          (∀ k ∈ locks, k.level = .strict) → exec (.unlock code) s = .next (answered [7#8]))
      ∧ (∀ kept, code ≤ 999999 → 0 < s.lockout.attempts →
          ((∃ k ∈ locks, k.code = code) ∧ kept = locks.filter (fun k => decide (k.code ≠ code)))
            ∨ ((∀ k ∈ locks, k.code ≠ code) ∧ supervises ∧ (∃ k ∈ locks, k.level = .standard)
                ∧ kept = locks.filter (fun k => decide (k.level ≠ .standard))) →
          ∃ t, exec (.unlock code) s = .next t
            ∧ t.panel = (answered ([0#8] ++ (enc8 (locks.length - kept.length) ++ enc8 kept.length))).panel
            ∧ t.lockout = { s.lockout with locks := kept }
            ∧ t.store = { s.store with locks := some (kept.map fun k => (k.code, k.level)) }
            ∧ (kept ≠ [] ∨ s.cannon.state ≠ .locked →
                t.cannon = s.cannon ∧ t.queue = s.queue ∧ t.claim = s.claim)
            ∧ (kept = [] → s.cannon.state = .locked → t.cannon.state ≠ .locked ∧ t.cannon.branchOpen = true)
            ∧ onlyChanges [.lockout, .store, .panel, .queue, .cannon, .claim, .line, .free] s t)

/-- ACK_ALARMS (R174 to R176): every RAISED flag becomes ACKED, or IDLE where its condition has gone or it follows
events, and the answer counts the flags that changed. -/
def Obligations.AlarmsAreAcknowledged : Prop :=
  ∀ s : State, settled s → s.station.mode ≠ .start → s.panel.answer = none →
    ∃ t, exec .ackAlarms s = .next t
      ∧ (∀ i, t.alarms.flags.get i =
          let f := s.alarms.flags.get i
          if f.state = .raised then
            { f with state := if conditionFlag i && f.cond then .acked else .idle, again := false }
          else f)
      ∧ t.alarms.relay = false
      ∧ t.panel =
          { s.panel with
            partialMessage := []
            answer :=
              some
                { command := 5
                  payload :=
                    [0#8] ++
                      enc8 ((allAlarms.filter fun i => decide ((s.alarms.flags.get i).state = .raised)).length) } }
      ∧ onlyChanges [.alarms, .panel] s t

/-- CLEAR_FAULT (R66, R92, R171): every fault hold ends; a cannon in FAULT leaves it, to
LOCKED while the lock list is not empty; otherwise the answer is NOT_IN_FAULT. -/
def Obligations.FaultIsCleared : Prop :=
  ∀ s : State, settled s → s.station.mode ≠ .start → s.panel.answer = none → cannonInv s →
    ∃ t, exec .clearFault s = .next t ∧ (∀ f, t.queue.holds.get f = .stopped)
      ∧ (t.panel.answer =
          some { command := 6, payload := if s.cannon.state = .fault then [0#8] else [9#8] })
      ∧ (s.cannon.state = .fault →
          t.cannon.state ≠ .fault ∧ t.cannon.noFlowCount = 0 ∧ t.alarms.flags.cannonFault.cond = false
            ∧ (s.lockout.locks ≠ [] → t.cannon.state = .locked))
      ∧ (s.cannon.state ≠ .fault → s.queue.request = false → t.cannon = s.cannon ∧ t.claim = s.claim)
      ∧ onlyChanges [.panel, .queue, .cannon, .claim, .line, .alarms, .free] s t ∧ flagsExcept [.cannonFault] s t

/-- TEST_SPRAY (R173, R55 to R58): a TEST demand of the panel is merged, added, or refused as FULL or INVALID. -/
def Obligations.TestSprayIsOffered : Prop :=
  ∀ (face : FaceId) (volume : Nat) (s : State), settled s → s.station.mode ≠ .start → s.panel.answer = none →
    queueInv s.queue →
    let o : Offer := { face := face, cls := .test, volume := volume, origin := .panel, deadline := none }
    let answered := fun payload : List Byte =>
      s.setPanel { s.panel with partialMessage := [], answer := some { command := 8, payload := payload } }
    ((admitOffer o s).2 = .invalid → exec (.testSpray face.val volume) s = .next (answered [2#8]))
      ∧ ((admitOffer o s).2 = .full → exec (.testSpray face.val volume) s = .next (answered [3#8]))
      ∧ (∀ kind, (admitOffer o s).2 = kind → (kind = .merged ∨ kind = .added) →
          ∃ t, exec (.testSpray face.val volume) s = .next t
            ∧ t.panel = (answered [0#8, if kind = .added then 1#8 else 0#8]).panel
            ∧ (∃ e ∈ t.queue.entries, e.face = face ∧ e.cls = .test)
            ∧ onlyChanges [.panel, .queue, .cannon, .claim, .line, .face, .alarms, .free] s t)
      ∧ ∀ n, 3 < n → exec (.testSpray n volume) s = .next (answered [2#8])

/-- RESTART (R186, R187, R18, R71, R90, R116, R135, R163, R178): what a panel RESTART clears and what it keeps. The supply
state and the forecast are kept by a station that has entered LISTEN before, which its stale timer shows (the model's
choice, log 27). -/
def Obligations.RestartClears : Prop :=
  ∀ s : State, settled s → s.station.mode ≠ .start → s.panel.answer = none →
    (s.operational = false →
        exec .restart s =
          .next (s.setPanel
            { s.panel with partialMessage := [], answer := some { command := 7, payload := [2#8] } }))
      ∧ (s.operational = true → ∃ t, exec .restart s = .next t
          ∧ t.panel.answer = some { command := 7, payload := [0#8] }
          ∧ t.station.mode = .listen ∧ t.station.cause = .restart ∧ t.station.lastReset = s.sec
          ∧ t.station.node = s.station.node ∧ t.station.stored = s.station.stored
          ∧ t.station.config = s.station.config
          ∧ t.station.listen = .running (s.now + 60000)
          ∧ t.queue.entries = [] ∧ (∀ f, t.queue.holds.get f = .stopped)
          ∧ t.queue.lastRemoval = s.queue.lastRemoval
          ∧ (s.lockout.locks = [] → t.cannon.state = .parked ∧ t.queue.request = true ∧ t.cannon.branchOpen = true)
          ∧ (s.lockout.locks ≠ [] → t.cannon.state = .locked ∧ t.queue.request = false)
          ∧ t.cannon.chain = none ∧ t.cannon.valveOpen = false ∧ t.cannon.drive = none ∧ t.cannon.noFlowCount = 0
          ∧ (∀ ch, s.cannon.chain = some ch → endedBy .restart ch s t)
          ∧ (s.cannon.chain = none → t.cannon.log = s.cannon.log ∧ t.queue.rotation = s.queue.rotation)
          ∧ t.cannon.primed =
              (s.cannon.primed && decide (s.cannon.state ≠ .priming)
                && (s.cannon.branchOpen || !s.lockout.locks.isEmpty))
          ∧ t.cannon.chargeFace = s.cannon.chargeFace ∧ t.cannon.bearing = s.cannon.bearing
          ∧ t.claim.own.state = .none ∧ t.claim.own.nextSerial = s.claim.own.nextSerial
          ∧ (s.claim.supply.staleTimer ≠ .stopped → t.claim.supply = s.claim.supply ∧ t.forecast = s.forecast)
          ∧ flagsExcept [.cannonFault, .duplicateNode] s t
          ∧ t.alarms.flags.cannonFault = s.alarms.flags.cannonFault.follow s.sec false
          ∧ t.alarms.flags.duplicateNode = s.alarms.flags.duplicateNode.follow s.sec false
          ∧ t.line.isolated = s.line.isolated ∧ t.line.isolation = .running (s.now + 300000)
          ∧ t.account = s.account ∧ t.peers.entries = [] ∧ t.line.queue = [] ∧ t.line.access = .idle
          ∧ t.line.duplicate = false
          ∧ t.dust.window = [] ∧ t.dust.mean = none ∧ t.dust.level = .clear ∧ t.dust.count = 0
          ∧ t.dust.cover = [] ∧ t.dust.answers = [] ∧ t.dust.announce = false
          ∧ t.dust.nextSerial = s.dust.nextSerial
          ∧ t.wind.acc = Accumulator.empty ∧ t.wind.record = s.wind.record
          ∧ t.wind.minute = .running (s.now + 60000) ∧ t.face.timer = .running (s.now + 60000)
          ∧ t.face.records = s.face.records ∧ t.look = s.look ∧ t.forecast.slots = s.forecast.slots
          ∧ t.lockout = s.lockout ∧ t.store = s.store ∧ t.pins = s.pins ∧ t.now = s.now
          ∧ t.pending = s.pending)

/-! ### Station Control -/

/-- COMMISSIONING_KEY_RELEASE, COMMISSIONING_WINDOW_EXPIRY and LISTEN_TIMER_EXPIRY (R181, R183, R184, R19): the end of
commissioning leads to LISTEN, with the stored configuration taken and the face records formed from it, or to
UNCONFIGURED; 60 s of LISTEN lead to RUN (R184), where STATUS is queued, or due where the answers that were held fill the
queue (R155), the frames that the Dust Watch Unit held are offered in their order, and the open request is answered. That STATUS, these
frames and the first claim come in this order (log 17), and that a stopped stale timer shows the first LISTEN entry
(log 27), are the model's choices. -/
def Obligations.StationStates : Prop :=
  ∀ s : State, settled s →
    (∀ c due, (c = Instr.commissioningKeyRelease
          ∨ (c = Instr.commissioningWindowExpiry ∧ s.station.window = .running due ∧ due ≤ s.now)) →
        s.station.mode = .commission →
        ∃ t, exec c s = .next t ∧ t.station.node = s.station.node ∧ t.station.stored = s.station.stored
          ∧ (s.station.stored = none → t.station.mode = .unconfigured ∧ onlyChanges [.station, .pins] s t)
          ∧ (∀ cfg, s.station.stored = some cfg →
              t.station.config = some cfg ∧ t.now = s.now ∧ listenStarted t ∧ recordsFormed cfg t
                ∧ (s.claim.supply.staleTimer = .stopped → firstListenStarted t))
          ∧ onlyChanges [.station, .pins, .wind, .face, .look, .forecast, .cannon, .claim, .dust, .peers, .line, .alarms]
              s t)
      ∧ (s.station.mode ≠ .commission → exec .commissioningKeyRelease s = .next s)
      ∧ (∀ due, s.station.mode = .listen → s.station.listen = .running due → due ≤ s.now → s.line.queue = [] →
          ∃ t, exec .listenTimerExpiry s = .next t
            ∧ t.station = { s.station with mode := .run, listen := .stopped }
            ∧ ((∃ f c, f ∈ t.line.queue ∧ f.content = .status c)
              ∨ (t.line.due = true ∧ t.line.refused = true ∧ 8 ≤ t.line.queue.length))
            ∧ (s.dust.answers.length ≤ 5 → ∃ f c, f ∈ t.line.queue ∧ f.content = .status c)
            ∧ (∃ rest, dustRetried rest s t
                ∧ (rest = [] ∨ ∃ f serial cls flow wait, rest = [f] ∧ f.content = .claim serial cls flow wait))
            ∧ requestTried s t
            ∧ onlyChanges [.station, .dust, .queue, .cannon, .claim, .line, .free] s t)

/-! ### What every step keeps -/

/-- Right after reset every invariant of this file holds. -/
def Obligations.ResetKeepsRules : Prop :=
  settled State.reset ∧ relayInv State.reset ∧ queueInv State.reset.queue ∧ cannonInv State.reset
    ∧ lineInv State.reset ∧ peersInv State.reset ∧ lockInv State.reset.lockout ∧ storeInv State.reset
    ∧ faceInv State.reset ∧ accountInv State.reset.account ∧ dustInv State.reset.dust ∧ logInv State.reset.cannon
    ∧ slotsInv State.reset.forecast.slots ∧ windInv State.reset.wind

/-- Every step leaves the alarm flags at their conditions' values and the relay at its law (R174, R177), and no mark of
the arrival behind. -/
def Obligations.FlagsFollow : Prop :=
  ∀ s t : State, settled s → relayInv s → step s = .next t → settled t ∧ relayInv t

/-- Every step keeps the Spray Queue's three properties (R54), its attempts (R61) and its rotation order (R63). -/
def Obligations.QueueIsKept : Prop :=
  ∀ s t : State, queueInv s.queue → step s = .next t → queueInv t.queue

/-- Every step keeps the valve's law: it is open only while SPRAYING, with flow held, in RUN and with no lock (R78); and the
drive turns only in SLEWING and SPRAYING (R76, R80). -/
def Obligations.ValveLaw : Prop :=
  ∀ s t : State, cannonInv s → step s = .next t →
    cannonInv t ∧ (t.cannon.valveOpen = true →
      t.cannon.state = .spraying ∧ t.claim.own.state.holdsFlow = true ∧ t.station.mode = .run ∧ t.lockout.locks = [])

/-- Every step keeps the transmit queue within its limits, and empty outside RUN (R149, R153, R157, R160). -/
def Obligations.LineIsKept : Prop :=
  ∀ s t : State, lineInv s → step s = .next t → lineInv t

/-- Every step keeps the Peer Map an entry per node number, never the station's own (R136, R152). -/
def Obligations.PeersAreKept : Prop :=
  ∀ s t : State, peersInv s → step s = .next t → peersInv t

/-- Every step keeps the lock list within its limits and stored (R164). -/
def Obligations.LocksAreKept : Prop :=
  ∀ s t : State, lockInv s.lockout → storeInv s → step s = .next t → lockInv t.lockout ∧ storeInv t

/-- Every step keeps the moisture between 0 and Msat and the index at most 255, on every face (R37), with M_init at most
Msat in every stored description, also one that is not enabled (the model's choice, log 19). -/
def Obligations.FacesAreKept : Prop :=
  ∀ s t : State, faceInv s → step s = .next t → faceInv t

/-- Every step keeps the Dust Watch Unit within its limits (R117, R119, R129, R131). -/
def Obligations.DustIsKept : Prop :=
  ∀ s t : State, dustInv s.dust → step s = .next t → dustInv t.dust

/-- Every step keeps the records: today's fresh litres within the allowance and the knockdown litres (R110), the log's
serials in order (R93), at most 12 forecast slots, each beginning where the one before it ends (R13, R14), the samples of
a minute at most 60 (R3). -/
def Obligations.RecordsAreKept : Prop :=
  ∀ s t : State, accountInv s.account → logInv s.cannon → slotsInv s.forecast.slots → windInv s.wind →
    step s = .next t →
    accountInv t.account ∧ logInv t.cannon ∧ slotsInv t.forecast.slots ∧ windInv t.wind

/-- Only LOCK, UNLOCK and POWER_ON touch the lock list, its store and the attempts, and only POWER_ON gives an attempt
back (R164, R167); only CONFIGURE and POWER_ON touch the stored configuration (R182), and only POWER_ON and the LISTEN
entry that ends commissioning give it to the blocks (R181). -/
def Obligations.LocksNeedTheirCommands : Prop :=
  ∀ (c : Instr) (s t : State), exec c s = .next t →
    ((∀ code level, c ≠ .lock code level) → (∀ code, c ≠ .unlock code) → (∀ straps key, c ≠ .powerOn straps key) →
        t.lockout = s.lockout ∧ t.store.locks = s.store.locks)
      ∧ ((∀ straps key, c ≠ .powerOn straps key) → t.lockout.attempts ≤ s.lockout.attempts)
      ∧ ((∀ block, c ≠ .configure block) → (∀ straps key, c ≠ .powerOn straps key) →
          t.station.stored = s.station.stored ∧ t.store.block = s.store.block)
      ∧ ((∀ straps key, c ≠ .powerOn straps key) →
          t.station.config = s.station.config
            ∨ (s.station.mode = .commission ∧ t.station.mode = .listen ∧ t.station.config = s.station.stored))

/-- A frame of the station's own is read by every other station as the command of its kind, with its sender and its
payload, and by a station with its own number as a duplicate (R150, R152, R158, R188); its bytes, as they arrive one by
one, are that one command at the end of the queue; a byte that is not the start mark begins no reception; either makes the
line busy (R149). That the command waits in the queue, and that the line stays busy until it is taken, is the model's
choice (log 5). -/
def Obligations.FrameRoundTrip : Prop :=
  ∀ (node : Nat) (c : Content) (s : State), 1 ≤ node → node ≤ 63 → s.station.mode ≠ .start →
    s.line.access ≠ .sending → s.line.partialFrame = [] →
    let command := if s.station.node = node then .duplicate else Received.command ⟨node, c.kind, c.payload⟩
    receiveFrame s.station.node (c.bytes node) = some command
      ∧ (c.bytes node).foldl (fun u b => u.hearByte b) s =
          (s.setLine { s.line with busy := true }).setPending (s.pending ++ [command])
      ∧ ∀ b, b ≠ startMark → s.hearByte b = s.setLine { s.line with busy := true }
end

