-- ==== Sys2Proof/Laws/State.lean ====
section
/-! SUPPORT. What each setter of State does to each field: one lemma per field per update, true by rfl. -/

namespace Sys2Proof.Machine

variable (s : State)

@[simp] theorem State.setNow_now (v : Nat) : (s.setNow v).now = v := rfl
@[simp] theorem State.setNow_station (v : Nat) : (s.setNow v).station = s.station := rfl
@[simp] theorem State.setNow_pins (v : Nat) : (s.setNow v).pins = s.pins := rfl
@[simp] theorem State.setNow_store (v : Nat) : (s.setNow v).store = s.store := rfl
@[simp] theorem State.setNow_wind (v : Nat) : (s.setNow v).wind = s.wind := rfl
@[simp] theorem State.setNow_forecast (v : Nat) : (s.setNow v).forecast = s.forecast := rfl
@[simp] theorem State.setNow_face (v : Nat) : (s.setNow v).face = s.face := rfl
@[simp] theorem State.setNow_look (v : Nat) : (s.setNow v).look = s.look := rfl
@[simp] theorem State.setNow_queue (v : Nat) : (s.setNow v).queue = s.queue := rfl
@[simp] theorem State.setNow_cannon (v : Nat) : (s.setNow v).cannon = s.cannon := rfl
@[simp] theorem State.setNow_claim (v : Nat) : (s.setNow v).claim = s.claim := rfl
@[simp] theorem State.setNow_account (v : Nat) : (s.setNow v).account = s.account := rfl
@[simp] theorem State.setNow_dust (v : Nat) : (s.setNow v).dust = s.dust := rfl
@[simp] theorem State.setNow_peers (v : Nat) : (s.setNow v).peers = s.peers := rfl
@[simp] theorem State.setNow_line (v : Nat) : (s.setNow v).line = s.line := rfl
@[simp] theorem State.setNow_lockout (v : Nat) : (s.setNow v).lockout = s.lockout := rfl
@[simp] theorem State.setNow_alarms (v : Nat) : (s.setNow v).alarms = s.alarms := rfl
@[simp] theorem State.setNow_panel (v : Nat) : (s.setNow v).panel = s.panel := rfl
@[simp] theorem State.setNow_free (v : Nat) : (s.setNow v).free = s.free := rfl
@[simp] theorem State.setNow_pending (v : Nat) : (s.setNow v).pending = s.pending := rfl

@[simp] theorem State.setStation_now (v : Station) : (s.setStation v).now = s.now := rfl
@[simp] theorem State.setStation_station (v : Station) : (s.setStation v).station = v := rfl
@[simp] theorem State.setStation_pins (v : Station) : (s.setStation v).pins = s.pins := rfl
@[simp] theorem State.setStation_store (v : Station) : (s.setStation v).store = s.store := rfl
@[simp] theorem State.setStation_wind (v : Station) : (s.setStation v).wind = s.wind := rfl
@[simp] theorem State.setStation_forecast (v : Station) : (s.setStation v).forecast = s.forecast := rfl
@[simp] theorem State.setStation_face (v : Station) : (s.setStation v).face = s.face := rfl
@[simp] theorem State.setStation_look (v : Station) : (s.setStation v).look = s.look := rfl
@[simp] theorem State.setStation_queue (v : Station) : (s.setStation v).queue = s.queue := rfl
@[simp] theorem State.setStation_cannon (v : Station) : (s.setStation v).cannon = s.cannon := rfl
@[simp] theorem State.setStation_claim (v : Station) : (s.setStation v).claim = s.claim := rfl
@[simp] theorem State.setStation_account (v : Station) : (s.setStation v).account = s.account := rfl
@[simp] theorem State.setStation_dust (v : Station) : (s.setStation v).dust = s.dust := rfl
@[simp] theorem State.setStation_peers (v : Station) : (s.setStation v).peers = s.peers := rfl
@[simp] theorem State.setStation_line (v : Station) : (s.setStation v).line = s.line := rfl
@[simp] theorem State.setStation_lockout (v : Station) : (s.setStation v).lockout = s.lockout := rfl
@[simp] theorem State.setStation_alarms (v : Station) : (s.setStation v).alarms = s.alarms := rfl
@[simp] theorem State.setStation_panel (v : Station) : (s.setStation v).panel = s.panel := rfl
@[simp] theorem State.setStation_free (v : Station) : (s.setStation v).free = s.free := rfl
@[simp] theorem State.setStation_pending (v : Station) : (s.setStation v).pending = s.pending := rfl

@[simp] theorem State.setPins_now (v : Pins) : (s.setPins v).now = s.now := rfl
@[simp] theorem State.setPins_station (v : Pins) : (s.setPins v).station = s.station := rfl
@[simp] theorem State.setPins_pins (v : Pins) : (s.setPins v).pins = v := rfl
@[simp] theorem State.setPins_store (v : Pins) : (s.setPins v).store = s.store := rfl
@[simp] theorem State.setPins_wind (v : Pins) : (s.setPins v).wind = s.wind := rfl
@[simp] theorem State.setPins_forecast (v : Pins) : (s.setPins v).forecast = s.forecast := rfl
@[simp] theorem State.setPins_face (v : Pins) : (s.setPins v).face = s.face := rfl
@[simp] theorem State.setPins_look (v : Pins) : (s.setPins v).look = s.look := rfl
@[simp] theorem State.setPins_queue (v : Pins) : (s.setPins v).queue = s.queue := rfl
@[simp] theorem State.setPins_cannon (v : Pins) : (s.setPins v).cannon = s.cannon := rfl
@[simp] theorem State.setPins_claim (v : Pins) : (s.setPins v).claim = s.claim := rfl
@[simp] theorem State.setPins_account (v : Pins) : (s.setPins v).account = s.account := rfl
@[simp] theorem State.setPins_dust (v : Pins) : (s.setPins v).dust = s.dust := rfl
@[simp] theorem State.setPins_peers (v : Pins) : (s.setPins v).peers = s.peers := rfl
@[simp] theorem State.setPins_line (v : Pins) : (s.setPins v).line = s.line := rfl
@[simp] theorem State.setPins_lockout (v : Pins) : (s.setPins v).lockout = s.lockout := rfl
@[simp] theorem State.setPins_alarms (v : Pins) : (s.setPins v).alarms = s.alarms := rfl
@[simp] theorem State.setPins_panel (v : Pins) : (s.setPins v).panel = s.panel := rfl
@[simp] theorem State.setPins_free (v : Pins) : (s.setPins v).free = s.free := rfl
@[simp] theorem State.setPins_pending (v : Pins) : (s.setPins v).pending = s.pending := rfl

@[simp] theorem State.setStore_now (v : Store) : (s.setStore v).now = s.now := rfl
@[simp] theorem State.setStore_station (v : Store) : (s.setStore v).station = s.station := rfl
@[simp] theorem State.setStore_pins (v : Store) : (s.setStore v).pins = s.pins := rfl
@[simp] theorem State.setStore_store (v : Store) : (s.setStore v).store = v := rfl
@[simp] theorem State.setStore_wind (v : Store) : (s.setStore v).wind = s.wind := rfl
@[simp] theorem State.setStore_forecast (v : Store) : (s.setStore v).forecast = s.forecast := rfl
@[simp] theorem State.setStore_face (v : Store) : (s.setStore v).face = s.face := rfl
@[simp] theorem State.setStore_look (v : Store) : (s.setStore v).look = s.look := rfl
@[simp] theorem State.setStore_queue (v : Store) : (s.setStore v).queue = s.queue := rfl
@[simp] theorem State.setStore_cannon (v : Store) : (s.setStore v).cannon = s.cannon := rfl
@[simp] theorem State.setStore_claim (v : Store) : (s.setStore v).claim = s.claim := rfl
@[simp] theorem State.setStore_account (v : Store) : (s.setStore v).account = s.account := rfl
@[simp] theorem State.setStore_dust (v : Store) : (s.setStore v).dust = s.dust := rfl
@[simp] theorem State.setStore_peers (v : Store) : (s.setStore v).peers = s.peers := rfl
@[simp] theorem State.setStore_line (v : Store) : (s.setStore v).line = s.line := rfl
@[simp] theorem State.setStore_lockout (v : Store) : (s.setStore v).lockout = s.lockout := rfl
@[simp] theorem State.setStore_alarms (v : Store) : (s.setStore v).alarms = s.alarms := rfl
@[simp] theorem State.setStore_panel (v : Store) : (s.setStore v).panel = s.panel := rfl
@[simp] theorem State.setStore_free (v : Store) : (s.setStore v).free = s.free := rfl
@[simp] theorem State.setStore_pending (v : Store) : (s.setStore v).pending = s.pending := rfl

@[simp] theorem State.setWind_now (v : Wind) : (s.setWind v).now = s.now := rfl
@[simp] theorem State.setWind_station (v : Wind) : (s.setWind v).station = s.station := rfl
@[simp] theorem State.setWind_pins (v : Wind) : (s.setWind v).pins = s.pins := rfl
@[simp] theorem State.setWind_store (v : Wind) : (s.setWind v).store = s.store := rfl
@[simp] theorem State.setWind_wind (v : Wind) : (s.setWind v).wind = v := rfl
@[simp] theorem State.setWind_forecast (v : Wind) : (s.setWind v).forecast = s.forecast := rfl
@[simp] theorem State.setWind_face (v : Wind) : (s.setWind v).face = s.face := rfl
@[simp] theorem State.setWind_look (v : Wind) : (s.setWind v).look = s.look := rfl
@[simp] theorem State.setWind_queue (v : Wind) : (s.setWind v).queue = s.queue := rfl
@[simp] theorem State.setWind_cannon (v : Wind) : (s.setWind v).cannon = s.cannon := rfl
@[simp] theorem State.setWind_claim (v : Wind) : (s.setWind v).claim = s.claim := rfl
@[simp] theorem State.setWind_account (v : Wind) : (s.setWind v).account = s.account := rfl
@[simp] theorem State.setWind_dust (v : Wind) : (s.setWind v).dust = s.dust := rfl
@[simp] theorem State.setWind_peers (v : Wind) : (s.setWind v).peers = s.peers := rfl
@[simp] theorem State.setWind_line (v : Wind) : (s.setWind v).line = s.line := rfl
@[simp] theorem State.setWind_lockout (v : Wind) : (s.setWind v).lockout = s.lockout := rfl
@[simp] theorem State.setWind_alarms (v : Wind) : (s.setWind v).alarms = s.alarms := rfl
@[simp] theorem State.setWind_panel (v : Wind) : (s.setWind v).panel = s.panel := rfl
@[simp] theorem State.setWind_free (v : Wind) : (s.setWind v).free = s.free := rfl
@[simp] theorem State.setWind_pending (v : Wind) : (s.setWind v).pending = s.pending := rfl

@[simp] theorem State.setForecast_now (v : Forecast) : (s.setForecast v).now = s.now := rfl
@[simp] theorem State.setForecast_station (v : Forecast) : (s.setForecast v).station = s.station := rfl
@[simp] theorem State.setForecast_pins (v : Forecast) : (s.setForecast v).pins = s.pins := rfl
@[simp] theorem State.setForecast_store (v : Forecast) : (s.setForecast v).store = s.store := rfl
@[simp] theorem State.setForecast_wind (v : Forecast) : (s.setForecast v).wind = s.wind := rfl
@[simp] theorem State.setForecast_forecast (v : Forecast) : (s.setForecast v).forecast = v := rfl
@[simp] theorem State.setForecast_face (v : Forecast) : (s.setForecast v).face = s.face := rfl
@[simp] theorem State.setForecast_look (v : Forecast) : (s.setForecast v).look = s.look := rfl
@[simp] theorem State.setForecast_queue (v : Forecast) : (s.setForecast v).queue = s.queue := rfl
@[simp] theorem State.setForecast_cannon (v : Forecast) : (s.setForecast v).cannon = s.cannon := rfl
@[simp] theorem State.setForecast_claim (v : Forecast) : (s.setForecast v).claim = s.claim := rfl
@[simp] theorem State.setForecast_account (v : Forecast) : (s.setForecast v).account = s.account := rfl
@[simp] theorem State.setForecast_dust (v : Forecast) : (s.setForecast v).dust = s.dust := rfl
@[simp] theorem State.setForecast_peers (v : Forecast) : (s.setForecast v).peers = s.peers := rfl
@[simp] theorem State.setForecast_line (v : Forecast) : (s.setForecast v).line = s.line := rfl
@[simp] theorem State.setForecast_lockout (v : Forecast) : (s.setForecast v).lockout = s.lockout := rfl
@[simp] theorem State.setForecast_alarms (v : Forecast) : (s.setForecast v).alarms = s.alarms := rfl
@[simp] theorem State.setForecast_panel (v : Forecast) : (s.setForecast v).panel = s.panel := rfl
@[simp] theorem State.setForecast_free (v : Forecast) : (s.setForecast v).free = s.free := rfl
@[simp] theorem State.setForecast_pending (v : Forecast) : (s.setForecast v).pending = s.pending := rfl

@[simp] theorem State.setFace_now (v : FaceUnit) : (s.setFace v).now = s.now := rfl
@[simp] theorem State.setFace_station (v : FaceUnit) : (s.setFace v).station = s.station := rfl
@[simp] theorem State.setFace_pins (v : FaceUnit) : (s.setFace v).pins = s.pins := rfl
@[simp] theorem State.setFace_store (v : FaceUnit) : (s.setFace v).store = s.store := rfl
@[simp] theorem State.setFace_wind (v : FaceUnit) : (s.setFace v).wind = s.wind := rfl
@[simp] theorem State.setFace_forecast (v : FaceUnit) : (s.setFace v).forecast = s.forecast := rfl
@[simp] theorem State.setFace_face (v : FaceUnit) : (s.setFace v).face = v := rfl
@[simp] theorem State.setFace_look (v : FaceUnit) : (s.setFace v).look = s.look := rfl
@[simp] theorem State.setFace_queue (v : FaceUnit) : (s.setFace v).queue = s.queue := rfl
@[simp] theorem State.setFace_cannon (v : FaceUnit) : (s.setFace v).cannon = s.cannon := rfl
@[simp] theorem State.setFace_claim (v : FaceUnit) : (s.setFace v).claim = s.claim := rfl
@[simp] theorem State.setFace_account (v : FaceUnit) : (s.setFace v).account = s.account := rfl
@[simp] theorem State.setFace_dust (v : FaceUnit) : (s.setFace v).dust = s.dust := rfl
@[simp] theorem State.setFace_peers (v : FaceUnit) : (s.setFace v).peers = s.peers := rfl
@[simp] theorem State.setFace_line (v : FaceUnit) : (s.setFace v).line = s.line := rfl
@[simp] theorem State.setFace_lockout (v : FaceUnit) : (s.setFace v).lockout = s.lockout := rfl
@[simp] theorem State.setFace_alarms (v : FaceUnit) : (s.setFace v).alarms = s.alarms := rfl
@[simp] theorem State.setFace_panel (v : FaceUnit) : (s.setFace v).panel = s.panel := rfl
@[simp] theorem State.setFace_free (v : FaceUnit) : (s.setFace v).free = s.free := rfl
@[simp] theorem State.setFace_pending (v : FaceUnit) : (s.setFace v).pending = s.pending := rfl

@[simp] theorem State.setLook_now (v : PerFace (Option Summary)) : (s.setLook v).now = s.now := rfl
@[simp] theorem State.setLook_station (v : PerFace (Option Summary)) : (s.setLook v).station = s.station := rfl
@[simp] theorem State.setLook_pins (v : PerFace (Option Summary)) : (s.setLook v).pins = s.pins := rfl
@[simp] theorem State.setLook_store (v : PerFace (Option Summary)) : (s.setLook v).store = s.store := rfl
@[simp] theorem State.setLook_wind (v : PerFace (Option Summary)) : (s.setLook v).wind = s.wind := rfl
@[simp] theorem State.setLook_forecast (v : PerFace (Option Summary)) : (s.setLook v).forecast = s.forecast := rfl
@[simp] theorem State.setLook_face (v : PerFace (Option Summary)) : (s.setLook v).face = s.face := rfl
@[simp] theorem State.setLook_look (v : PerFace (Option Summary)) : (s.setLook v).look = v := rfl
@[simp] theorem State.setLook_queue (v : PerFace (Option Summary)) : (s.setLook v).queue = s.queue := rfl
@[simp] theorem State.setLook_cannon (v : PerFace (Option Summary)) : (s.setLook v).cannon = s.cannon := rfl
@[simp] theorem State.setLook_claim (v : PerFace (Option Summary)) : (s.setLook v).claim = s.claim := rfl
@[simp] theorem State.setLook_account (v : PerFace (Option Summary)) : (s.setLook v).account = s.account := rfl
@[simp] theorem State.setLook_dust (v : PerFace (Option Summary)) : (s.setLook v).dust = s.dust := rfl
@[simp] theorem State.setLook_peers (v : PerFace (Option Summary)) : (s.setLook v).peers = s.peers := rfl
@[simp] theorem State.setLook_line (v : PerFace (Option Summary)) : (s.setLook v).line = s.line := rfl
@[simp] theorem State.setLook_lockout (v : PerFace (Option Summary)) : (s.setLook v).lockout = s.lockout := rfl
@[simp] theorem State.setLook_alarms (v : PerFace (Option Summary)) : (s.setLook v).alarms = s.alarms := rfl
@[simp] theorem State.setLook_panel (v : PerFace (Option Summary)) : (s.setLook v).panel = s.panel := rfl
@[simp] theorem State.setLook_free (v : PerFace (Option Summary)) : (s.setLook v).free = s.free := rfl
@[simp] theorem State.setLook_pending (v : PerFace (Option Summary)) : (s.setLook v).pending = s.pending := rfl

@[simp] theorem State.setQueue_now (v : SprayQueue) : (s.setQueue v).now = s.now := rfl
@[simp] theorem State.setQueue_station (v : SprayQueue) : (s.setQueue v).station = s.station := rfl
@[simp] theorem State.setQueue_pins (v : SprayQueue) : (s.setQueue v).pins = s.pins := rfl
@[simp] theorem State.setQueue_store (v : SprayQueue) : (s.setQueue v).store = s.store := rfl
@[simp] theorem State.setQueue_wind (v : SprayQueue) : (s.setQueue v).wind = s.wind := rfl
@[simp] theorem State.setQueue_forecast (v : SprayQueue) : (s.setQueue v).forecast = s.forecast := rfl
@[simp] theorem State.setQueue_face (v : SprayQueue) : (s.setQueue v).face = s.face := rfl
@[simp] theorem State.setQueue_look (v : SprayQueue) : (s.setQueue v).look = s.look := rfl
@[simp] theorem State.setQueue_queue (v : SprayQueue) : (s.setQueue v).queue = v := rfl
@[simp] theorem State.setQueue_cannon (v : SprayQueue) : (s.setQueue v).cannon = s.cannon := rfl
@[simp] theorem State.setQueue_claim (v : SprayQueue) : (s.setQueue v).claim = s.claim := rfl
@[simp] theorem State.setQueue_account (v : SprayQueue) : (s.setQueue v).account = s.account := rfl
@[simp] theorem State.setQueue_dust (v : SprayQueue) : (s.setQueue v).dust = s.dust := rfl
@[simp] theorem State.setQueue_peers (v : SprayQueue) : (s.setQueue v).peers = s.peers := rfl
@[simp] theorem State.setQueue_line (v : SprayQueue) : (s.setQueue v).line = s.line := rfl
@[simp] theorem State.setQueue_lockout (v : SprayQueue) : (s.setQueue v).lockout = s.lockout := rfl
@[simp] theorem State.setQueue_alarms (v : SprayQueue) : (s.setQueue v).alarms = s.alarms := rfl
@[simp] theorem State.setQueue_panel (v : SprayQueue) : (s.setQueue v).panel = s.panel := rfl
@[simp] theorem State.setQueue_free (v : SprayQueue) : (s.setQueue v).free = s.free := rfl
@[simp] theorem State.setQueue_pending (v : SprayQueue) : (s.setQueue v).pending = s.pending := rfl

@[simp] theorem State.setCannon_now (v : Cannon) : (s.setCannon v).now = s.now := rfl
@[simp] theorem State.setCannon_station (v : Cannon) : (s.setCannon v).station = s.station := rfl
@[simp] theorem State.setCannon_pins (v : Cannon) : (s.setCannon v).pins = s.pins := rfl
@[simp] theorem State.setCannon_store (v : Cannon) : (s.setCannon v).store = s.store := rfl
@[simp] theorem State.setCannon_wind (v : Cannon) : (s.setCannon v).wind = s.wind := rfl
@[simp] theorem State.setCannon_forecast (v : Cannon) : (s.setCannon v).forecast = s.forecast := rfl
@[simp] theorem State.setCannon_face (v : Cannon) : (s.setCannon v).face = s.face := rfl
@[simp] theorem State.setCannon_look (v : Cannon) : (s.setCannon v).look = s.look := rfl
@[simp] theorem State.setCannon_queue (v : Cannon) : (s.setCannon v).queue = s.queue := rfl
@[simp] theorem State.setCannon_cannon (v : Cannon) : (s.setCannon v).cannon = v := rfl
@[simp] theorem State.setCannon_claim (v : Cannon) : (s.setCannon v).claim = s.claim := rfl
@[simp] theorem State.setCannon_account (v : Cannon) : (s.setCannon v).account = s.account := rfl
@[simp] theorem State.setCannon_dust (v : Cannon) : (s.setCannon v).dust = s.dust := rfl
@[simp] theorem State.setCannon_peers (v : Cannon) : (s.setCannon v).peers = s.peers := rfl
@[simp] theorem State.setCannon_line (v : Cannon) : (s.setCannon v).line = s.line := rfl
@[simp] theorem State.setCannon_lockout (v : Cannon) : (s.setCannon v).lockout = s.lockout := rfl
@[simp] theorem State.setCannon_alarms (v : Cannon) : (s.setCannon v).alarms = s.alarms := rfl
@[simp] theorem State.setCannon_panel (v : Cannon) : (s.setCannon v).panel = s.panel := rfl
@[simp] theorem State.setCannon_free (v : Cannon) : (s.setCannon v).free = s.free := rfl
@[simp] theorem State.setCannon_pending (v : Cannon) : (s.setCannon v).pending = s.pending := rfl

@[simp] theorem State.setClaim_now (v : ClaimUnit) : (s.setClaim v).now = s.now := rfl
@[simp] theorem State.setClaim_station (v : ClaimUnit) : (s.setClaim v).station = s.station := rfl
@[simp] theorem State.setClaim_pins (v : ClaimUnit) : (s.setClaim v).pins = s.pins := rfl
@[simp] theorem State.setClaim_store (v : ClaimUnit) : (s.setClaim v).store = s.store := rfl
@[simp] theorem State.setClaim_wind (v : ClaimUnit) : (s.setClaim v).wind = s.wind := rfl
@[simp] theorem State.setClaim_forecast (v : ClaimUnit) : (s.setClaim v).forecast = s.forecast := rfl
@[simp] theorem State.setClaim_face (v : ClaimUnit) : (s.setClaim v).face = s.face := rfl
@[simp] theorem State.setClaim_look (v : ClaimUnit) : (s.setClaim v).look = s.look := rfl
@[simp] theorem State.setClaim_queue (v : ClaimUnit) : (s.setClaim v).queue = s.queue := rfl
@[simp] theorem State.setClaim_cannon (v : ClaimUnit) : (s.setClaim v).cannon = s.cannon := rfl
@[simp] theorem State.setClaim_claim (v : ClaimUnit) : (s.setClaim v).claim = v := rfl
@[simp] theorem State.setClaim_account (v : ClaimUnit) : (s.setClaim v).account = s.account := rfl
@[simp] theorem State.setClaim_dust (v : ClaimUnit) : (s.setClaim v).dust = s.dust := rfl
@[simp] theorem State.setClaim_peers (v : ClaimUnit) : (s.setClaim v).peers = s.peers := rfl
@[simp] theorem State.setClaim_line (v : ClaimUnit) : (s.setClaim v).line = s.line := rfl
@[simp] theorem State.setClaim_lockout (v : ClaimUnit) : (s.setClaim v).lockout = s.lockout := rfl
@[simp] theorem State.setClaim_alarms (v : ClaimUnit) : (s.setClaim v).alarms = s.alarms := rfl
@[simp] theorem State.setClaim_panel (v : ClaimUnit) : (s.setClaim v).panel = s.panel := rfl
@[simp] theorem State.setClaim_free (v : ClaimUnit) : (s.setClaim v).free = s.free := rfl
@[simp] theorem State.setClaim_pending (v : ClaimUnit) : (s.setClaim v).pending = s.pending := rfl

@[simp] theorem State.setAccount_now (v : Account) : (s.setAccount v).now = s.now := rfl
@[simp] theorem State.setAccount_station (v : Account) : (s.setAccount v).station = s.station := rfl
@[simp] theorem State.setAccount_pins (v : Account) : (s.setAccount v).pins = s.pins := rfl
@[simp] theorem State.setAccount_store (v : Account) : (s.setAccount v).store = s.store := rfl
@[simp] theorem State.setAccount_wind (v : Account) : (s.setAccount v).wind = s.wind := rfl
@[simp] theorem State.setAccount_forecast (v : Account) : (s.setAccount v).forecast = s.forecast := rfl
@[simp] theorem State.setAccount_face (v : Account) : (s.setAccount v).face = s.face := rfl
@[simp] theorem State.setAccount_look (v : Account) : (s.setAccount v).look = s.look := rfl
@[simp] theorem State.setAccount_queue (v : Account) : (s.setAccount v).queue = s.queue := rfl
@[simp] theorem State.setAccount_cannon (v : Account) : (s.setAccount v).cannon = s.cannon := rfl
@[simp] theorem State.setAccount_claim (v : Account) : (s.setAccount v).claim = s.claim := rfl
@[simp] theorem State.setAccount_account (v : Account) : (s.setAccount v).account = v := rfl
@[simp] theorem State.setAccount_dust (v : Account) : (s.setAccount v).dust = s.dust := rfl
@[simp] theorem State.setAccount_peers (v : Account) : (s.setAccount v).peers = s.peers := rfl
@[simp] theorem State.setAccount_line (v : Account) : (s.setAccount v).line = s.line := rfl
@[simp] theorem State.setAccount_lockout (v : Account) : (s.setAccount v).lockout = s.lockout := rfl
@[simp] theorem State.setAccount_alarms (v : Account) : (s.setAccount v).alarms = s.alarms := rfl
@[simp] theorem State.setAccount_panel (v : Account) : (s.setAccount v).panel = s.panel := rfl
@[simp] theorem State.setAccount_free (v : Account) : (s.setAccount v).free = s.free := rfl
@[simp] theorem State.setAccount_pending (v : Account) : (s.setAccount v).pending = s.pending := rfl

@[simp] theorem State.setDust_now (v : Dust) : (s.setDust v).now = s.now := rfl
@[simp] theorem State.setDust_station (v : Dust) : (s.setDust v).station = s.station := rfl
@[simp] theorem State.setDust_pins (v : Dust) : (s.setDust v).pins = s.pins := rfl
@[simp] theorem State.setDust_store (v : Dust) : (s.setDust v).store = s.store := rfl
@[simp] theorem State.setDust_wind (v : Dust) : (s.setDust v).wind = s.wind := rfl
@[simp] theorem State.setDust_forecast (v : Dust) : (s.setDust v).forecast = s.forecast := rfl
@[simp] theorem State.setDust_face (v : Dust) : (s.setDust v).face = s.face := rfl
@[simp] theorem State.setDust_look (v : Dust) : (s.setDust v).look = s.look := rfl
@[simp] theorem State.setDust_queue (v : Dust) : (s.setDust v).queue = s.queue := rfl
@[simp] theorem State.setDust_cannon (v : Dust) : (s.setDust v).cannon = s.cannon := rfl
@[simp] theorem State.setDust_claim (v : Dust) : (s.setDust v).claim = s.claim := rfl
@[simp] theorem State.setDust_account (v : Dust) : (s.setDust v).account = s.account := rfl
@[simp] theorem State.setDust_dust (v : Dust) : (s.setDust v).dust = v := rfl
@[simp] theorem State.setDust_peers (v : Dust) : (s.setDust v).peers = s.peers := rfl
@[simp] theorem State.setDust_line (v : Dust) : (s.setDust v).line = s.line := rfl
@[simp] theorem State.setDust_lockout (v : Dust) : (s.setDust v).lockout = s.lockout := rfl
@[simp] theorem State.setDust_alarms (v : Dust) : (s.setDust v).alarms = s.alarms := rfl
@[simp] theorem State.setDust_panel (v : Dust) : (s.setDust v).panel = s.panel := rfl
@[simp] theorem State.setDust_free (v : Dust) : (s.setDust v).free = s.free := rfl
@[simp] theorem State.setDust_pending (v : Dust) : (s.setDust v).pending = s.pending := rfl

@[simp] theorem State.setPeers_now (v : PeerMap) : (s.setPeers v).now = s.now := rfl
@[simp] theorem State.setPeers_station (v : PeerMap) : (s.setPeers v).station = s.station := rfl
@[simp] theorem State.setPeers_pins (v : PeerMap) : (s.setPeers v).pins = s.pins := rfl
@[simp] theorem State.setPeers_store (v : PeerMap) : (s.setPeers v).store = s.store := rfl
@[simp] theorem State.setPeers_wind (v : PeerMap) : (s.setPeers v).wind = s.wind := rfl
@[simp] theorem State.setPeers_forecast (v : PeerMap) : (s.setPeers v).forecast = s.forecast := rfl
@[simp] theorem State.setPeers_face (v : PeerMap) : (s.setPeers v).face = s.face := rfl
@[simp] theorem State.setPeers_look (v : PeerMap) : (s.setPeers v).look = s.look := rfl
@[simp] theorem State.setPeers_queue (v : PeerMap) : (s.setPeers v).queue = s.queue := rfl
@[simp] theorem State.setPeers_cannon (v : PeerMap) : (s.setPeers v).cannon = s.cannon := rfl
@[simp] theorem State.setPeers_claim (v : PeerMap) : (s.setPeers v).claim = s.claim := rfl
@[simp] theorem State.setPeers_account (v : PeerMap) : (s.setPeers v).account = s.account := rfl
@[simp] theorem State.setPeers_dust (v : PeerMap) : (s.setPeers v).dust = s.dust := rfl
@[simp] theorem State.setPeers_peers (v : PeerMap) : (s.setPeers v).peers = v := rfl
@[simp] theorem State.setPeers_line (v : PeerMap) : (s.setPeers v).line = s.line := rfl
@[simp] theorem State.setPeers_lockout (v : PeerMap) : (s.setPeers v).lockout = s.lockout := rfl
@[simp] theorem State.setPeers_alarms (v : PeerMap) : (s.setPeers v).alarms = s.alarms := rfl
@[simp] theorem State.setPeers_panel (v : PeerMap) : (s.setPeers v).panel = s.panel := rfl
@[simp] theorem State.setPeers_free (v : PeerMap) : (s.setPeers v).free = s.free := rfl
@[simp] theorem State.setPeers_pending (v : PeerMap) : (s.setPeers v).pending = s.pending := rfl

@[simp] theorem State.setLine_now (v : Line) : (s.setLine v).now = s.now := rfl
@[simp] theorem State.setLine_station (v : Line) : (s.setLine v).station = s.station := rfl
@[simp] theorem State.setLine_pins (v : Line) : (s.setLine v).pins = s.pins := rfl
@[simp] theorem State.setLine_store (v : Line) : (s.setLine v).store = s.store := rfl
@[simp] theorem State.setLine_wind (v : Line) : (s.setLine v).wind = s.wind := rfl
@[simp] theorem State.setLine_forecast (v : Line) : (s.setLine v).forecast = s.forecast := rfl
@[simp] theorem State.setLine_face (v : Line) : (s.setLine v).face = s.face := rfl
@[simp] theorem State.setLine_look (v : Line) : (s.setLine v).look = s.look := rfl
@[simp] theorem State.setLine_queue (v : Line) : (s.setLine v).queue = s.queue := rfl
@[simp] theorem State.setLine_cannon (v : Line) : (s.setLine v).cannon = s.cannon := rfl
@[simp] theorem State.setLine_claim (v : Line) : (s.setLine v).claim = s.claim := rfl
@[simp] theorem State.setLine_account (v : Line) : (s.setLine v).account = s.account := rfl
@[simp] theorem State.setLine_dust (v : Line) : (s.setLine v).dust = s.dust := rfl
@[simp] theorem State.setLine_peers (v : Line) : (s.setLine v).peers = s.peers := rfl
@[simp] theorem State.setLine_line (v : Line) : (s.setLine v).line = v := rfl
@[simp] theorem State.setLine_lockout (v : Line) : (s.setLine v).lockout = s.lockout := rfl
@[simp] theorem State.setLine_alarms (v : Line) : (s.setLine v).alarms = s.alarms := rfl
@[simp] theorem State.setLine_panel (v : Line) : (s.setLine v).panel = s.panel := rfl
@[simp] theorem State.setLine_free (v : Line) : (s.setLine v).free = s.free := rfl
@[simp] theorem State.setLine_pending (v : Line) : (s.setLine v).pending = s.pending := rfl

@[simp] theorem State.setLockout_now (v : Lockout) : (s.setLockout v).now = s.now := rfl
@[simp] theorem State.setLockout_station (v : Lockout) : (s.setLockout v).station = s.station := rfl
@[simp] theorem State.setLockout_pins (v : Lockout) : (s.setLockout v).pins = s.pins := rfl
@[simp] theorem State.setLockout_store (v : Lockout) : (s.setLockout v).store = s.store := rfl
@[simp] theorem State.setLockout_wind (v : Lockout) : (s.setLockout v).wind = s.wind := rfl
@[simp] theorem State.setLockout_forecast (v : Lockout) : (s.setLockout v).forecast = s.forecast := rfl
@[simp] theorem State.setLockout_face (v : Lockout) : (s.setLockout v).face = s.face := rfl
@[simp] theorem State.setLockout_look (v : Lockout) : (s.setLockout v).look = s.look := rfl
@[simp] theorem State.setLockout_queue (v : Lockout) : (s.setLockout v).queue = s.queue := rfl
@[simp] theorem State.setLockout_cannon (v : Lockout) : (s.setLockout v).cannon = s.cannon := rfl
@[simp] theorem State.setLockout_claim (v : Lockout) : (s.setLockout v).claim = s.claim := rfl
@[simp] theorem State.setLockout_account (v : Lockout) : (s.setLockout v).account = s.account := rfl
@[simp] theorem State.setLockout_dust (v : Lockout) : (s.setLockout v).dust = s.dust := rfl
@[simp] theorem State.setLockout_peers (v : Lockout) : (s.setLockout v).peers = s.peers := rfl
@[simp] theorem State.setLockout_line (v : Lockout) : (s.setLockout v).line = s.line := rfl
@[simp] theorem State.setLockout_lockout (v : Lockout) : (s.setLockout v).lockout = v := rfl
@[simp] theorem State.setLockout_alarms (v : Lockout) : (s.setLockout v).alarms = s.alarms := rfl
@[simp] theorem State.setLockout_panel (v : Lockout) : (s.setLockout v).panel = s.panel := rfl
@[simp] theorem State.setLockout_free (v : Lockout) : (s.setLockout v).free = s.free := rfl
@[simp] theorem State.setLockout_pending (v : Lockout) : (s.setLockout v).pending = s.pending := rfl

@[simp] theorem State.setAlarms_now (v : Alarms) : (s.setAlarms v).now = s.now := rfl
@[simp] theorem State.setAlarms_station (v : Alarms) : (s.setAlarms v).station = s.station := rfl
@[simp] theorem State.setAlarms_pins (v : Alarms) : (s.setAlarms v).pins = s.pins := rfl
@[simp] theorem State.setAlarms_store (v : Alarms) : (s.setAlarms v).store = s.store := rfl
@[simp] theorem State.setAlarms_wind (v : Alarms) : (s.setAlarms v).wind = s.wind := rfl
@[simp] theorem State.setAlarms_forecast (v : Alarms) : (s.setAlarms v).forecast = s.forecast := rfl
@[simp] theorem State.setAlarms_face (v : Alarms) : (s.setAlarms v).face = s.face := rfl
@[simp] theorem State.setAlarms_look (v : Alarms) : (s.setAlarms v).look = s.look := rfl
@[simp] theorem State.setAlarms_queue (v : Alarms) : (s.setAlarms v).queue = s.queue := rfl
@[simp] theorem State.setAlarms_cannon (v : Alarms) : (s.setAlarms v).cannon = s.cannon := rfl
@[simp] theorem State.setAlarms_claim (v : Alarms) : (s.setAlarms v).claim = s.claim := rfl
@[simp] theorem State.setAlarms_account (v : Alarms) : (s.setAlarms v).account = s.account := rfl
@[simp] theorem State.setAlarms_dust (v : Alarms) : (s.setAlarms v).dust = s.dust := rfl
@[simp] theorem State.setAlarms_peers (v : Alarms) : (s.setAlarms v).peers = s.peers := rfl
@[simp] theorem State.setAlarms_line (v : Alarms) : (s.setAlarms v).line = s.line := rfl
@[simp] theorem State.setAlarms_lockout (v : Alarms) : (s.setAlarms v).lockout = s.lockout := rfl
@[simp] theorem State.setAlarms_alarms (v : Alarms) : (s.setAlarms v).alarms = v := rfl
@[simp] theorem State.setAlarms_panel (v : Alarms) : (s.setAlarms v).panel = s.panel := rfl
@[simp] theorem State.setAlarms_free (v : Alarms) : (s.setAlarms v).free = s.free := rfl
@[simp] theorem State.setAlarms_pending (v : Alarms) : (s.setAlarms v).pending = s.pending := rfl

@[simp] theorem State.setPanel_now (v : Panel) : (s.setPanel v).now = s.now := rfl
@[simp] theorem State.setPanel_station (v : Panel) : (s.setPanel v).station = s.station := rfl
@[simp] theorem State.setPanel_pins (v : Panel) : (s.setPanel v).pins = s.pins := rfl
@[simp] theorem State.setPanel_store (v : Panel) : (s.setPanel v).store = s.store := rfl
@[simp] theorem State.setPanel_wind (v : Panel) : (s.setPanel v).wind = s.wind := rfl
@[simp] theorem State.setPanel_forecast (v : Panel) : (s.setPanel v).forecast = s.forecast := rfl
@[simp] theorem State.setPanel_face (v : Panel) : (s.setPanel v).face = s.face := rfl
@[simp] theorem State.setPanel_look (v : Panel) : (s.setPanel v).look = s.look := rfl
@[simp] theorem State.setPanel_queue (v : Panel) : (s.setPanel v).queue = s.queue := rfl
@[simp] theorem State.setPanel_cannon (v : Panel) : (s.setPanel v).cannon = s.cannon := rfl
@[simp] theorem State.setPanel_claim (v : Panel) : (s.setPanel v).claim = s.claim := rfl
@[simp] theorem State.setPanel_account (v : Panel) : (s.setPanel v).account = s.account := rfl
@[simp] theorem State.setPanel_dust (v : Panel) : (s.setPanel v).dust = s.dust := rfl
@[simp] theorem State.setPanel_peers (v : Panel) : (s.setPanel v).peers = s.peers := rfl
@[simp] theorem State.setPanel_line (v : Panel) : (s.setPanel v).line = s.line := rfl
@[simp] theorem State.setPanel_lockout (v : Panel) : (s.setPanel v).lockout = s.lockout := rfl
@[simp] theorem State.setPanel_alarms (v : Panel) : (s.setPanel v).alarms = s.alarms := rfl
@[simp] theorem State.setPanel_panel (v : Panel) : (s.setPanel v).panel = v := rfl
@[simp] theorem State.setPanel_free (v : Panel) : (s.setPanel v).free = s.free := rfl
@[simp] theorem State.setPanel_pending (v : Panel) : (s.setPanel v).pending = s.pending := rfl

@[simp] theorem State.setFree_now (v : Nat) : (s.setFree v).now = s.now := rfl
@[simp] theorem State.setFree_station (v : Nat) : (s.setFree v).station = s.station := rfl
@[simp] theorem State.setFree_pins (v : Nat) : (s.setFree v).pins = s.pins := rfl
@[simp] theorem State.setFree_store (v : Nat) : (s.setFree v).store = s.store := rfl
@[simp] theorem State.setFree_wind (v : Nat) : (s.setFree v).wind = s.wind := rfl
@[simp] theorem State.setFree_forecast (v : Nat) : (s.setFree v).forecast = s.forecast := rfl
@[simp] theorem State.setFree_face (v : Nat) : (s.setFree v).face = s.face := rfl
@[simp] theorem State.setFree_look (v : Nat) : (s.setFree v).look = s.look := rfl
@[simp] theorem State.setFree_queue (v : Nat) : (s.setFree v).queue = s.queue := rfl
@[simp] theorem State.setFree_cannon (v : Nat) : (s.setFree v).cannon = s.cannon := rfl
@[simp] theorem State.setFree_claim (v : Nat) : (s.setFree v).claim = s.claim := rfl
@[simp] theorem State.setFree_account (v : Nat) : (s.setFree v).account = s.account := rfl
@[simp] theorem State.setFree_dust (v : Nat) : (s.setFree v).dust = s.dust := rfl
@[simp] theorem State.setFree_peers (v : Nat) : (s.setFree v).peers = s.peers := rfl
@[simp] theorem State.setFree_line (v : Nat) : (s.setFree v).line = s.line := rfl
@[simp] theorem State.setFree_lockout (v : Nat) : (s.setFree v).lockout = s.lockout := rfl
@[simp] theorem State.setFree_alarms (v : Nat) : (s.setFree v).alarms = s.alarms := rfl
@[simp] theorem State.setFree_panel (v : Nat) : (s.setFree v).panel = s.panel := rfl
@[simp] theorem State.setFree_free (v : Nat) : (s.setFree v).free = v := rfl
@[simp] theorem State.setFree_pending (v : Nat) : (s.setFree v).pending = s.pending := rfl

@[simp] theorem State.setPending_now (v : List Instr) : (s.setPending v).now = s.now := rfl
@[simp] theorem State.setPending_station (v : List Instr) : (s.setPending v).station = s.station := rfl
@[simp] theorem State.setPending_pins (v : List Instr) : (s.setPending v).pins = s.pins := rfl
@[simp] theorem State.setPending_store (v : List Instr) : (s.setPending v).store = s.store := rfl
@[simp] theorem State.setPending_wind (v : List Instr) : (s.setPending v).wind = s.wind := rfl
@[simp] theorem State.setPending_forecast (v : List Instr) : (s.setPending v).forecast = s.forecast := rfl
@[simp] theorem State.setPending_face (v : List Instr) : (s.setPending v).face = s.face := rfl
@[simp] theorem State.setPending_look (v : List Instr) : (s.setPending v).look = s.look := rfl
@[simp] theorem State.setPending_queue (v : List Instr) : (s.setPending v).queue = s.queue := rfl
@[simp] theorem State.setPending_cannon (v : List Instr) : (s.setPending v).cannon = s.cannon := rfl
@[simp] theorem State.setPending_claim (v : List Instr) : (s.setPending v).claim = s.claim := rfl
@[simp] theorem State.setPending_account (v : List Instr) : (s.setPending v).account = s.account := rfl
@[simp] theorem State.setPending_dust (v : List Instr) : (s.setPending v).dust = s.dust := rfl
@[simp] theorem State.setPending_peers (v : List Instr) : (s.setPending v).peers = s.peers := rfl
@[simp] theorem State.setPending_line (v : List Instr) : (s.setPending v).line = s.line := rfl
@[simp] theorem State.setPending_lockout (v : List Instr) : (s.setPending v).lockout = s.lockout := rfl
@[simp] theorem State.setPending_alarms (v : List Instr) : (s.setPending v).alarms = s.alarms := rfl
@[simp] theorem State.setPending_panel (v : List Instr) : (s.setPending v).panel = s.panel := rfl
@[simp] theorem State.setPending_free (v : List Instr) : (s.setPending v).free = s.free := rfl
@[simp] theorem State.setPending_pending (v : List Instr) : (s.setPending v).pending = v := rfl

end Sys2Proof.Machine
end

