-- ==== Sys2Proof/Laws/Frames.lean ====
section
/-! SUPPORT. What each shared operation may change: one frame lemma per operation, cited in place of its unfolding. -/

namespace Sys2Proof.Machine

/-! ### The calculus of frames -/

theorem only_refl (fs : List Field) (s : State) : onlyChanges fs s s := by
  intro f _; cases f <;> rfl

theorem only_trans {fs : List Field} {s t u : State} (h : onlyChanges fs s t) (k : onlyChanges fs t u) :
    onlyChanges fs s u := by
  intro f hf
  have h1 := h f hf
  have h2 := k f hf
  cases f <;> exact Eq.trans h2 h1

theorem only_mono {fs gs : List Field} {s t : State} (h : onlyChanges fs s t) (hs : ∀ f ∈ fs, f ∈ gs) :
    onlyChanges gs s t := fun f hf => h f fun hm => hf (hs f hm)

theorem only_ite {fs : List Field} {s t u : State} {p : Prop} [Decidable p] (ht : onlyChanges fs s t)
    (hu : onlyChanges fs s u) : onlyChanges fs s (if p then t else u) := by
  split <;> assumption

theorem only_foldl {α : Type} {fs : List Field} {g : State → α → State} (h : ∀ s a, onlyChanges fs s (g s a))
    (l : List α) (s : State) : onlyChanges fs s (l.foldl g s) := by
  induction l generalizing s with
  | nil => exact only_refl fs s
  | cons a l ih => exact only_trans (h s a) (ih (g s a))

/-! ### The setters -/

theorem setNow_only (s : State) (v : Nat) : onlyChanges [.now] s (s.setNow v) := by
  intro f hf; cases f <;> first | rfl | exact absurd (by decide) hf

theorem setStation_only (s : State) (v : Station) : onlyChanges [.station] s (s.setStation v) := by
  intro f hf; cases f <;> first | rfl | exact absurd (by decide) hf

theorem setPins_only (s : State) (v : Pins) : onlyChanges [.pins] s (s.setPins v) := by
  intro f hf; cases f <;> first | rfl | exact absurd (by decide) hf

theorem setStore_only (s : State) (v : Store) : onlyChanges [.store] s (s.setStore v) := by
  intro f hf; cases f <;> first | rfl | exact absurd (by decide) hf

theorem setWind_only (s : State) (v : Wind) : onlyChanges [.wind] s (s.setWind v) := by
  intro f hf; cases f <;> first | rfl | exact absurd (by decide) hf

theorem setForecast_only (s : State) (v : Forecast) : onlyChanges [.forecast] s (s.setForecast v) := by
  intro f hf; cases f <;> first | rfl | exact absurd (by decide) hf

theorem setFace_only (s : State) (v : FaceUnit) : onlyChanges [.face] s (s.setFace v) := by
  intro f hf; cases f <;> first | rfl | exact absurd (by decide) hf

theorem setLook_only (s : State) (v : PerFace (Option Summary)) : onlyChanges [.look] s (s.setLook v) := by
  intro f hf; cases f <;> first | rfl | exact absurd (by decide) hf

theorem setQueue_only (s : State) (v : SprayQueue) : onlyChanges [.queue] s (s.setQueue v) := by
  intro f hf; cases f <;> first | rfl | exact absurd (by decide) hf

theorem setCannon_only (s : State) (v : Cannon) : onlyChanges [.cannon] s (s.setCannon v) := by
  intro f hf; cases f <;> first | rfl | exact absurd (by decide) hf

theorem setClaim_only (s : State) (v : ClaimUnit) : onlyChanges [.claim] s (s.setClaim v) := by
  intro f hf; cases f <;> first | rfl | exact absurd (by decide) hf

theorem setAccount_only (s : State) (v : Account) : onlyChanges [.account] s (s.setAccount v) := by
  intro f hf; cases f <;> first | rfl | exact absurd (by decide) hf

theorem setDust_only (s : State) (v : Dust) : onlyChanges [.dust] s (s.setDust v) := by
  intro f hf; cases f <;> first | rfl | exact absurd (by decide) hf

theorem setPeers_only (s : State) (v : PeerMap) : onlyChanges [.peers] s (s.setPeers v) := by
  intro f hf; cases f <;> first | rfl | exact absurd (by decide) hf

theorem setLine_only (s : State) (v : Line) : onlyChanges [.line] s (s.setLine v) := by
  intro f hf; cases f <;> first | rfl | exact absurd (by decide) hf

theorem setLockout_only (s : State) (v : Lockout) : onlyChanges [.lockout] s (s.setLockout v) := by
  intro f hf; cases f <;> first | rfl | exact absurd (by decide) hf

theorem setAlarms_only (s : State) (v : Alarms) : onlyChanges [.alarms] s (s.setAlarms v) := by
  intro f hf; cases f <;> first | rfl | exact absurd (by decide) hf

theorem setPanel_only (s : State) (v : Panel) : onlyChanges [.panel] s (s.setPanel v) := by
  intro f hf; cases f <;> first | rfl | exact absurd (by decide) hf

theorem setFree_only (s : State) (v : Nat) : onlyChanges [.free] s (s.setFree v) := by
  intro f hf; cases f <;> first | rfl | exact absurd (by decide) hf

theorem setPending_only (s : State) (v : List Instr) : onlyChanges [.pending] s (s.setPending v) := by
  intro f hf; cases f <;> first | rfl | exact absurd (by decide) hf

/-! ### The line and the close of an arrival -/

theorem syncAlarms_only (s : State) : onlyChanges [.alarms] s (syncAlarms s) := setAlarms_only s _

theorem lineOffer_only (c : Content) (s : State) : onlyChanges [.line] s (lineOffer c s).1 := by
  unfold lineOffer
  split
  · exact setLine_only s _
  · exact only_refl _ s

theorem offerStatus_only (s : State) : onlyChanges [.line] s (offerStatus s) := by
  unfold offerStatus
  exact only_ite (only_trans (lineOffer_only _ s) (setLine_only _ _))
    (only_trans (lineOffer_only _ s) (setLine_only _ _))

theorem closeStatus_only (s0 s : State) : onlyChanges [.line] s (closeStatus s0 s) := by
  unfold closeStatus
  refine only_ite ?_ (setLine_only s _)
  refine only_trans ?_ (setLine_only _ _)
  refine only_trans (t := if s.reportedItems = s0.reportedItems then s else statusOnChange s)
    (only_ite (only_refl _ s) ?_) ?_
  · unfold statusOnChange
    exact only_ite (setLine_only s _) (offerStatus_only s)
  · unfold statusRetry
    exact only_ite (offerStatus_only _) (only_refl _ _)

/-- The end of an arrival changes the alarm flags and the line alone. -/
theorem closeArrival_only (s0 s : State) : onlyChanges [.alarms, .line] s (closeArrival s0 s) :=
  only_trans (only_mono (syncAlarms_only s) (by decide)) (only_mono (closeStatus_only s0 _) (by decide))

/-- An arrival changes what its effect changes, the alarm flags and the line. -/
theorem arrival_only {fs : List Field} {effect : State → State} {s : State} (h : onlyChanges fs s (effect s))
    (ha : Field.alarms ∈ fs) (hl : Field.line ∈ fs) : onlyChanges fs s (arrival effect s) := by
  unfold arrival
  refine only_ite (only_refl _ s) (only_trans h (only_mono (closeArrival_only s _) ?_))
  intro f hf
  simp only [List.mem_cons, List.mem_nil_iff, or_false] at hf
  rcases hf with rfl | rfl <;> assumption

/-! ### The claim -/

theorem announceClaim_only (s : State) : onlyChanges [.claim, .line] s (announceClaim s) :=
  only_trans (only_mono (lineOffer_only _ s) (by decide)) (only_mono (setClaim_only _ _) (by decide))

theorem takeDecision_only (d : Decision) (s : State) : onlyChanges [.claim, .line] s (takeDecision d s) := by
  unfold takeDecision
  exact only_ite (only_mono (setClaim_only s _) (by decide))
    (only_trans (only_mono (setClaim_only s _) (by decide)) (announceClaim_only _))

theorem askClaim_only (c : DemandClass) (b : Nat) (s : State) : onlyChanges [.claim, .line] s (askClaim c b s) := by
  unfold askClaim
  exact only_ite (only_trans (only_mono (setClaim_only s _) (by decide)) (announceClaim_only _)) (only_refl _ s)

theorem withdrawClaim_only (s : State) : onlyChanges [.line] s (withdrawClaim s) := by
  unfold withdrawClaim
  exact only_ite (only_trans (setLine_only s _) (lineOffer_only _ _)) (setLine_only s _)

theorem releaseClaim_only (s : State) : onlyChanges [.claim, .line] s (releaseClaim s) := by
  unfold releaseClaim
  exact only_ite (only_refl _ s)
    (only_trans (only_mono (withdrawClaim_only s) (by decide)) (only_mono (setClaim_only _ _) (by decide)))

/-! ### The Spray Queue -/

theorem changeRecord_only (f : FaceId) (g : FaceRecord → FaceRecord) (s : State) :
    onlyChanges [.face] s (changeRecord f g s) := setFace_only s _

theorem recordPrewet_only (r : RemovalReason) (e : Entry) (s : State) :
    onlyChanges [.face, .alarms] s (recordPrewet r e s) := by
  unfold recordPrewet
  split
  · exact only_mono (changeRecord_only _ _ _) (by decide)
  · exact only_trans (only_mono (changeRecord_only _ _ _) (by decide)) (only_mono (setAlarms_only _ _) (by decide))
  · exact only_refl _ _

/-- The parts that a removal may change: the queue, the face's prewet result and the PREWET_MISSED flag. -/
theorem removeEntry_only (r : RemovalReason) (e : Entry) (s : State) :
    onlyChanges [.queue, .face, .alarms] s (removeEntry r e s) :=
  only_trans (only_mono (setQueue_only s _) (by decide)) (only_mono (recordPrewet_only r e _) (by decide))

theorem admitOffer_only (o : Offer) (s : State) : onlyChanges [.queue, .face, .alarms] s (admitOffer o s).1 := by
  unfold admitOffer
  split
  · exact only_refl _ s
  split
  · exact only_mono (setQueue_only s _) (by decide)
  split
  · exact only_mono (setQueue_only s _) (by decide)
  split
  · split
    · exact only_trans (removeEntry_only _ _ s) (only_mono (setQueue_only _ _) (by decide))
    · exact only_refl _ s
  · exact only_refl _ s

theorem passDeadline_only (e : Entry) (s : State) : onlyChanges [.queue, .face, .alarms] s (passDeadline e s) := by
  unfold passDeadline
  exact only_ite (only_mono (setQueue_only s _) (by decide)) (removeEntry_only _ _ s)

theorem passDeadlines_only (s : State) : onlyChanges [.queue, .face, .alarms] s (passDeadlines s) :=
  only_foldl (fun s e => passDeadline_only e s) _ s

theorem countAttempt_only (f : FaceId) (c : DemandClass) (s : State) :
    onlyChanges [.queue, .face, .alarms] s (countAttempt f c s) := by
  unfold countAttempt
  split
  · exact only_ite (only_trans (removeEntry_only _ _ s) (only_mono (setQueue_only _ _) (by decide)))
      (only_mono (setQueue_only s _) (by decide))
  · exact only_refl _ s

theorem dropReached_only (f : FaceId) (c : DemandClass) (s : State) :
    onlyChanges [.queue, .face, .alarms] s (dropReached f c s) := by
  unfold dropReached
  split
  · exact only_ite (removeEntry_only _ _ s) (only_refl _ s)
  · exact only_refl _ s

theorem reduceEntry_only (n : Nat) (s : State) (e : Entry) :
    onlyChanges [.queue, .face, .alarms, .free] s (reduceEntry n s e) := by
  unfold reduceEntry
  refine only_ite (only_ite ?_ ?_) (only_mono (setQueue_only s _) (by decide))
  · exact only_mono (removeEntry_only _ _ s) (by decide)
  · exact only_trans (only_mono (removeEntry_only _ _ s) (by decide)) (only_mono (setFree_only _ _) (by decide))

theorem completionReduction_only (f : FaceId) (c : DemandClass) (n : Nat) (s : State) :
    onlyChanges [.queue, .face, .alarms, .free] s (completionReduction f c n s) := by
  unfold completionReduction
  exact only_ite (only_refl _ s) (only_foldl (fun s e => reduceEntry_only n s e) _ s)

theorem endEntry_only (ch : Chain) (c : Cause) (s : State) :
    onlyChanges [.queue, .face, .alarms] s (endEntry ch c s) := by
  unfold endEntry
  split
  · refine only_trans (t := stopRunning ch.face ch.cls s) (only_mono (setQueue_only s _) (by decide)) ?_
    refine only_trans (only_ite (countAttempt_only _ _ _) (only_refl _ _)) (dropReached_only _ _ _)
  · exact only_refl _ s

theorem queueChainEnd_only (ch : Chain) (c : Cause) (s : State) :
    onlyChanges [.queue, .face, .alarms, .free] s (queueChainEnd ch c s) :=
  only_trans (only_mono (endEntry_only ch c s) (by decide))
    (only_trans (completionReduction_only _ _ _ _) (only_mono (setQueue_only _ _) (by decide)))

theorem chargeEntry_only (ch : Chain) (s : State) : onlyChanges [.queue, .face, .alarms] s (chargeEntry ch s) := by
  unfold chargeEntry
  split
  · exact only_ite (removeEntry_only _ _ s) (only_mono (setQueue_only s _) (by decide))
  · exact only_refl _ s

/-! ### The Cannon Controller -/

theorem onCannon_only (s : State) (g : Cannon → Cannon) : onlyChanges [.cannon] s (s.onCannon g) := setCannon_only s _

theorem setRequest_only (s : State) (b : Bool) : onlyChanges [.queue] s (s.setRequest b) := setQueue_only s _

@[simp] theorem Cannon.haltSegment_valveOpen (now : Nat) (c : Cannon) : (c.haltSegment now).valveOpen = false := rfl

@[simp] theorem Cannon.haltSegment_drive (now : Nat) (c : Cannon) : (c.haltSegment now).drive = none := rfl

@[simp] theorem Cannon.haltSegment_slew (now : Nat) (c : Cannon) : (c.haltSegment now).slew = c.waitLeg now := rfl

@[simp] theorem Cannon.haltSegment_chain (now : Nat) (c : Cannon) : (c.haltSegment now).chain = c.chain := rfl

theorem enterClaiming_only (ch : Chain) (s : State) : onlyChanges [.cannon, .claim, .line] s (enterClaiming ch s) := by
  unfold enterClaiming
  exact only_ite (only_mono (onCannon_only s _) (by decide))
    (only_trans (only_mono (onCannon_only s _) (by decide)) (only_mono (askClaim_only _ _ _) (by decide)))

theorem enterSlewing_only (ch : Chain) (s : State) :
    onlyChanges [.cannon, .claim, .line, .free] s (enterSlewing ch s) := by
  unfold enterSlewing
  exact only_ite (only_mono (enterClaiming_only ch s) (by decide))
    (only_trans (only_mono (onCannon_only s _) (by decide)) (only_mono (setFree_only _ _) (by decide)))

theorem startChain_only (e : Entry) (s : State) :
    onlyChanges [.queue, .cannon, .claim, .line, .free] s (startChain e s) := by
  unfold startChain
  have h : ∀ ch : Chain, onlyChanges [.queue, .cannon, .claim, .line, .free] s
      (((s.setRequest false).setEntries
        (changeEntry e.face e.cls (fun e => { e with running := true }) s.queue.entries)).onCannon fun c =>
          { c with chain := some ch, chargeFace := some e.face, standby := .stopped }) := fun ch =>
    only_trans (only_mono (setRequest_only s _) (by decide))
      (only_trans (only_mono (setQueue_only _ _) (by decide)) (only_mono (onCannon_only _ _) (by decide)))
  simp only
  split
  · split
    · exact only_trans (h _) (only_mono (enterSlewing_only _ _) (by decide))
    · exact only_trans (h _) (only_mono (onCannon_only _ _) (by decide))
  · exact only_trans (h _) (only_mono (onCannon_only _ _) (by decide))
  · exact h _

/-- A selection may change the queue, the cannon, the claim, the line and the count of free values. -/
theorem trySelection_only (s : State) : onlyChanges [.queue, .cannon, .claim, .line, .free] s (trySelection s) := by
  unfold trySelection
  refine only_ite ?_ (only_refl _ s)
  split
  · exact startChain_only _ s
  · exact only_refl _ s

theorem openRequest_only (s : State) : onlyChanges [.queue, .cannon, .claim, .line, .free] s (openRequest s) := by
  unfold openRequest
  exact only_ite (only_refl _ s) (only_trans (only_mono (setRequest_only s _) (by decide)) (trySelection_only _))

theorem enterParked_only (s : State) : onlyChanges [.queue, .cannon, .claim, .line, .free] s (enterParked s) :=
  only_trans (only_mono (onCannon_only s _) (by decide)) (openRequest_only _)

theorem lockCannon_only (s : State) : onlyChanges [.queue, .cannon] s (lockCannon s) :=
  only_trans (only_mono (setRequest_only s _) (by decide)) (only_mono (onCannon_only _ _) (by decide))

theorem abandonPriming_only (s : State) : onlyChanges [.queue, .cannon] s (abandonPriming s) :=
  only_trans (only_mono (onCannon_only s _) (by decide)) (lockCannon_only _)

theorem faultCannon_only (s : State) : onlyChanges [.queue, .cannon] s (faultCannon s) :=
  only_trans (only_mono (setRequest_only s _) (by decide)) (only_mono (onCannon_only _ _) (by decide))

theorem endClaim_only (c : Cause) (s : State) : onlyChanges [.claim, .line] s (endClaim c s) := by
  unfold endClaim
  split
  · exact only_mono (setClaim_only s _) (by decide)
  · exact only_mono (setClaim_only s _) (by decide)
  · exact releaseClaim_only s

theorem afterChain_only (c : Cause) (ch : Chain) (s : State) :
    onlyChanges [.queue, .cannon] s (afterChain c ch s) := by
  have hr : ∀ (s : State) (b : Bool), onlyChanges [.queue, .cannon] s (s.setRequest b) := fun s b =>
    only_mono (setRequest_only s b) (by decide)
  have hc : ∀ (s : State) (g : Cannon → Cannon), onlyChanges [.queue, .cannon] s (s.onCannon g) := fun s g =>
    only_mono (onCannon_only s g) (by decide)
  have hd : onlyChanges [.queue, .cannon] s (drainCannon (s.setRequest false)) := only_trans (hr s _) (hc _ _)
  unfold afterChain
  split
  · split
    · exact hd
    · exact only_ite hd (lockCannon_only s)
    · exact lockCannon_only s
    · exact abandonPriming_only s
    · exact hr s _
  · exact faultCannon_only s
  · exact only_ite (only_trans (hc s _) (only_trans (hc _ _) (hr _ _))) (faultCannon_only s)
  · exact hr s _
  · split
    · exact hr s _
    · exact hr s _
    · exact only_ite (only_trans (hr s _) (hc _ _)) (only_trans (hc s _) (hr _ _))

/-- The parts that a chain end may change. -/
theorem chainEnd_only (c : Cause) (s : State) :
    onlyChanges [.queue, .cannon, .claim, .line, .face, .alarms, .free] s (chainEnd c s) := by
  unfold chainEnd
  split
  · exact only_refl _ s
  · refine only_trans ?_ (only_mono (trySelection_only _) (by decide))
    refine only_trans ?_ (only_mono (queueChainEnd_only _ c _) (by decide))
    refine only_trans ?_ (only_mono (afterChain_only c _ _) (by decide))
    refine only_trans ?_ (only_mono (onCannon_only _ _) (by decide))
    refine only_trans ?_ (only_mono (endClaim_only c _) (by decide))
    exact only_mono (onCannon_only s _) (by decide)

theorem preempt_only (o : Offer) (s : State) :
    onlyChanges [.queue, .cannon, .claim, .line, .face, .alarms, .free] s (preempt o s) := by
  unfold preempt
  split
  · exact only_ite (chainEnd_only _ s) (only_refl _ s)
  · exact only_refl _ s

theorem passOffered_only (o : Offer) (s : State) : onlyChanges [.queue, .face, .alarms] s (passOffered o s) := by
  unfold passOffered
  split
  · exact passDeadline_only _ s
  · exact only_refl _ s

/-- The parts that an offer to the Spray Queue may change. -/
theorem offerDemand_only (o : Offer) (s : State) :
    onlyChanges [.queue, .cannon, .claim, .line, .face, .alarms, .free] s (offerDemand o s).1 := by
  have ha := admitOffer_only o s
  unfold offerDemand
  split
  · rename_i s1 h
    rw [h] at ha
    exact only_trans (only_mono ha (by decide)) (only_trans (only_mono (passOffered_only o _) (by decide))
      (only_trans (preempt_only o _) (only_mono (trySelection_only _) (by decide))))
  · rename_i s1 h
    rw [h] at ha
    exact only_trans (only_mono ha (by decide)) (only_trans (only_mono (passOffered_only o _) (by decide))
      (only_trans (preempt_only o _) (only_mono (trySelection_only _) (by decide))))
  · exact only_mono ha (by decide)

theorem enterSpraying_only (t : Nat) (s : State) : onlyChanges [.cannon, .claim] s (enterSpraying t s) := by
  unfold enterSpraying
  split
  · exact only_trans (only_mono (onCannon_only s _) (by decide)) (only_mono (setClaim_only _ _) (by decide))
  · exact only_refl _ s

theorem changeOnTime_only (t : Nat) (s : State) : onlyChanges [.cannon] s (changeOnTime t s) := by
  unfold changeOnTime
  exact only_ite (onCannon_only s _) (only_refl _ s)

theorem settleDecision_only (d : Decision) (s : State) :
    onlyChanges [.cannon, .claim, .line] s (settleDecision d s) := by
  unfold settleDecision
  split
  · exact only_trans (only_mono (takeDecision_only d s) (by decide)) (only_mono (enterSpraying_only _ _) (by decide))
  · exact only_mono (takeDecision_only d s) (by decide)

/-- The parts that a recompute of the own claim may change. -/
theorem recompute_only (s : State) :
    onlyChanges [.queue, .cannon, .claim, .line, .face, .alarms, .free] s (recompute s) := by
  unfold recompute
  split
  · exact only_refl _ s
  · exact only_refl _ s
  · exact only_ite (only_refl _ s) (only_mono (settleDecision_only _ s) (by decide))
  · split
    · exact only_trans (only_mono (takeDecision_only _ s) (by decide)) (only_mono (changeOnTime_only _ _) (by decide))
    · exact chainEnd_only _ s

theorem gatingEffects_only (g : Gate) (s : State) :
    onlyChanges [.queue, .cannon, .claim, .line, .face, .alarms, .free] s (gatingEffects g s) := by
  unfold gatingEffects
  refine only_ite (only_refl _ s) (only_trans (only_mono (trySelection_only s) (by decide)) ?_)
  simp only
  split
  · exact only_ite (only_refl _ _) (chainEnd_only _ _)
  · exact only_refl _ _

theorem respondToLock_only (s : State) :
    onlyChanges [.queue, .cannon, .claim, .line, .face, .alarms, .free] s (respondToLock s) := by
  unfold respondToLock
  split
  · exact only_mono (lockCannon_only s) (by decide)
  · exact only_mono (lockCannon_only s) (by decide)
  · exact only_ite (chainEnd_only _ s) (only_mono (abandonPriming_only s) (by decide))
  · exact only_ite (chainEnd_only _ s) (only_mono (setRequest_only s _) (by decide))
  · exact only_refl _ s
  · exact only_refl _ s
  · exact chainEnd_only _ s

theorem respondToUnlock_only (s : State) :
    onlyChanges [.queue, .cannon, .claim, .line, .free] s (respondToUnlock s) := by
  unfold respondToUnlock
  exact only_ite (enterParked_only s) (only_refl _ s)

theorem parkOrLock_only (s : State) : onlyChanges [.queue, .cannon, .claim, .line, .free] s (parkOrLock s) := by
  unfold parkOrLock
  exact only_ite (only_mono (lockCannon_only s) (by decide)) (enterParked_only s)

theorem completeSegment_only (ch : Chain) (s : State) :
    onlyChanges [.queue, .cannon, .claim, .line, .face, .alarms, .free] s (completeSegment ch s) := by
  unfold completeSegment
  refine only_ite ?_ (only_trans (only_mono (onCannon_only s _) (by decide)) (chainEnd_only _ _))
  exact only_trans (only_mono (onCannon_only s _) (by decide))
    (only_trans (only_mono (releaseClaim_only _) (by decide)) (only_mono (enterClaiming_only _ _) (by decide)))

theorem chargeChain_only (s : State) :
    onlyChanges [.queue, .cannon, .claim, .line, .face, .alarms, .free] s (chargeChain s) := by
  unfold chargeChain
  split
  · refine only_ite ?_ (only_refl _ s)
    have h : ∀ ch g, onlyChanges [.queue, .cannon, .claim, .line, .face, .alarms, .free] s
        ((chargeEntry ch s).onCannon g) := fun ch g =>
      only_trans (only_mono (chargeEntry_only ch s) (by decide)) (only_mono (onCannon_only _ g) (by decide))
    exact only_ite (only_trans (h _ _) (completeSegment_only _ _)) (h _ _)
  · exact only_refl _ s

theorem chargeFaceLitre_only (s : State) : onlyChanges [.face] s (chargeFaceLitre s) := by
  unfold chargeFaceLitre
  split
  · exact changeRecord_only _ _ s
  · exact only_refl _ s

/-! ### The Face Model Unit and the Look-Ahead Unit -/

theorem offerSuppress_only (f : FaceId) (v : Nat) (s : State) :
    onlyChanges [.queue, .cannon, .claim, .line, .face, .alarms, .free] s (offerSuppress f v s) := by
  have ho := offerDemand_only { face := f, cls := .suppress, volume := v, origin := .localRisk, deadline := none } s
  unfold offerSuppress
  refine only_ite
    (only_trans (only_mono (setQueue_only s _) (by decide)) (only_mono (changeRecord_only _ _ _) (by decide))) ?_
  split <;> rename_i h <;> rw [h] at ho <;> exact only_trans ho (only_mono (changeRecord_only _ _ _) (by decide))

theorem withdrawSuppress_only (f : FaceId) (s : State) :
    onlyChanges [.queue, .face, .alarms, .free] s (withdrawSuppress f s) := by
  unfold withdrawSuppress
  split
  · refine only_ite ?_ ?_
    · exact only_trans (only_mono (changeRecord_only _ _ s) (by decide)) (only_mono (setFree_only _ _) (by decide))
    · exact only_trans (only_mono (removeEntry_only _ _ s) (by decide)) (only_mono (changeRecord_only _ _ _) (by decide))
  · exact only_mono (changeRecord_only _ _ s) (by decide)

theorem stepSuppress_only (f : FaceId) (r : FaceRecord) (s : State) :
    onlyChanges [.queue, .cannon, .claim, .line, .face, .alarms, .free] s (stepSuppress f r s) := by
  unfold stepSuppress
  split
  · exact only_ite (only_mono (changeRecord_only _ _ s) (by decide)) (offerSuppress_only _ _ s)
  · exact only_mono (changeRecord_only _ _ s) (by decide)
  · exact only_mono (withdrawSuppress_only f s) (by decide)

theorem evaluateFace_only (s : State) (f : FaceId) :
    onlyChanges [.queue, .cannon, .claim, .account, .line, .face, .alarms, .free] s (evaluateFace s f) := by
  unfold evaluateFace
  split
  · refine only_trans ?_ (only_mono (stepSuppress_only _ _ _) (by decide))
    exact only_trans (only_mono (changeRecord_only _ _ s) (by decide)) (only_mono (setAccount_only _ _) (by decide))
  · exact only_refl _ s

theorem lookAheadFace_only (s : State) (f : FaceId) :
    onlyChanges [.look, .queue, .cannon, .claim, .line, .face, .alarms, .free] s (lookAheadFace s f) := by
  have ho : ∀ v d, onlyChanges [.look, .queue, .cannon, .claim, .line, .face, .alarms, .free] s
      (offerPrewet f v d s).1 := by
    intro v d
    have ho := offerDemand_only { face := f, cls := .prewet, volume := v, origin := .lookahead, deadline := some d } s
    unfold offerPrewet
    split
    · exact only_refl _ s
    · split <;> rename_i h <;> rw [h] at ho <;> exact only_mono ho (by decide)
  unfold lookAheadFace
  split
  · exact only_refl _ s
  · simp only
    split
    · exact only_mono (setLook_only s _) (by decide)
    · split
      · exact only_mono (setLook_only s _) (by decide)
      · exact only_trans (ho _ _) (only_mono (setLook_only _ _) (by decide))

theorem lookAhead_only (s : State) :
    onlyChanges [.look, .queue, .cannon, .claim, .line, .face, .alarms, .free] s (lookAhead s) := by
  unfold lookAhead
  exact only_ite (only_refl _ s) (only_foldl lookAheadFace_only _ s)

theorem evaluateFaces_only (s : State) :
    onlyChanges [.queue, .cannon, .claim, .account, .line, .face, .alarms, .free] s (evaluateFaces s) :=
  only_foldl evaluateFace_only _ s

/-! ### The Dust Watch Unit -/

theorem onDust_only (s : State) (g : Dust → Dust) : onlyChanges [.dust] s (s.onDust g) := setDust_only s _

theorem formAnswer_only (theta node : Nat) (s : State) :
    onlyChanges [.queue, .cannon, .claim, .line, .face, .alarms, .free] s (formAnswer theta node s).1 := by
  have hk : ∀ (p : State × Nat) (f : FaceId),
      onlyChanges [.queue, .cannon, .claim, .line, .face, .alarms, .free] p.1 (offerKnockdowns theta node p f).1 := by
    intro p f
    unfold offerKnockdowns
    split
    · split
      · have ho := offerDemand_only
          { face := f, cls := .knockdown, volume := p.1.cfg.vKnock, origin := .peerNotice node, deadline := none } p.1
        split <;> rename_i h <;> rw [h] at ho <;> exact ho
      · exact only_refl _ _
    · exact only_refl _ _
  have hf : ∀ (l : List FaceId) (p : State × Nat),
      onlyChanges [.queue, .cannon, .claim, .line, .face, .alarms, .free] p.1
        (l.foldl (offerKnockdowns theta node) p).1 := by
    intro l
    induction l with
    | nil => intro p; exact only_refl _ _
    | cons f l ih => intro p; exact only_trans (hk p f) (ih _)
  unfold formAnswer
  split
  · exact only_refl _ s
  split
  · exact only_refl _ s
  split
  · exact only_refl _ s
  · exact hf allFaces (s, 0)

theorem selfTest_only (s : State) :
    onlyChanges [.dust, .queue, .cannon, .claim, .line, .face, .alarms, .free] s (selfTest s) :=
  only_trans (only_mono (formAnswer_only _ _ s) (by decide)) (only_mono (onDust_only _ _) (by decide))

theorem announceNotice_only (s : State) : onlyChanges [.dust, .line] s (announceNotice s) :=
  only_trans (only_mono (lineOffer_only _ s) (by decide)) (only_mono (onDust_only _ _) (by decide))

theorem sendAnswer_only (a : PendingAnswer) (s : State) : onlyChanges [.dust, .line] s (sendAnswer a s) :=
  only_trans (only_mono (lineOffer_only _ s) (by decide)) (only_mono (onDust_only _ _) (by decide))

theorem retryAnswer_only (s : State) (a : PendingAnswer) : onlyChanges [.dust, .line] s (retryAnswer s a) := by
  unfold retryAnswer
  exact only_ite
    (only_trans (only_mono (lineOffer_only _ s) (by decide)) (only_mono (onDust_only _ _) (by decide)))
    (only_mono (lineOffer_only _ s) (by decide))

theorem retryNotice_only (s : State) : onlyChanges [.dust, .line] s (retryNotice s) := by
  unfold retryNotice
  exact only_ite (announceNotice_only s) (only_refl _ s)

theorem retryAnswers_only (s : State) : onlyChanges [.dust, .line] s (retryAnswers s) := by
  unfold retryAnswers
  exact only_ite (only_foldl retryAnswer_only _ s) (only_refl _ s)

theorem retryDust_only (s : State) : onlyChanges [.dust, .line] s (retryDust s) :=
  only_trans (retryNotice_only s) (retryAnswers_only _)

theorem startNotice_only (s : State) :
    onlyChanges [.dust, .queue, .cannon, .claim, .line, .face, .alarms, .free] s (startNotice s) :=
  only_trans (only_mono (onDust_only s _) (by decide)) (only_trans (selfTest_only _)
    (only_trans (only_mono (announceNotice_only _) (by decide)) (only_mono (onDust_only _ _) (by decide))))

theorem returnToExceed_only (s : State) :
    onlyChanges [.dust, .queue, .cannon, .claim, .line, .face, .alarms, .free] s (returnToExceed s) :=
  only_trans (only_mono (onDust_only s _) (by decide)) (only_trans (selfTest_only _)
    (only_trans (only_mono (announceNotice_only _) (by decide)) (only_mono (onDust_only _ _) (by decide))))

theorem applyMean_only (m : Nat) (s : State) :
    onlyChanges [.dust, .queue, .cannon, .claim, .line, .face, .alarms, .free] s (applyMean m s) := by
  have hd : ∀ (s : State) (g : Dust → Dust),
      onlyChanges [.dust, .queue, .cannon, .claim, .line, .face, .alarms, .free] s (s.onDust g) := fun s g =>
    only_mono (onDust_only s g) (by decide)
  unfold applyMean
  split
  · exact only_ite (hd s _) (only_refl _ s)
  · exact only_ite (returnToExceed_only s) (only_ite (hd s _) (only_refl _ s))
  · exact only_ite (only_trans (hd s _) (startNotice_only _)) (hd s _)

theorem takeReading_only (v : Nat) (s : State) :
    onlyChanges [.dust, .queue, .cannon, .claim, .line, .face, .alarms, .free] s (takeReading v s) := by
  unfold takeReading
  exact only_ite
    (only_trans (only_mono (onDust_only s _) (by decide))
      (only_trans (only_mono (onDust_only _ _) (by decide)) (applyMean_only _ _)))
    (only_mono (onDust_only s _) (by decide))

/-! ### The Lockout Unit -/

theorem writeLocks_only (l : List Lock) (s : State) : onlyChanges [.lockout, .store] s (writeLocks l s) :=
  only_trans (only_mono (setLockout_only s _) (by decide)) (only_mono (setStore_only _ _) (by decide))

theorem applyLock_only (code level : Nat) (s : State) :
    onlyChanges [.lockout, .store, .queue, .cannon, .claim, .line, .face, .alarms, .free] s
      (applyLock code level s).1 := by
  unfold applyLock
  split
  · exact only_refl _ s
  split
  · exact only_refl _ s
  split
  · exact only_refl _ s
  split
  · exact only_refl _ s
  unfold addLock
  exact only_ite (only_mono (writeLocks_only _ s) (by decide))
    (only_trans (only_mono (writeLocks_only _ s) (by decide)) (only_mono (respondToLock_only _) (by decide)))

theorem removeLocks_only (l : List Lock) (s : State) :
    onlyChanges [.lockout, .store, .queue, .cannon, .claim, .line, .free] s (removeLocks l s) := by
  unfold removeLocks
  exact only_ite
    (only_trans (only_mono (writeLocks_only _ s) (by decide)) (only_mono (respondToUnlock_only _) (by decide)))
    (only_mono (writeLocks_only _ s) (by decide))

theorem applyUnlock_only (code : Nat) (s : State) :
    onlyChanges [.lockout, .store, .queue, .cannon, .claim, .line, .free] s (applyUnlock code s).1 := by
  unfold applyUnlock
  simp only
  split
  · exact only_refl _ s
  split
  · exact only_refl _ s
  split
  · exact only_refl _ s
  split
  · exact removeLocks_only _ s
  split
  · split
    · exact removeLocks_only _ s
    · exact only_refl _ s
  · exact only_mono (setLockout_only s _) (by decide)

/-! ### Station Control -/

theorem onStation_only (s : State) (g : Station → Station) : onlyChanges [.station] s (s.onStation g) :=
  setStation_only s _

theorem onLine_only (s : State) (g : Line → Line) : onlyChanges [.line] s (s.onLine g) := setLine_only s _

theorem enterMute_only (s : State) :
    onlyChanges [.station, .queue, .cannon, .claim, .line, .face, .alarms, .free] s (enterMute s) :=
  only_trans (only_mono (onStation_only s _) (by decide)) (only_trans (only_mono (chainEnd_only _ _) (by decide))
    (only_trans (only_mono (setClaim_only _ _) (by decide)) (only_mono (onLine_only _ _) (by decide))))

theorem takeDuplicate_only (s : State) :
    onlyChanges [.station, .queue, .cannon, .claim, .line, .face, .alarms, .free] s (takeDuplicate s) := by
  unfold takeDuplicate
  refine only_ite (only_refl _ s) ?_
  split
  · exact only_trans (only_mono (onLine_only s _) (by decide)) (enterMute_only _)
  · exact only_trans (only_mono (onLine_only s _) (by decide)) (enterMute_only _)
  · exact only_refl _ s
  · exact only_mono (onLine_only s _) (by decide)

theorem enterRun_only (s : State) :
    onlyChanges [.station, .dust, .queue, .cannon, .claim, .line, .free] s (enterRun s) :=
  only_trans (only_mono (onStation_only s _) (by decide)) (only_trans (only_mono (offerStatus_only _) (by decide))
    (only_trans (only_mono (retryDust_only _) (by decide)) (only_mono (trySelection_only _) (by decide))))

/-! ### Bytes of the two serial lines -/

/-- All that one byte can do to a reception: it is ignored, it completes the run, or it is held with the run. -/
theorem takeByte_cases (start : Byte) (complete : List Byte → Bool) (held : List Byte) (b : Byte) :
    (held = [] ∧ b ≠ start ∧ takeByte start complete held b = ([], none))
      ∨ (complete (held ++ [b]) = true ∧ takeByte start complete held b = ([], some (held ++ [b])))
      ∨ (complete (held ++ [b]) = false ∧ takeByte start complete held b = (held ++ [b], none)) := by
  unfold takeByte
  split
  · exact .inl ⟨by simp_all, by simp_all, rfl⟩
  · cases h : complete (held ++ [b])
    · exact .inr (.inr ⟨rfl, rfl⟩)
    · exact .inr (.inl ⟨rfl, rfl⟩)

theorem hearBits_only (s : State) : onlyChanges [.line] s s.hearBits := only_ite (only_refl _ s) (onLine_only s _)

theorem hearQuiet_only (s : State) : onlyChanges [.line] s s.hearQuiet := only_ite (only_refl _ s) (onLine_only s _)

theorem hearByte_only (b : Byte) (s : State) : onlyChanges [.line, .pending] s (s.hearByte b) :=
  only_ite (only_refl _ s)
    (only_trans (only_mono (onLine_only s _) (by decide)) (only_mono (setPending_only _ _) (by decide)))

theorem hearPanelByte_only (b : Byte) (s : State) : onlyChanges [.panel, .pending] s (s.hearPanelByte b) :=
  only_ite (only_refl _ s)
    (only_trans (only_mono (setPanel_only s _) (by decide)) (only_mono (setPending_only _ _) (by decide)))

end Sys2Proof.Machine
end

