-- ==== Sys2Proof/Laws/Close.lean ====
section
/-! SUPPORT. The end of an arrival: which flags and which frames it can change. -/

namespace Sys2Proof.Machine

/-! ### The condition flags -/

/-- A flag that shows its condition's value is not changed by a report of that value. -/
theorem Flag.follow_same {sec : Nat} {v : Bool} {f : Flag} (h : v = f.cond) : f.follow sec v = f := by
  simp [Flag.follow, h]

/-- After a report the flag shows the value reported. -/
theorem Flag.follow_cond (sec : Nat) (v : Bool) (f : Flag) : (f.follow sec v).cond = v := by
  unfold Flag.follow
  split
  · rename_i h; exact h.symm
  · cases hf : f.state <;> cases v <;> rfl

/-- A report that changes nothing was of the value shown. -/
theorem Flag.follow_fixed {sec : Nat} {v : Bool} {f : Flag} (h : f.follow sec v = f) : v = f.cond := by
  have := Flag.follow_cond sec v f
  rw [h] at this
  exact this.symm

theorem syncAlarms_alarms (s : State) :
    (syncAlarms s).alarms =
      { flags := followAll s.sec s.conditions s.alarms.flags
        relay := relayLevel s.relaySet (followAll s.sec s.conditions s.alarms.flags) } := rfl

/-- The flags of a state between two arrivals show their conditions' values. -/
theorem flags_of_sync {s : State} (h : syncAlarms s = s) (i : AlarmId) (hi : conditionFlag i = true) :
    s.conditions.get i = (s.alarms.flags.get i).cond := by
  have ha : (syncAlarms s).alarms = s.alarms := by rw [h]
  rw [syncAlarms_alarms] at ha
  have hf : followAll s.sec s.conditions s.alarms.flags = s.alarms.flags := congrArg Alarms.flags ha
  have hg : ∀ i, (followAll s.sec s.conditions s.alarms.flags).get i = s.alarms.flags.get i := fun i => by rw [hf]
  have hi' := hg i
  cases i <;> first | exact Flag.follow_fixed hi' | exact absurd hi (by decide)

/-- A flag whose condition is as it was between two arrivals is not changed at the end of the next. -/
theorem syncAlarms_flag {s t : State} (h : syncAlarms s = s) (ha : t.alarms.flags = s.alarms.flags) (i : AlarmId)
    (hc : t.conditions.get i = s.conditions.get i) :
    (syncAlarms t).alarms.flags.get i = s.alarms.flags.get i := by
  have hi := flags_of_sync h i
  rw [syncAlarms_alarms, ha]
  cases i <;> first | rfl | exact Flag.follow_same (hc.trans (hi rfl))

/-- A change that leaves the conditions, the flags and the relay set alone needs no change of the flags. -/
theorem syncAlarms_same {s t : State} (h : syncAlarms s = s) (ha : t.alarms = s.alarms)
    (hc : t.conditions = s.conditions) (hr : t.relaySet = s.relaySet) : syncAlarms t = t := by
  have hf : followAll t.sec t.conditions t.alarms.flags = s.alarms.flags := by
    rw [hc, ha]
    have hi := fun i => flags_of_sync h i
    have hg : ∀ i, conditionFlag i = true →
        (s.alarms.flags.get i).follow t.sec (s.conditions.get i) = s.alarms.flags.get i := fun i h =>
      Flag.follow_same (hi i h)
    simp only [PerFlag.get] at hg
    simp only [followAll, hg .cannonFault rfl, hg .duplicateNode rfl, hg .supplyStale rfl, hg .freshExhausted rfl,
      hg .windLost rfl, hg .forecastStale rfl, hg .lineIsolated rfl, hg .configAbsent rfl]
  have hs : relayLevel s.relaySet s.alarms.flags = s.alarms.relay := by
    have hh : (syncAlarms s).alarms = s.alarms := by rw [h]
    rw [syncAlarms_alarms] at hh
    have h1 : followAll s.sec s.conditions s.alarms.flags = s.alarms.flags := congrArg Alarms.flags hh
    have h2 := congrArg Alarms.relay hh
    simp only [h1] at h2
    exact h2
  show t.setAlarms { flags := followAll t.sec t.conditions t.alarms.flags,
                     relay := relayLevel t.relaySet (followAll t.sec t.conditions t.alarms.flags) } = t
  rw [hf, hr, hs]
  show t.setAlarms s.alarms = t
  rw [← ha]
  rfl

/-! ### The line -/

theorem statusOnly_refl (l : Line) : statusOnly l l := ⟨rfl, .inl rfl, rfl, rfl, rfl, rfl, rfl, rfl, rfl⟩

theorem statusOnly_trans {l m n : Line} (h : statusOnly l m) (k : statusOnly m n) : statusOnly l n := by
  obtain ⟨h1, h2, h3, h4, h5, h6, h7, h8, h9⟩ := h
  obtain ⟨k1, k2, k3, k4, k5, k6, k7, k8, k9⟩ := k
  refine ⟨k1.trans h1, ?_, k3.trans h3, k4.trans h4, k5.trans h5, k6.trans h6, k7.trans h7, k8.trans h8, k9.trans h9⟩
  rcases h2 with h2 | ⟨h2, h2'⟩ <;> rcases k2 with k2 | ⟨k2, k2'⟩
  · exact .inl (k2.trans h2)
  · exact .inr ⟨h2 ▸ k2, k2'⟩
  · exact .inr ⟨h2, k2.trans h2'⟩
  · rw [h2'] at k2; cases k2

/-- Replacing a queued STATUS leaves the URGENT frames alone. -/
theorem urgent_modify (c : StatusContent) (q : List TxFrame) (i : Nat)
    (h : ∀ f, q[i]? = some f → f.content.urgent = false) :
    ((q.modify i (TxFrame.replace (.status c))).filter fun f => f.content.urgent)
      = q.filter fun f => f.content.urgent := by
  induction q generalizing i with
  | nil => simp
  | cons a q ih =>
    cases i with
    | zero =>
      have ha : a.content.urgent = false := h a rfl
      rw [List.modify_zero_cons, List.filter_cons, List.filter_cons, ha]
      rfl
    | succ i =>
      rw [List.modify_succ_cons]
      simp only [List.filter_cons, ih i (fun f hf => h f (by simpa using hf))]

theorem TxFrame.not_urgent_of_replaced {c : StatusContent} {f : TxFrame}
    (h : f.replacedBy (.status c) = true) : f.content.urgent = false := by
  unfold TxFrame.replacedBy TxFrame.waitingStatus at h
  cases hc : f.content <;> simp_all [Content.urgent]

/-- An offer of a STATUS moves STATUS alone. -/
theorem offer_status (sec : Nat) (c : StatusContent) (l : Line) : statusOnly l (l.offer sec (.status c)).1 := by
  unfold Line.offer
  split
  · rename_i i hi
    refine ⟨?_, .inl rfl, rfl, rfl, rfl, rfl, rfl, rfl, rfl⟩
    refine urgent_modify c l.queue i fun f hf => ?_
    obtain ⟨hlt, hp, -⟩ := List.findIdx?_eq_some_iff_getElem.mp hi
    rw [List.getElem?_eq_getElem hlt, Option.some.injEq] at hf
    exact TxFrame.not_urgent_of_replaced (hf ▸ hp)
  · split
    · refine ⟨?_, ?_, ?_⟩
      · unfold Line.settleAccess
        split <;> simp [TxFrame.fresh, Content.urgent]
      · unfold Line.settleAccess
        cases ha : l.access <;> simp
      · unfold Line.settleAccess
        split <;> exact ⟨rfl, rfl, rfl, rfl, rfl, rfl, rfl⟩
    · exact statusOnly_refl l

theorem offerStatus_line (s : State) : statusOnly s.line (offerStatus s).line := by
  have h : statusOnly s.line (lineOffer (buildStatus s) s).1.line := by
    unfold lineOffer buildStatus
    split
    · exact offer_status s.sec _ s.line
    · exact statusOnly_refl _
  unfold offerStatus
  simp only
  split
  · exact statusOnly_trans h ⟨rfl, .inl rfl, rfl, rfl, rfl, rfl, rfl, rfl, rfl⟩
  · exact statusOnly_trans h ⟨rfl, .inl rfl, rfl, rfl, rfl, rfl, rfl, rfl, rfl⟩

theorem closeStatus_line (s0 s : State) : statusOnly s.line (closeStatus s0 s).line := by
  have hc : ∀ s : State, statusOnly s.line (clearLeft s).line := fun s =>
    ⟨rfl, .inl rfl, rfl, rfl, rfl, rfl, rfl, rfl, rfl⟩
  have ho : ∀ s : State, statusOnly s.line (statusOnChange s).line := by
    intro s
    unfold statusOnChange
    split
    · exact ⟨rfl, .inl rfl, rfl, rfl, rfl, rfl, rfl, rfl, rfl⟩
    · exact offerStatus_line s
  have hr : ∀ s : State, statusOnly s.line (statusRetry s).line := by
    intro s
    unfold statusRetry
    split
    · exact offerStatus_line s
    · exact statusOnly_refl _
  unfold closeStatus
  split
  · simp only
    refine statusOnly_trans ?_ (hc _)
    refine statusOnly_trans ?_ (hr _)
    split
    · exact statusOnly_refl _
    · exact ho s
  · exact hc s

/-! ### The close -/

/-- At the end of an arrival only STATUS moves on the line. -/
theorem closeArrival_line (s0 s : State) : statusOnly s.line (closeArrival s0 s).line :=
  closeStatus_line s0 (syncAlarms s)

/-- At the end of an arrival the flags follow their conditions. -/
theorem closeArrival_alarms (s0 s : State) : (closeArrival s0 s).alarms = (syncAlarms s).alarms :=
  closeStatus_only s0 (syncAlarms s) .alarms (by decide)

theorem clearLeft_same {s : State} (h : s.line.left = false) : clearLeft s = s := by
  show s.setLine { s.line with left := false } = s
  rw [← h]
  rfl

/-- An arrival that changes no reported item and lets no frame go offers no STATUS. -/
theorem closeArrival_quiet {s0 s : State} (hl : s.line.left = false) (hi : s.reportedItems = s0.reportedItems) :
    closeArrival s0 s = syncAlarms s := by
  have h1 : (syncAlarms s).line.left = false := hl
  have h2 : (syncAlarms s).reportedItems = s0.reportedItems := hi
  unfold closeArrival closeStatus
  split
  · simp only
    have : statusRetry (syncAlarms s) = syncAlarms s := by
      unfold statusRetry
      rw [h1]
      rfl
    rw [this]
    exact clearLeft_same h1
  · exact clearLeft_same h1

/-- An arrival that changes no reported item, no condition and lets no frame go ends as its effect left it. -/
theorem closeArrival_same {s0 s : State} (hs : syncAlarms s = s) (hl : s.line.left = false)
    (hi : s.reportedItems = s0.reportedItems) : closeArrival s0 s = s :=
  (closeArrival_quiet hl hi).trans hs

/-- Outside START an arrival is its effect and its end. -/
theorem arrival_eq {effect : State → State} {s : State} (h : s.station.mode ≠ .start) :
    arrival effect s = closeArrival s (effect s) := by
  simp [arrival, h]

/-- An arrival whose effect changes no flag, no condition, no relay choice, no reported item and lets no frame go. -/
theorem arrival_same {effect : State → State} {s : State} (hs : settled s) (h : s.station.mode ≠ .start)
    (ha : (effect s).alarms = s.alarms) (hc : (effect s).conditions = s.conditions)
    (hr : (effect s).relaySet = s.relaySet) (hl : (effect s).line.left = false)
    (hi : (effect s).reportedItems = s.reportedItems) : arrival effect s = effect s := by
  rw [arrival_eq h]
  exact closeArrival_same (syncAlarms_same (hs.1 h) ha hc hr) hl hi

/-- An arrival without effect. -/
theorem arrival_id {effect : State → State} {s : State} (hs : settled s) (he : effect s = s) :
    arrival effect s = s := by
  by_cases h : s.station.mode = .start
  · simp [arrival, h]
  · have := arrival_same (effect := effect) hs h (by rw [he]) (by rw [he]) (by rw [he]) (by rw [he]; exact hs.2)
      (by rw [he])
    rw [this, he]

end Sys2Proof.Machine
end

