-- ==== Sys2Proof/Laws/Faces.lean ====
section
/-! SUPPORT. Access to the values of the four faces, and the operations of the Spray Queue and the Cannon Controller seen
from the face records: they write the last prewet result and nothing else. -/

namespace Sys2Proof

@[simp] theorem PerFace.get_map {α β : Type} (g : α → β) (p : PerFace α) (f : FaceId) :
    (p.map g).get f = g (p.get f) := by
  match f with
  | 0 | 1 | 2 | 3 => rfl

@[simp] theorem PerFace.get_set_same {α : Type} (p : PerFace α) (f : FaceId) (a : α) : (p.set f a).get f = a := by
  match f with
  | 0 | 1 | 2 | 3 => rfl

theorem PerFace.get_set_ne {α : Type} (p : PerFace α) {f g : FaceId} (a : α) (h : g ≠ f) :
    (p.set f a).get g = p.get g := by
  match f, g with
  | 0, 0 | 1, 1 | 2, 2 | 3, 3 => exact absurd rfl h
  | 0, 1 | 0, 2 | 0, 3 | 1, 0 | 1, 2 | 1, 3 | 2, 0 | 2, 1 | 2, 3 | 3, 0 | 3, 1 | 3, 2 => rfl

theorem PerFace.get_set {α : Type} (p : PerFace α) (f g : FaceId) (a : α) :
    (p.set f a).get g = if g = f then a else p.get g := by
  split
  · rename_i h; rw [h, PerFace.get_set_same]
  · rename_i h; exact PerFace.get_set_ne p a h

theorem PerFace.ext_get {α : Type} {p q : PerFace α} (h : ∀ f, p.get f = q.get f) : p = q := by
  have h0 := h 0
  have h1 := h 1
  have h2 := h 2
  have h3 := h 3
  cases p
  cases q
  simp only [PerFace.get] at h0 h1 h2 h3
  simp [h0, h1, h2, h3]

namespace Machine

@[simp] theorem changeRecord_get (f g : FaceId) (u : FaceRecord → FaceRecord) (s : State) :
    (changeRecord f u s).face.records.get g =
      if g = f then (s.face.records.get f).map u else s.face.records.get g :=
  PerFace.get_set _ f g _

/-- The classes reported depend on the face records alone. -/
theorem faceClasses_of_get {s t : State}
    (h : ∀ f, (t.face.records.get f).map FaceRecord.cls = (s.face.records.get f).map FaceRecord.cls) :
    t.faceClasses = s.faceClasses := by
  have hf : ∀ f, t.faceClass f = s.faceClass f := by
    intro f
    have := h f
    unfold State.faceClass
    cases ht : t.face.records.get f <;> cases hs : s.face.records.get f <;> simp_all
  simp only [State.faceClasses, hf]

/-- From one state to the other the face records differ in their last prewet result at most. -/
def prewetOnly (s t : State) : Prop :=
  t.face.timer = s.face.timer
    ∧ ∀ f, t.face.records.get f = none ∧ s.face.records.get f = none
        ∨ ∃ r p, s.face.records.get f = some r ∧ t.face.records.get f = some { r with lastPrewet := p }

theorem prewet_refl (s : State) : prewetOnly s s := by
  refine ⟨rfl, fun f => ?_⟩
  cases h : s.face.records.get f with
  | none => exact .inl ⟨rfl, rfl⟩
  | some r => exact .inr ⟨r, r.lastPrewet, rfl, rfl⟩

theorem prewet_trans {s t u : State} (h : prewetOnly s t) (k : prewetOnly t u) : prewetOnly s u := by
  refine ⟨k.1.trans h.1, fun f => ?_⟩
  rcases h.2 f with ⟨h1, h2⟩ | ⟨r, p, h1, h2⟩ <;> rcases k.2 f with ⟨k1, k2⟩ | ⟨q, p', k1, k2⟩
  · exact .inl ⟨k1, h2⟩
  · rw [h1] at k1; cases k1
  · rw [h2] at k2; cases k2
  · rw [h2, Option.some.injEq] at k1
    exact .inr ⟨r, p', h1, by rw [k2, ← k1]⟩

/-- What leaves the Face Model Unit alone. -/
theorem prewet_of_only {fs : List Field} {s t : State} (h : onlyChanges fs s t) (hf : Field.face ∉ fs) :
    prewetOnly s t := by
  have : t.face = s.face := h .face hf
  have hr := prewet_refl s
  unfold prewetOnly at *
  rw [this]
  exact hr

theorem prewet_ite {s t u : State} {p : Prop} [Decidable p] (ht : prewetOnly s t) (hu : prewetOnly s u) :
    prewetOnly s (if p then t else u) := by
  split <;> assumption

theorem prewet_foldl {α : Type} {g : State → α → State} (h : ∀ s a, prewetOnly s (g s a)) (l : List α) (s : State) :
    prewetOnly s (l.foldl g s) := by
  induction l generalizing s with
  | nil => exact prewet_refl s
  | cons a l ih => exact prewet_trans (h s a) (ih (g s a))

/-- The classes reported do not depend on the last prewet results. -/
theorem prewet_classes {s t : State} (h : prewetOnly s t) : t.faceClasses = s.faceClasses := by
  refine faceClasses_of_get fun f => ?_
  rcases h.2 f with ⟨h1, h2⟩ | ⟨r, p, h1, h2⟩ <;> simp [h1, h2]

theorem changeRecord_prewet (f : FaceId) (p : Option (PrewetResult × Nat)) (s : State) :
    prewetOnly s (changeRecord f (fun r => { r with lastPrewet := p }) s) := by
  refine ⟨rfl, fun g => ?_⟩
  rw [changeRecord_get]
  split
  · rename_i h
    subst h
    cases hr : s.face.records.get g with
    | none => exact .inl ⟨rfl, rfl⟩
    | some r => exact .inr ⟨r, p, rfl, rfl⟩
  · exact (prewet_refl s).2 g

theorem recordPrewet_prewet (r : RemovalReason) (e : Entry) (s : State) : prewetOnly s (recordPrewet r e s) := by
  unfold recordPrewet
  split
  · exact changeRecord_prewet _ _ _
  · exact prewet_trans (changeRecord_prewet _ _ _) (prewet_of_only (setAlarms_only _ _) (by decide))
  · exact prewet_refl _

theorem removeEntry_prewet (r : RemovalReason) (e : Entry) (s : State) : prewetOnly s (removeEntry r e s) :=
  prewet_trans (prewet_of_only (setQueue_only s _) (by decide)) (recordPrewet_prewet r e _)

theorem admitOffer_prewet (o : Offer) (s : State) : prewetOnly s (admitOffer o s).1 := by
  unfold admitOffer
  split
  · exact prewet_refl s
  split
  · exact prewet_of_only (setQueue_only s _) (by decide)
  split
  · exact prewet_of_only (setQueue_only s _) (by decide)
  split
  · split
    · exact prewet_trans (removeEntry_prewet _ _ s) (prewet_of_only (setQueue_only _ _) (by decide))
    · exact prewet_refl s
  · exact prewet_refl s

theorem passDeadline_prewet (e : Entry) (s : State) : prewetOnly s (passDeadline e s) := by
  unfold passDeadline
  exact prewet_ite (prewet_of_only (setQueue_only s _) (by decide)) (removeEntry_prewet _ _ s)

theorem passDeadlines_prewet (s : State) : prewetOnly s (passDeadlines s) :=
  prewet_foldl (fun s e => passDeadline_prewet e s) _ s

theorem passOffered_prewet (o : Offer) (s : State) : prewetOnly s (passOffered o s) := by
  unfold passOffered
  split
  · exact passDeadline_prewet _ s
  · exact prewet_refl s

theorem queueChainEnd_prewet (ch : Chain) (c : Cause) (s : State) : prewetOnly s (queueChainEnd ch c s) := by
  have hd : ∀ s : State, prewetOnly s (dropReached ch.face ch.cls s) := by
    intro s
    unfold dropReached
    split
    · exact prewet_ite (removeEntry_prewet _ _ s) (prewet_refl s)
    · exact prewet_refl s
  have ha : ∀ s : State, prewetOnly s (countAttempt ch.face ch.cls s) := by
    intro s
    unfold countAttempt
    split
    · exact prewet_ite (prewet_trans (removeEntry_prewet _ _ s) (prewet_of_only (setQueue_only _ _) (by decide)))
        (prewet_of_only (setQueue_only s _) (by decide))
    · exact prewet_refl s
  have he : prewetOnly s (endEntry ch c s) := by
    unfold endEntry
    split
    · refine prewet_trans (t := stopRunning ch.face ch.cls s) (prewet_of_only (setQueue_only s _) (by decide)) ?_
      exact prewet_trans (prewet_ite (ha _) (prewet_refl _)) (hd _)
    · exact prewet_refl s
  have hr : ∀ (n : Nat) (s : State) (e : Entry), prewetOnly s (reduceEntry n s e) := by
    intro n s e
    unfold reduceEntry
    refine prewet_ite (prewet_ite (removeEntry_prewet _ _ s) ?_) (prewet_of_only (setQueue_only s _) (by decide))
    exact prewet_trans (removeEntry_prewet _ _ s) (prewet_of_only (setFree_only _ _) (by decide))
  have hc : ∀ s : State, prewetOnly s (completionReduction ch.face ch.cls ch.litres s) := by
    intro s
    unfold completionReduction
    exact prewet_ite (prewet_refl s) (prewet_foldl (hr _) _ s)
  exact prewet_trans he (prewet_trans (hc _) (prewet_of_only (setQueue_only _ _) (by decide)))

theorem trySelection_prewet (s : State) : prewetOnly s (trySelection s) :=
  prewet_of_only (trySelection_only s) (by decide)

/-- A chain end writes the last prewet results alone. -/
theorem chainEnd_prewet (c : Cause) (s : State) : prewetOnly s (chainEnd c s) := by
  unfold chainEnd
  split
  · exact prewet_refl s
  · refine prewet_trans ?_ (trySelection_prewet _)
    refine prewet_trans ?_ (queueChainEnd_prewet _ c _)
    refine prewet_trans ?_ (prewet_of_only (afterChain_only c _ _) (by decide))
    refine prewet_trans ?_ (prewet_of_only (onCannon_only _ _) (by decide))
    refine prewet_trans ?_ (prewet_of_only (endClaim_only c _) (by decide))
    exact prewet_of_only (onCannon_only s _) (by decide)

theorem preempt_prewet (o : Offer) (s : State) : prewetOnly s (preempt o s) := by
  unfold preempt
  split
  · exact prewet_ite (chainEnd_prewet _ s) (prewet_refl s)
  · exact prewet_refl s

/-- An offer to the Spray Queue writes the last prewet results alone. -/
theorem offerDemand_prewet (o : Offer) (s : State) : prewetOnly s (offerDemand o s).1 := by
  have ha := admitOffer_prewet o s
  unfold offerDemand
  split
  · rename_i s1 h
    rw [h] at ha
    exact prewet_trans ha (prewet_trans (passOffered_prewet o _) (prewet_trans (preempt_prewet o _)
      (trySelection_prewet _)))
  · rename_i s1 h
    rw [h] at ha
    exact prewet_trans ha (prewet_trans (passOffered_prewet o _) (prewet_trans (preempt_prewet o _)
      (trySelection_prewet _)))
  · exact ha

theorem recompute_prewet (s : State) : prewetOnly s (recompute s) := by
  unfold recompute
  split
  · exact prewet_refl s
  · exact prewet_refl s
  · exact prewet_ite (prewet_refl s) (prewet_of_only (settleDecision_only _ s) (by decide))
  · split
    · exact prewet_trans (prewet_of_only (takeDecision_only _ s) (by decide))
        (prewet_of_only (changeOnTime_only _ _) (by decide))
    · exact chainEnd_prewet _ s

theorem gatingEffects_prewet (g : Gate) (s : State) : prewetOnly s (gatingEffects g s) := by
  unfold gatingEffects
  refine prewet_ite (prewet_refl s) (prewet_trans (trySelection_prewet s) ?_)
  simp only
  split
  · exact prewet_ite (prewet_refl _) (chainEnd_prewet _ _)
  · exact prewet_refl _

theorem chargeEntry_prewet (ch : Chain) (s : State) : prewetOnly s (chargeEntry ch s) := by
  unfold chargeEntry
  split
  · exact prewet_ite (removeEntry_prewet _ _ s) (prewet_of_only (setQueue_only s _) (by decide))
  · exact prewet_refl s

theorem completeSegment_prewet (ch : Chain) (s : State) : prewetOnly s (completeSegment ch s) := by
  unfold completeSegment
  refine prewet_ite ?_ (prewet_trans (prewet_of_only (onCannon_only s _) (by decide)) (chainEnd_prewet _ _))
  exact prewet_trans (prewet_of_only (onCannon_only s _) (by decide))
    (prewet_trans (prewet_of_only (releaseClaim_only _) (by decide))
      (prewet_of_only (enterClaiming_only _ _) (by decide)))

theorem chargeChain_prewet (s : State) : prewetOnly s (chargeChain s) := by
  unfold chargeChain
  split
  · refine prewet_ite ?_ (prewet_refl s)
    have h : ∀ ch g, prewetOnly s ((chargeEntry ch s).onCannon g) := fun ch g =>
      prewet_trans (chargeEntry_prewet ch s) (prewet_of_only (onCannon_only _ g) (by decide))
    exact prewet_ite (prewet_trans (h _ _) (completeSegment_prewet _ _)) (h _ _)
  · exact prewet_refl s

end Machine

end Sys2Proof
end

