-- ==== Sys2Proof/Tests/Slice0.lean ====
section
/-! SUPPORT. Tests of one command each on small states, with figures from the worked sequences of the spec, the refusals
of the well-formedness check, the frames and messages written out byte by byte, and for every statement with hypotheses a
state that meets them. -/

namespace Sys2Proof.Tests

open Sys2Proof.Machine

/-! ### A small station -/

/-- The state after a command. -/
def after (c : Instr) (s : State) : State :=
  match exec c s with
  | .next t => t
  | _ => s

/-- The face of the worked sequence 2.7, with an arc. -/
def face (enabled : Bool) (arcStart arcEnd : Nat) : FaceDesc :=
  { enabled := enabled, normal := 262, arcStart := arcStart, arcEnd := arcEnd, centreX := 1560, centreY := 940
    area := 2400, kd := 24, kw := 60, km := 8, wt0 := 45, mg := 10, msat := 1800, mInit := 620, radius := 120, ka := 20
    contact := true }

/-- Settings with the figures of the worked sequences of 5.4, 6.7, 7.6 and 11.7. -/
def settings : Configuration :=
  { forecastNode := 60, supplyNode := 61, x := 1500, y := 900, acwStop := 300, cwStop := 200, nozzle := 40, period := 10
    tOn := 6, tOnMin := 2, quantum := 2000, drainTime := 20, primingTime := 60, standbyCount := 3, slewTimeout := 100
    noFlowTime := 8, wCut := 160, settleTime := 3, fallbackCapacity := 30, pondReserve := 30, pMin := 25
    fallbackWind := 120, lElev := 150, lExc := 400, recoveryTime := 5, responseWindow := 180, beta := 30, dMax := 600
    vKnock := 800, relaySet := ⟨true, false, true, false, false, false, false, false, true, false⟩, tWatch := 20
    tAct := 40, hyst := 4, vMin := 50, vMaxDose := 6000, prewetLead := 60, supervisor := 615940, mode := .rotate
    faces := ⟨face true 310 330, face true 340 20, face true 30 30, face false 0 0⟩, firstFace := 1 }

/-- A face record with a class. -/
def record (d : FaceDesc) (cls : FaceClass) : FaceRecord := { FaceRecord.formed d with cls := cls }

/-- A station in RUN at 1,000 s with three faces, its supply known, its cannon PARKED and its request open. -/
def runs : State :=
  let s1 := State.reset.setNow 1000000
  let s2 := s1.setStation
    { mode := .run, node := 12, stored := some settings, config := some settings, cause := .powerOn, lastReset := 0, listen := .stopped
      window := .stopped }
  let s3 := s2.setFace
    { timer := .running 1000000
      records :=
        ⟨some (record (face true 310 330) .quiet), some (record (face true 340 20) .watch),
          some (record (face true 30 30) .act), none⟩ }
  let s4 := s3.setQueue { s3.queue with request := true, rotation := [1, 2, 3, 0] }
  let s5 := s4.setClaim
    { s4.claim with
      supply :=
        { capacity := some 60, source := .reuse, pond := some 64, day := some 412, allowance := 5000
          lastArrival := some 990, staleTimer := .running 1290000, stale := false } }
  let s6 := s5.setCannon { s5.cannon with bearing := some 100, primed := true }
  let s7 := s6.setWind
    { s6.wind with
      minute := .running 1000000
      record := { s6.wind.record with speed := 100, gust := 120, bearing := 330 } }
  s7.setAccount
    { s7.account with today := { s7.account.today with day := some 412, allowance := 5000 }, dayStart := 900 }

/-- The station in another state of Station Control. -/
def inMode (m : Mode) : State := runs.setStation { runs.station with mode := m }

/-- An entry of the queue. -/
def entry (f : FaceId) (c : DemandClass) (requested delivered : Nat) : Entry :=
  { face := f, cls := c, requested := requested, delivered := delivered, origin := .localRisk, enqueue := 800
    deadline := none, reached := false, attempts := 0, running := false }

/-- A chain of a SUPPRESS entry for face 1, of three segments. -/
def chain : Chain :=
  { face := 1, cls := .suppress, origin := .localRisk, basis := 800, requested := 4480, remaining := 4480, planned := 3
    quantum := 2000, start := 900, index := 1, completed := 0, segment := 0, litres := 0, valveOpened := false
    waiting := false, sweep := .clockwise }

/-- The station with entries in its queue. -/
def queued (es : List Entry) (s : State) : State := s.setQueue { s.queue with entries := es, request := false }

/-- The station with the chain at a segment and litres, in a cannon state. -/
def serving (st : CannonState) (ch : Chain) : State :=
  let s1 := queued [{ entry ch.face ch.cls ch.requested ch.litres with running := true }] runs
  s1.setCannon { s1.cannon with state := st, chain := some ch, chargeFace := some ch.face }

/-- The station with its claim in a state. -/
def claiming (c : ClaimState) (s : State) : State :=
  s.setOwn
    { s.claim.own with
      state := c, cls := some .suppress, basis := some 800, serial := some 6, nextSerial := 7
      settle := .running 1000000, refresh := .running 1000000 }

/-- The station while it sprays, with an on-time of 6 s. -/
def spraying : State :=
  let s1 := claiming .granted (serving .spraying { chain with valveOpened := true })
  let s2 := s1.setOwn { s1.claim.own with qg := 24, tHeld := some 6 }
  s2.setCannon
    { s2.cannon with
      valveOpen := true, drive := some .clockwise, onTime := some 6, openedAt := 998000, period := .running 1008000
      on := .running 1000000, noFlow := .running 1000000, slew := .running 1000000 }

/-- A queued frame. -/
def frame (c : Content) (t : Nat) : TxFrame :=
  { content := c, originator := c.originator, queueTime := t, attempts := 0, inTx := false, noRetry := false }

/-- The station with an answer still being sent to the panel. -/
def answering (s : State) (busy : Option Nat) : State :=
  s.setPanel { s.panel with answer := some (PanelAnswer.of 5 .accepted [0]), busy := busy }

/-- The station with locks in its list and its store, its cannon LOCKED. -/
def lockedWith (l : List Lock) : State :=
  let s1 := runs.setLockout { runs.lockout with locks := l }
  let s2 := s1.setStore { s1.store with locks := some (l.map fun k => (k.code, k.level)) }
  let s3 := s2.setQueue { s2.queue with request := false }
  s3.setCannon { s3.cannon with state := .locked }

/-- The two locks of the worked sequence of 10.2. -/
def beltLock : Lock := { code := 204517, level := .standard, time := some 900 }

/-- The second of the two locks of the worked sequence of 10.2. -/
def drainLock : Lock := { code := 880231, level := .strict, time := some 950 }

/-- A peer heard at a time. -/
def peer (n heard : Nat) (k : MemberKind) (x y : Nat) : Peer := { Peer.fresh n heard k with position := some (x, y) }

/-- The station with peers in its map. -/
def knowing (ps : List Peer) (s : State) : State := s.setPeers { entries := ps, sweep := .running 1000000 }

/-- A peer with a claim. -/
def claimer (n : Nat) (c : DemandClass) (wait flow announce : Nat) : Peer :=
  { peer n 990 .station 1380 900 with
    claim := some { cls := c, flow := flow, wait := wait, serial := 3, announce := announce } }

/-- The station with frames in its transmit queue. -/
def sending (a : Access) (q : List TxFrame) (s : State) : State :=
  s.setLine { s.line with access := a, queue := q, quietSince := 999994 }

/-- A queue of 8 URGENT frames. -/
def fullQueue : List TxFrame := List.replicate 8 (frame (.release 2) 900)

/-- The station in EXCEED or another state of the Dust Watch Unit, with a window of readings and the notice 42. -/
def dusty (level : Exceedance) (count : Nat) (window : List Nat) (s : State) : State :=
  s.setDust
    { s.dust with
      window := window, level := level, count := count, serial := some 41, nextSerial := 42, mean := some 136
      watch := .running 1000000, refresh := .running 1000000, recovery := .running 1000000
      response := .running 1000000 }

/-! ### Well-formedness: an ill-formed term for each check -/

theorem test_wellFormed_pressure : (Instr.pressureReading 160).wellFormed ∧ ¬ (Instr.pressureReading 161).wellFormed := by
  decide

theorem test_wellFormed_sender :
    (Instr.releaseFrame 1 [4]).wellFormed ∧ ¬ (Instr.releaseFrame 0 [4]).wellFormed
      ∧ ¬ (Instr.releaseFrame 64 [4]).wellFormed := by decide

theorem test_wellFormed_lengths :
    ¬ (Instr.statusFrame 9 (List.replicate 18 0)).wellFormed ∧ ¬ (Instr.claimFrame 9 [1, 2, 3, 4]).wellFormed
      ∧ ¬ (Instr.releaseFrame 9 []).wellFormed ∧ ¬ (Instr.plumeFrame 9 (List.replicate 8 0)).wellFormed
      ∧ ¬ (Instr.coverFrame 9 [1, 2, 3]).wellFormed ∧ ¬ (Instr.windFrame 9 (List.replicate 9 0)).wellFormed
      ∧ ¬ (Instr.supplyFrame 9 (List.replicate 8 0)).wellFormed
      ∧ ¬ (Instr.machineFrame 9 (List.replicate 4 0)).wellFormed := by decide

theorem test_wellFormed_forecast :
    ¬ (Instr.forecastFrame 60 [17, 98]).wellFormed ∧ ¬ (Instr.forecastFrame 60 (List.replicate 49 0)).wellFormed
      ∧ ¬ (Instr.forecastFrame 60 [0x11, 0x62, 0x16, 0x3D]).wellFormed := by decide

theorem test_wellFormed_panel :
    ¬ (Instr.read 256 0 0 0).wellFormed ∧ ¬ (Instr.read 1 256 0 0).wellFormed ∧ ¬ (Instr.read 6 0 256 0).wellFormed
      ∧ ¬ (Instr.read 6 0 0 256).wellFormed ∧ ¬ (Instr.read 1 0 1 0).wellFormed ∧ (Instr.read 6 0 1 63).wellFormed
      ∧ ¬ (Instr.configure [1]).wellFormed ∧ ¬ (Instr.lock 16777216 0).wellFormed ∧ ¬ (Instr.lock 0 256).wellFormed
      ∧ ¬ (Instr.unlock 16777216).wellFormed ∧ ¬ (Instr.testSpray 256 0).wellFormed
      ∧ ¬ (Instr.testSpray 0 65536).wellFormed ∧ ¬ (Instr.panelUnknownCommand 256).wellFormed
      ∧ ¬ (Instr.pendingAnswerExpiry 64).wellFormed := by decide

/-! ### Words written out (12.1 to 12.4) -/

/-- The FORECAST payload of issue 17 in the worked sequence of 1.3. -/
def issue17 : List Byte :=
  [0x11, 0x62, 0x16, 0x3D, 0xE0, 0x00, 0x71, 0x37, 0xD0] ++ [0x02, 0x15, 0xDF, 0xE0, 0x87, 0x95, 0x82, 0x06, 0x00]

/-- The configuration block of the settings above, fields 1 to 29. -/
def blockHead : List Byte :=
  [60, 61, 5, 220, 3, 132, 1, 44, 0, 200, 40, 10, 6, 2, 7, 208, 20, 0, 60, 3, 0, 100]
    ++ [8, 0, 160, 3, 0, 30, 30, 25, 0, 120, 0, 150, 1, 144, 5, 0, 180, 30, 2, 88, 3, 32]

/-- Fields 30 to 47. -/
def blockModel : List Byte := [1, 0, 1, 0, 0, 0, 0, 0, 1, 0, 20, 40, 4, 0, 50, 23, 112, 60, 9, 102, 4, 1]

/-- Two faces. -/
def blockFaces : List Byte :=
  [1, 1, 6, 1, 54, 1, 74, 6, 24, 3, 172, 9, 96, 24, 60, 8, 45, 10, 7, 8, 2, 108, 0, 120, 20, 1]
    ++ [1, 1, 6, 1, 84, 0, 20, 6, 24, 3, 172, 9, 96, 24, 60, 8, 45, 10, 7, 8, 2, 108, 0, 120, 20, 1]

/-- The other two faces and the first face. -/
def blockTail : List Byte :=
  [1, 1, 6, 0, 30, 0, 30, 6, 24, 3, 172, 9, 96, 24, 60, 8, 45, 10, 7, 8, 2, 108, 0, 120, 20, 1]
    ++ [0, 1, 6, 0, 0, 0, 0, 6, 24, 3, 172, 9, 96, 24, 60, 8, 45, 10, 7, 8, 2, 108, 0, 120, 20, 1] ++ [1]

/-- The whole block. -/
def block : List Byte := blockHead ++ blockModel ++ blockFaces ++ blockTail

theorem test_block_reads : checkBlock 12 block = some settings := by decide +kernel

/-- T_act is field 41, and 20 is not above a T_watch of 25 (11.7). -/
theorem test_block_field41 : firstFailing 12 ((block.set 54 25).set 55 20) = some 41 := by decide

theorem test_crc_check_value : crc16 [49, 50, 51, 52, 53, 54, 55, 56, 57] = 0x29B1#16 := by decide +kernel

theorem test_frame_claim :
    receiveFrame 20 [0xA5, 0x0C, 0x02, 0x05, 0x06, 0x02, 0x00, 0x18, 0x03, 0x99, 0x3F] =
        some (.claimFrame 12 [6, 2, 0, 24, 3])
      ∧ receiveFrame 12 [0xA5, 0x0C, 0x02, 0x05, 0x06, 0x02, 0x00, 0x18, 0x03, 0x99, 0x3F] = some .duplicate
      ∧ receiveFrame 20 [0xA5, 0x0C, 0x02, 0x05, 0x06, 0x02, 0x00, 0x18, 0x03, 0x99, 0x3E] = some .frameDiscarded := by
  decide +kernel

theorem test_frame_written :
    (Content.claim 6 .suppress 24 3).bytes 12 =
      [0xA5, 0x0C, 0x02, 0x05, 0x06, 0x02, 0x00, 0x18, 0x03, 0x99, 0x3F] := by decide +kernel

theorem test_frames_of_peers :
    receiveFrame 12 [0xA5, 0x09, 0x03, 0x01, 0x04, 0x5D, 0x52] = some (.releaseFrame 9 [4])
      ∧ receiveFrame 12 [0xA5, 0x16, 0x05, 0x04, 0x0E, 0x2A, 0x01, 0x02, 0x5D, 0xB9] = some (.coverFrame 22 [14, 42, 1, 2])
      ∧ receiveFrame 12 [0xA5, 0x32, 0x0B, 0x05, 0x06, 0x40, 0x03, 0xB6, 0x01, 0xAE, 0xA9] =
          some (.machineFrame 50 [6, 64, 3, 182, 1]) := by decide +kernel

theorem test_forecast_reads :
    decodeForecast issue17 =
      { issue := 17, lead := 12
        slots :=
          [{ mean := 110, gust := 150, bearing := 240, rain := 0 }, { mean := 140, gust := 190, bearing := 250, rain := 0 },
           { mean := 165, gust := 230, bearing := 255, rain := 4 },
           { mean := 150, gust := 210, bearing := 260, rain := 12 }] } := by decide

theorem test_panel_messages :
    receivePanel [0x3C, 0x03, 0x04, 0x03, 0x1E, 0xE5, 0x00, 0xF3] = some (.lock 204517 0)
      ∧ receivePanel [0x3C, 0x04, 0x03, 0x09, 0x66, 0x04, 0x86] = some (.unlock 615940)
      ∧ receivePanel [0x3C, 0x01, 0x04, 0x06, 0x00, 0x01, 0x3F, 0xB5] = some (.read 6 0 1 63)
      ∧ receivePanel [0x3C, 0x08, 0x03, 0x02, 0x01, 0x2C, 0xC6] = some (.testSpray 2 300)
      ∧ receivePanel [0x3C, 0x05, 0x00, 0xFB] = some .ackAlarms ∧ receivePanel [0x3C, 0x05, 0x00, 0xFA] = some .panelBadCheck
      ∧ receivePanel [0x3C, 0x09, 0x00, 0xF7] = some (.panelUnknownCommand 9) := by decide

/-! ### The machine -/

theorem witness_StepTakesFront : (runs.setPending [.sweep, .duplicate]).pending = .sweep :: [.duplicate] := by decide

theorem witness_IdleStep :
    State.reset.pending = [] ∧ dueCommands State.reset = [] ∧ runs.pending = [] ∧ dueCommands runs ≠ [] := by decide

theorem test_idle_passes_time : step State.reset = .next (State.reset.setNow 1) := by rfl

theorem witness_PowerOnState : State.reset.station.mode = .start ∧ ∀ straps key, Instr.sweep ≠ .powerOn straps key := by
  decide

/-- The store of the settings above. -/
def stored : State := State.reset.setStore { block := storedBlock block, locks := some [(880231, .strict)] }

set_option maxRecDepth 100000 in
theorem test_power_on_listens :
    let t := after (.powerOn 12 false) stored
    t.station.mode = .listen ∧ t.station.stored = some settings ∧ t.cannon.state = .locked
      ∧ t.face.records.f3 = none ∧ t.face.records.f1 = some (record (face true 340 20) .quiet)
      ∧ t.wind.minute = .running 60000 ∧ t.dust.watch = .running 40000 ∧ t.line.isolation = .running 300000
      ∧ t.claim.supply.staleTimer = .running 300000 ∧ t.forecast.staleStart = some 0 := by decide +kernel

theorem test_power_on_without_a_block :
    let t := after (.powerOn 23 true) State.reset
    t.station.mode = .commission ∧ t.alarms.flags.configAbsent.state = .raised ∧ t.queue.request = true := by decide

set_option maxRecDepth 100000 in
/-- Strap 0 over a store that holds a valid block: CONFIG_ABSENT on the relay, and no supervisor code (R164, R177, R179). -/
theorem test_power_on_strap_zero :
    let t := after (.powerOn 0 false) stored
    t.station.mode = .unconfigured ∧ t.station.stored = some settings ∧ t.alarms.flags.configAbsent.state = .raised
      ∧ t.alarms.relay = true ∧ t.supervisor = none := by decide +kernel

/-! ### Wind and forecast -/

/-- The station with samples counted. -/
def sampled (count : Nat) (first : Option Nat) : State :=
  runs.setWind { runs.wind with acc := { runs.wind.acc with count := count, first := first } }

theorem witness_SensorsAreCounted :
    (settled runs ∧ settled (sampled 60 (some 352)) ∧ settled (sampled 59 (some 352)) ∧ settled (inMode .unconfigured))
      ∧ runs.station.mode ≠ .start ∧ runs.wind.minute.isRunning = true ∧ (sampled 60 (some 352)).wind.acc.count = 60
      ∧ (sampled 59 (some 352)).wind.acc.first = some 352 ∧ runs.wind.acc.first = none ∧ runs.operational = true
      ∧ (inMode .unconfigured).operational = false
      ∧ ((runs.setWind { runs.wind with minute := .stopped }).wind.minute.isRunning = false
        ∧ settled (runs.setWind { runs.wind with minute := .stopped })) := by
  unfold settled; decide

/-- The worked minute of 1.1. -/
def workedMinute : List (Int × Int) :=
  [(140, 352), (152, 355), (147, 358), (165, 3), (171, 6), (158, 1)]
    ++ [(149, 357), (162, 4), (188, 9), (175, 8), (160, 2), (153, 359)]

/-- The station after the samples of the worked minute. -/
def minuteFull : State := workedMinute.foldl (fun s p => after (.anemometerSample p.1 p.2) s) runs

theorem test_worked_minute_sums :
    minuteFull.wind.acc = { count := 12, speedSum := 1920, largest := 188, first := some 352, offsetSum := 110 } := by
  decide

theorem test_worked_minute_close :
    let t := after .minuteClose minuteFull
    t.wind.record.speed = 160 ∧ t.wind.record.gust = 188 ∧ t.wind.record.bearing = 1
      ∧ t.wind.record.source = .localMinute := by decide

theorem test_sample_discarded : after (.anemometerSample 100 360) runs = runs ∧ after (.anemometerSample 100 (-1)) runs = runs := by
  decide

theorem test_rain_saturates :
    let r := record (face true 310 330) .quiet
    let s := runs.setFace { runs.face with records := ⟨some { r with pendingRain := 65535 }, none, none, none⟩ }
    (after .rainPulse s).face.records.f0 = some { r with pendingRain := 65535 } := by decide

/-- The two usable reports of the worked sequence of 1.2. -/
def reporters : List Peer :=
  [{ peer 14 975 .station 1380 900 with wind := some { speed := 150, bearing := 358, arrival := 975 } },
   { peer 60 960 .mast 1500 1500 with wind := some { speed := 170, bearing := 5, arrival := 960 } }]

/-- The station with a HELD or FALLBACK record whose last fresh wind came at a time. -/
def windAt (fresh : Option Nat) : State :=
  runs.setWind { runs.wind with record := { runs.wind.record with lastFresh := fresh, speed := 150, gust := 150 } }

theorem witness_MinuteCloseRecord :
    runs.wind.minute = .running 1000000 ∧ 1000000 ≤ runs.now ∧ 10 ≤ minuteFull.wind.acc.count
      ∧ runs.wind.acc.count < 10 ∧ runs.sec - 400 ≤ 600 ∧ 600 < runs.sec - 399 ∧ settled runs
      ∧ (after .minuteClose minuteFull).cutOut = minuteFull.cutOut := by
  unfold settled; decide

/-- Node 14 is the nearest of the two that report, and without peers there is no report. -/
theorem witness_MinuteCloseRecord_peer :
    usableWind (knowing reporters runs) { peer 14 975 .station 1380 900 with wind := some ⟨150, 358, 975⟩ } ⟨150, 358, 975⟩
        14400
      ∧ (∀ q w d, usableWind (knowing reporters runs) q w d → q.node = 14 ∨ 14400 < d)
      ∧ ∀ q w d, ¬ usableWind runs q w d := by
  refine ⟨⟨by decide, by decide, rfl, by decide, 1380, 900, rfl, by decide⟩, ?_, fun q w d h => nomatch h.1⟩
  rintro q w d ⟨hq, -, -, -, x, y, hp, hd⟩
  rcases List.mem_cons.mp hq with rfl | hq
  · exact .inl rfl
  · cases List.mem_singleton.mp hq
    cases hp
    exact .inr (hd ▸ by decide)

/-- Of two equally near the lower node number is taken, and a report of 181 s or of a LOST sender is not. -/
theorem test_close_nearest :
    let at' := fun n heard came x => { peer n heard .mast x 900 with wind := some ⟨100 + n, 0, came⟩ }
    let node := fun ps => (after .minuteClose (knowing ps runs)).wind.record.node
    node [at' 7 990 990 1520, at' 9 990 990 1480] = some 7 ∧ node [at' 7 990 819 1520, at' 9 990 820 1480] = some 9
      ∧ node [at' 7 849 990 1520, at' 9 850 990 1480] = some 9 := by decide

/-- The station before a close that makes the wind cut-out condition, or after one that made it. -/
def gusty (s : State) : State :=
  s.setWind { s.wind with acc := { count := 10, speedSum := 1600, largest := 211, first := some 330, offsetSum := 0 } }

/-- The wind above its cut-out. -/
def windy (s : State) : State := s.setWind { s.wind with record := { s.wind.record with speed := 161 } }

theorem witness_MinuteCloseRecord_cutOut :
    (gusty spraying).cutOut = false ∧ (after .minuteClose (gusty spraying)).cutOut = true
      ∧ (gusty spraying).cannon.state = .spraying ∧ (spraying.cannon.chain.map Chain.valveOpened) = some true
      ∧ (let c := gusty (claiming .deferred (serving .claiming chain))
         c.cutOut = false ∧ (after .minuteClose c).cutOut = true ∧ c.claim.own.state = .deferred
          ∧ c.cannon.state = .claiming)
      ∧ (let c := windy (serving .claiming chain)
         c.cutOut = true ∧ (after .minuteClose c).cutOut = false ∧ c.station.mode = .run ∧ c.claim.own.state = .none) := by
  decide

theorem test_cut_out :
    ((after .minuteClose (gusty spraying)).cannon.log.map SprayRecord.cause) = [.windCut]
      ∧ (after .minuteClose (gusty (claiming .settling (serving .claiming chain)))).claim.own.state = .none
      ∧ (after .minuteClose (windy (serving .claiming chain))).claim.own.state = .settling := by decide

theorem test_close_peer :
    let t := after .minuteClose (knowing reporters runs)
    t.wind.record.source = .peer ∧ t.wind.record.node = some 14 ∧ t.wind.record.speed = 150
      ∧ t.wind.record.bearing = 358 := by decide

theorem test_close_held_and_fallback :
    (after .minuteClose (windAt (some 400))).wind.record.source = .held
      ∧ (after .minuteClose (windAt (some 399))).wind.record.speed = 120
      ∧ (after .minuteClose (windAt (some 399))).alarms.flags.windLost.state = .raised := by decide

/-- The station at local minute 242 with the table of issue 17 taken at minute 200. -/
def forecastTaken : State :=
  let s1 := runs.setNow (242 * 60000)
  s1.setForecast
    { issue := some 17, arrival := some 200, staleStart := some 200, stale := false
      slots :=
        [{ start := 212, finish := 242, mean := 110, gust := 150, bearing := 240, rain := 0 },
         { start := 242, finish := 272, mean := 140, gust := 190, bearing := 250, rain := 0 }] }

/-- The station with an empty table that turns stale now. -/
def forecastEmpty : State := forecastTaken.setForecast { forecastTaken.forecast with slots := [], staleStart := some 62 }

theorem witness_ForecastMoments :
    settled forecastTaken ∧ forecastTaken.station.mode ≠ .start ∧ 242 ≤ forecastTaken.minute
      ∧ (settled forecastEmpty ∧ forecastEmpty.forecast.staleStart = some 62 ∧ 62 + 180 ≤ forecastEmpty.minute
        ∧ forecastEmpty.forecast.stale = false) := by
  unfold settled; decide

theorem test_slot_end : ((after .slotEnd forecastTaken).forecast.slots.map Slot.start) = [242] := by decide

theorem test_forecast_stale :
    (after .forecastStaleExpiry forecastEmpty).forecast.stale = true
      ∧ (after .forecastStaleExpiry forecastTaken).forecast.stale = false := by decide

theorem witness_ForecastReplaced :
    runs.operational = true ∧ frameWellFormed .forecast 60 issue17 = true ∧ 60 ≠ runs.station.node
      ∧ runs.forecast.issue = none ∧ runs.forecast.slots = [] := by decide

theorem test_forecast_worked :
    let s := (runs.setNow (200 * 60000)).setForecast { runs.forecast with issue := some 16 }
    ((after (.forecastFrame 60 issue17) s).forecast.slots.map fun k => (k.start, k.finish, k.mean, k.gust, k.rain)) =
      [(212, 242, 110, 150, 0), (242, 272, 140, 190, 0), (272, 302, 165, 230, 4), (302, 332, 150, 210, 12)] := by decide

theorem test_forecast_refused :
    (after (.forecastFrame 60 issue17) forecastTaken).forecast = forecastTaken.forecast
      ∧ (after (.forecastFrame 22 issue17) runs).forecast = runs.forecast := by decide

/-! ### Faces -/

/-- The face of 2.7 before the evaluation at minute n, under the wind of that evaluation, with nothing else to do. -/
def workedFace : State :=
  let s1 := runs.setFace
    { runs.face with records := ⟨none, none, some { record (face true 30 30) .watch with m := 620 }, none⟩ }
  s1.setWind { s1.wind with record := { s1.wind.record with speed := 150, gust := 150, bearing := 250, source := .localMinute } }

theorem witness_EvaluationOfAFace :
    workedFace.station.mode ≠ .start ∧ workedFace.face.timer = .running 1000000 ∧ 1000000 ≤ workedFace.now
      ∧ workedFace.face.records.get 0 = none ∧ (workedFace.face.records.get 2).isSome := by decide

theorem test_worked_evaluation :
    let t := after .evaluation workedFace
    (t.face.records.f2.map fun r => (r.m, r.rd, r.index)) = some (613, 7936, 49)
      ∧ (t.face.records.f2.map FaceRecord.cls) = some .act
      ∧ (t.queue.entries.map fun e => (e.face, e.cls, e.requested)) = [(2, .suppress, 6000)] := by decide

/-- The face of 2.7 in ACT, or drier winds, with entries in the queue and no request. -/
def sizing (speed : Nat) (es : List Entry) : State :=
  let s := queued es workedFace
  s.setWind { s.wind with record := { s.wind.record with speed := speed } }

theorem witness_EvaluationOfAFace_sizing :
    (sizing 150 []).operational = true ∧ (sizing 150 []).queue.request = false
      ∧ queueInv (sizing 150 [entry 2 .suppress 900 20]).queue ∧ 0 < (sizing 150 []).cfg.vMin
      ∧ (sizing 150 []).cfg.vMin ≤ (sizing 150 []).cfg.vMaxDose := by
  unfold queueInv; decide

/-- The five outcomes of step 8 (R33 to R36). -/
theorem test_sizing_outcomes :
    let of := fun speed es =>
      ((after .evaluation (sizing speed es)).face.records.f2.bind FaceRecord.lastSizing).map LastSizing.outcome
    of 150 [] = some .added ∧ of 150 [entry 2 .suppress 900 20] = some .updated
      ∧ of 150 [{ entry 2 .knockdown 900 20 with running := true }] = some .skipped
      ∧ of 135 [entry 2 .suppress 900 20] = some .held ∧ of 60 [] = some .none
      ∧ of 60 [entry 2 .suppress 900 20] = some .removed := by decide

/-- A step 8 that sizes nothing leaves no volume of an earlier one (log 40). -/
theorem test_sizing_without_a_volume :
    let earlier := fun (r : FaceRecord) => { r with lastSizing := some { volume := some 900, outcome := .updated } }
    let s := sizing 135 [entry 2 .suppress 900 20]
    let t := after .evaluation (s.setFace { s.face with records := ⟨none, none, s.face.records.f2.map earlier, none⟩ })
    (t.face.records.f2.bind FaceRecord.lastSizing) = some { volume := none, outcome := .held } := by decide

/-- The runoff of all faces is credited to today's record (R28, R114). -/
theorem test_runoff_is_credited :
    let r := { record { face true 0 0 with kd := 10, kw := 40 } .quiet with m := 1790, pendingRain := 60 }
    let s := workedFace.setFace { workedFace.face with records := ⟨some r, none, some r, none⟩ }
    runoffFormed s r = 28020 ∧ (after .evaluation s).account.today.runoff = 2 * 28020 := by decide

/-- Rain on a face near saturation (2.8). -/
theorem test_worked_runoff :
    let d := { face true 0 0 with area := 5000, kd := 10, kw := 40, msat := 1500 }
    let r := { record d .quiet with m := 1480, rs := 4200, pendingRain := 6, pendingSpray := 500 }
    let p := stepGains (stepDrying 30 6 r)
    p.1.m = 1500 ∧ p.1.rs = 4200 ∧ p.1.rd = 3000 ∧ p.2 = 4000 := by decide

/-- The station of 3.9 at 18,000 s, the cannon serving another face. -/
def lookStation : State :=
  let s1 := (queued [{ entry 0 .suppress 500 0 with running := true }] runs).setNow 18000000
  let s2 := s1.setFace
    { s1.face with
      records := ⟨none, none, some { record (face true 30 30) .quiet with m := 700, rd := 2000 }, none⟩ }
  s2.setForecast
    { issue := some 41, arrival := some 290, staleStart := some 290, stale := false
      slots :=
        [{ start := 290, finish := 320, mean := 110, gust := 0, bearing := 240, rain := 0 },
         { start := 320, finish := 350, mean := 120, gust := 0, bearing := 300, rain := 3 },
         { start := 350, finish := 380, mean := 160, gust := 0, bearing := 255, rain := 0 },
         { start := 380, finish := 410, mean := 170, gust := 0, bearing := 250, rain := 0 }] }

theorem witness_LookAheadInRange :
    ((lookStation.face.records.get 2).map fun r => decide (r.m ≤ r.desc.msat)) = some true
      ∧ lookStation.cfg.vMin ≤ lookStation.cfg.vMaxDose := by decide

/-- A look-ahead with another window, another moisture, or the face's own entry running. -/
def lookCase (slots : List Slot) (m : Nat) (entries : List Entry) : State :=
  let s1 := queued entries lookStation
  let s2 := s1.setForecast { s1.forecast with slots := slots }
  s2.setFace { s2.face with records := ⟨none, none, some { record (face true 30 30) .quiet with m := m, rd := 2000 }, none⟩ }

/-- The slots of 3.9 that the window holds. -/
def lookWindow : List Slot := lookStation.forecast.slots.take 3

/-- In 3.9 the third slot is the predicted one, behind two that do not reach T_act. -/
theorem witness_LookAheadInRange_predicted :
    let r := { record (face true 30 30) .quiet with m := 700, rd := 2000 }
    let c := lookStation.cfg
    (lookStation.forecast.slots.filter fun k => decide (300 < k.finish) && decide (k.start ≤ 300 + c.prewetLead)) =
        lookWindow
      ∧ lookWindow = lookWindow.take 2 ++ { start := 350, finish := 380, mean := 160, gust := 0, bearing := 255, rain := 0 } :: []
      ∧ predictedAt r 300 (lookWindow.take 2) { start := 350, finish := 380, mean := 160, gust := 0, bearing := 255, rain := 0 } =
          (171, 162)
      ∧ (List.range 2).map (fun i => (lookWindow[i]?.map fun k => (predictedAt r 300 (lookWindow.take i) k).2)) =
          [some 5, some 11] := by decide

/-- The face of 2.7 with a forecast of one strong slot, or none. -/
def foreseen (slots : List Slot) : State :=
  workedFace.setForecast { issue := some 41, arrival := some 10, staleStart := some 10, stale := false, slots := slots }

theorem witness_EvaluationOfAFace_lookAhead :
    (foreseen lookWindow).station.mode ≠ .start ∧ (foreseen lookWindow).face.timer = .running 1000000
      ∧ (foreseen lookWindow).forecast.slots ≠ [] ∧ (foreseen []).forecast.slots = []
      ∧ ((after .evaluation (foreseen lookWindow)).face.records.get 2).isSome
      ∧ (foreseen lookWindow).cfg.vMin ≤ (foreseen lookWindow).cfg.vMaxDose := by decide

/-- The evaluation runs the look-ahead where the table holds a slot; without one the summaries stay (R40). -/
theorem test_evaluation_looks_ahead :
    let slot : Slot := { start := 20, finish := 50, mean := 160, gust := 0, bearing := 255, rain := 0 }
    ((after .evaluation (foreseen [slot])).look.f2.map fun y => (y.minute, y.slot)) = some (16, some 20)
      ∧ (after .evaluation (foreseen [slot])).look.f1 = none ∧ (after .evaluation (foreseen [])).look.f2 = none := by decide

/-- The outcomes of a look-ahead: an empty window, no slot that reaches T_act, a face wet enough, a chain that runs for
the face, and an offer. -/
theorem test_look_ahead_outcomes :
    let of := fun slots m entries => (lookAheadFace (lookCase slots m entries) 2).look.f2.map Summary.outcome
    let dry : Slot := { start := 290, finish := 320, mean := 160, gust := 0, bearing := 255, rain := 0 }
    of [] 700 [] = some .noSlot ∧ of (lookWindow.take 2) 700 [] = some .clear ∧ of [{ dry with mean := 260, rain := 255 }] 1800 [] = some .saturated
      ∧ of lookWindow 700 [{ entry 2 .suppress 500 0 with running := true }] = some .skipped
      ∧ of lookWindow 700 [] = some .added := by decide

theorem test_worked_projection :
    ((lookAheadFace lookStation 2).look.f2.map fun y => (y.moisture, y.index, y.slot, y.volume, y.deadline)) =
      some (171, some 162, some 350, some 6000, some 21000) := by decide

/-! ### The Spray Queue -/

/-- The full queue of the worked sequence of 4.8. -/
def fullSpray : List Entry :=
  [{ entry 1 .suppress 3000 1500 with running := true }, entry 2 .prewet 4000 0, entry 0 .prewet 2500 0, entry 3 .test 200 0]
    ++ [entry 1 .prewet 1200 0, entry 3 .suppress 1500 0, entry 3 .prewet 1800 0, entry 2 .suppress 2500 0]

/-- An offer of a notice for face 0. -/
def knock (f : FaceId) : Offer :=
  { face := f, cls := .knockdown, volume := 800, origin := .peerNotice 17, deadline := none }

theorem witness_OfferIsAdmitted_refused :
    queueInv runs.queue ∧ (runs.face.records.get (knock 3).face).isSome = false
      ∧ (runs.face.records.get (knock 0).face).isSome = true ∧ (knock 0).volume ≠ 0 ∧ runs.operational = true := by
  unfold queueInv; decide

theorem witness_OfferIsAdmitted_merged :
    queueInv (queued [entry 0 .knockdown 900 100] runs).queue
      ∧ (queued [entry 0 .knockdown 900 100] runs).queue.entries = [entry 0 .knockdown 900 100] := by
  unfold queueInv; decide

theorem witness_OfferIsAdmitted_evicts :
    queueInv (queued fullSpray runs).queue ∧ fullSpray.length = 8
      ∧ fullSpray = fullSpray.take 3 ++ entry 3 .test 200 0 :: fullSpray.drop 4
      ∧ (∀ x ∈ fullSpray, (entry 3 .test 200 0).cls.rank ≤ x.cls.rank) ∧ (entry 3 .test 200 0).running = false
      ∧ (∀ x ∈ fullSpray.drop 4, x.cls = (entry 3 .test 200 0).cls → x.running = true)
      ∧ (entry 3 .test 200 0).cls.rank < (knock 0).cls.rank
      ∧ ∀ e ∈ fullSpray, ¬ (e.face = (knock 0).face ∧ e.cls = (knock 0).cls) := by
  unfold queueInv; decide

/-- A TEST demand finds no entry that ranks below it. -/
theorem witness_OfferIsAdmitted_full :
    ∀ e ∈ fullSpray, (∀ x ∈ fullSpray, e.cls.rank ≤ x.cls.rank) →
      e.running = true ∨ DemandClass.test.rank ≤ e.cls.rank := by decide

theorem test_eviction_preempts :
    let r := offerDemand (knock 0) (queued fullSpray runs)
    r.2 = .added ∧ r.1.queue.lastRemoval.map Removal.reason = some .evicted := by decide

theorem witness_OfferIsAdmitted_preempts :
    queueInv spraying.queue ∧ spraying.cannon.chain.isSome ∧ (admitOffer (knock 0) spraying).2 = .added
      ∧ (spraying.queue.holds.get (knock 0).face).isRunning = false ∧ (∃ e ∈ spraying.queue.entries, e.running = true)
      ∧ (∀ e ∈ spraying.queue.entries, e.running = true → e.face ≠ (knock 0).face ∧ e.cls ≠ .knockdown)
      ∧ ∀ e ∈ spraying.queue.entries, e.running = true → e.face = (knock 1).face := by
  unfold queueInv; decide

theorem test_knockdown_preempts :
    ((offerDemand (knock 0) spraying).1.cannon.log.map SprayRecord.cause) = [.preempted]
      ∧ (offerDemand (knock 1) spraying).1.cannon = spraying.cannon := by decide

theorem witness_SelectionIsBest :
    queueInv (queued fullSpray runs).queue ∧ (queued fullSpray runs).choose = some (entry 2 .suppress 2500 0)
      ∧ queueInv runs.queue ∧ runs.choose = none := by
  unfold queueInv; decide

/-- The service mode FIXED with first face 2. -/
def fixedMode (es : List Entry) : State :=
  let s := queued es runs
  s.setStation { s.station with config := some { settings with mode := .fixed, firstFace := 2 } }

/-- With first face 2 the order is 2, 3, 0, 1 (R69). -/
theorem witness_SelectionIsBest_fixed :
    queueInv (fixedMode [entry 1 .suppress 900 0, entry 0 .suppress 900 0]).queue
      ∧ (fixedMode [entry 1 .suppress 900 0, entry 0 .suppress 900 0]).choose = some (entry 0 .suppress 900 0)
      ∧ (fixedMode []).faceOrder = [2, 3, 0, 1] := by
  unfold queueInv; decide

/-- A queue with a deadline that has come, one of them running. -/
def overdue : State :=
  queued [{ entry 1 .prewet 500 0 with deadline := some 1000 }, { entry 0 .prewet 500 0 with deadline := some 900, running := true }]
    runs

/-- The station with face 1 under a fault hold that ends now. -/
def held : State := runs.setQueue { runs.queue with holds := ⟨.stopped, .running 1000000, .stopped, .stopped⟩ }

theorem witness_QueueMoments :
    settled overdue ∧ overdue.station.mode ≠ .start ∧ queueInv overdue.queue ∧ settled held
      ∧ held.queue.holds.get 1 = .running 1000000 ∧ 1000000 ≤ held.now ∧ overdue.queue.request = false := by
  unfold settled queueInv; decide

theorem test_deadline :
    let t := after .deadline overdue
    (t.queue.entries.map fun e => (e.face, e.reached)) = [(0, true)]
      ∧ (t.face.records.f1.map FaceRecord.lastPrewet) = some (some (.missed, 1000))
      ∧ t.alarms.flags.prewetMissed.state = .raised ∧ t.queue.lastRemoval.map Removal.reason = some .deadline
      ∧ t.face.records.f0 = overdue.face.records.f0 := by decide

/-- An entry of the held face, which the end of the hold lets the open request take (R66, R67, R74). -/
def heldEntry : State := held.setQueue { held.queue with entries := [entry 1 .suppress 2500 400] }

theorem witness_QueueMoments_retried :
    settled heldEntry ∧ heldEntry.queue.request = true ∧ heldEntry.cannon.selectable = true
      ∧ heldEntry.station.mode = .run ∧ heldEntry.choose = none
      ∧ (heldEntry.setQueue { heldEntry.queue with holds := heldEntry.queue.holds.set 1 .stopped }).choose =
          some (entry 1 .suppress 2500 400) := by
  unfold settled; decide

theorem test_selected_chain :
    let t := after (.faultHoldExpiry 1) heldEntry
    t.queue.request = false ∧ (t.queue.entries.map Entry.running) = [true]
      ∧ (t.cannon.chain.map fun c => (c.requested, c.remaining, c.planned, c.quantum)) = some (2500, 2100, 2, 2000)
      ∧ (t.cannon.chain.map fun c => (c.basis, c.start)) = some (800, 1000) := by decide

theorem test_fault_hold_ends : (after (.faultHoldExpiry 1) held).queue.holds.get 1 = .stopped := by decide

/-! ### The cannon -/

theorem witness_EncoderReports :
    settled (serving .slewing chain) ∧ (serving .slewing chain).cannon.chain = some chain
      ∧ (serving .slewing chain).cannon.state = .slewing
      ∧ ((serving .slewing chain).descOf 1).arcStart = 340 ∧ settled runs ∧ runs.cannon.chain = none
      ∧ (serving .slewing chain).cutOut = false ∧ (serving .slewing chain).claim.own.state = .none
      ∧ settled spraying ∧ spraying.cannon.drive = some .clockwise ∧ spraying.cannon.state = .spraying := by
  unfold settled; decide

theorem test_on_bearing :
    let t := after (.encoderReport 340) (serving .slewing chain)
    t.cannon.state = .claiming ∧ t.claim.own.state = .settling ∧ t.claim.own.settle = .running 1003000 := by decide

theorem test_sweep_turns :
    (after (.encoderReport 20) spraying).cannon.drive = some .anticlockwise
      ∧ (after (.encoderReport 19) spraying).cannon.drive = some .clockwise := by decide

/-- The valve closed within a period. -/
def valveShut : State :=
  spraying.setCannon { spraying.cannon with valveOpen := false, on := .stopped, noFlow := .paused 2000, period := .running 1000000 }

/-- The standby timer has run out. -/
def idleCannon : State := runs.setCannon { runs.cannon with standby := .running 1000000 }

theorem witness_CannonTimers :
    settled spraying ∧ spraying.cannon.on = .running 1000000 ∧ settled valveShut
      ∧ valveShut.cannon.period = .running 1000000 ∧ valveShut.cannon.state = .spraying
      ∧ valveShut.cannon.onTime = some 6 ∧ settled idleCannon ∧ idleCannon.cannon.standby = .running 1000000
      ∧ idleCannon.cannon.state = .parked ∧ idleCannon.queue.request = true := by
  unfold settled; decide

theorem test_valve_closes : (after .onTimerExpiry spraying).cannon.valveOpen = false := by decide

theorem test_valve_opens :
    let c := (after .periodTimerExpiry valveShut).cannon
    c.valveOpen = true ∧ c.on = .running 1006000 ∧ c.period = .running 1010000 ∧ c.noFlow = .running 1002000 := by decide

theorem test_standby :
    (after .standbyExpiry idleCannon).cannon.state = .standby
      ∧ (after .standbyExpiry idleCannon).cannon.branchOpen = false := by decide

/-- The cannon in PRIMING or DRAINING with its timer at its end, with the chain waiting or without. -/
def waitsIn (st : CannonState) (ch : Option Chain) : State :=
  let s1 := match ch with
    | some c => serving st { c with waiting := true }
    | none => runs
  s1.setCannon { s1.cannon with state := st, priming := .running 1000000, drain := .running 1000000 }

/-- A drain that a LOCK runs toward. -/
def drainToLock : State := (waitsIn .draining none).setLockout { locks := [beltLock], attempts := 5 }

theorem witness_PrimingAndDrainEnd :
    settled (waitsIn .priming (some chain)) ∧ (waitsIn .priming (some chain)).cannon.state = .priming
      ∧ (waitsIn .priming (some chain)).cannon.priming = .running 1000000
      ∧ (waitsIn .priming (some chain)).cannon.chain = some { chain with waiting := true }
      ∧ (waitsIn .priming (some chain)).cannon.bearing ≠ some 340 ∧ (waitsIn .priming none).cannon.chain = none
      ∧ (waitsIn .priming none).queue.request = true ∧ (waitsIn .draining none).cannon.drain = .running 1000000
      ∧ (waitsIn .draining none).cannon.state = .draining ∧ (waitsIn .draining none).lockout.locks = []
      ∧ (waitsIn .draining none).cannon.branchOpen = true ∧ settled drainToLock ∧ drainToLock.lockout.locks ≠ [] := by
  unfold settled; decide

/-- A drain toward LOCKED whose lock list was emptied, with an entry or without (R168). -/
theorem witness_PrimingAndDrainEnd_unlocked :
    let s := fun es => queued es (waitsIn .draining none)
    settled (s []) ∧ (s []).cannon.chain = none ∧ (s []).queue.request = false ∧ (s []).choose = none
      ∧ settled (s [entry 1 .suppress 900 0])
      ∧ (s [entry 1 .suppress 900 0]).choose = some (entry 1 .suppress 900 0) := by
  unfold settled; decide

theorem test_drain_ends_unlocked :
    let t := fun es => after .drainExpiry (queued es (waitsIn .draining none))
    (t []).cannon.state = .parked ∧ (t []).queue.request = true
      ∧ ((t [entry 1 .suppress 900 0]).cannon.chain.map Chain.face) = some 1
      ∧ (t [entry 1 .suppress 900 0]).cannon.state = .slewing
      ∧ (let dry := queued [entry 1 .suppress 900 0] (waitsIn .draining none)
         (after .drainExpiry (dry.setCannon { dry.cannon with primed := false })).cannon.state = .priming) := by decide

theorem test_priming_ends :
    (after .primingExpiry (waitsIn .priming (some chain))).cannon.state = .slewing
      ∧ (after .primingExpiry (waitsIn .priming none)).cannon.state = .parked := by decide

theorem test_drain_ends :
    (after .drainExpiry (waitsIn .draining none)).cannon.state = .parked
      ∧ (after .drainExpiry drainToLock).cannon.state = .locked := by decide

theorem witness_SlewTimeoutFaults :
    spraying.cannon.slew = .running 1000000 ∧ 1000000 ≤ spraying.now ∧ spraying.cannon.chain.isSome
      ∧ spraying.station.mode ≠ .start := by decide

theorem test_slew_timeout :
    let t := after .slewTimeout spraying
    t.cannon.state = .fault ∧ t.alarms.flags.cannonFault.state = .raised
      ∧ (t.cannon.log.map SprayRecord.cause) = [.driveFault] := by decide

/-- The second dry start of 5.7. -/
def secondDry : State := spraying.setCannon { spraying.cannon with noFlowCount := 1 }

/-- An entry at its third attempt. -/
def thirdAttempt : State :=
  spraying.setQueue { spraying.queue with entries := [{ entry 1 .suppress 4480 0 with running := true, attempts := 2 }] }

theorem witness_NoFlowStops :
    spraying.cannon.noFlow = .running 1000000 ∧ queueInv spraying.queue ∧ spraying.cannon.noFlowCount = 0
      ∧ secondDry.cannon.noFlowCount = 1 ∧ queueInv thirdAttempt.queue
      ∧ (spraying.queue.entries.map Entry.running) = [true] := by
  unfold queueInv; decide

theorem test_no_flow :
    let t := after .noFlowExpiry spraying
    t.cannon.noFlowCount = 1 ∧ t.cannon.state = .slewing ∧ (t.queue.entries.map Entry.attempts) = [1] := by decide

theorem test_no_flow_again :
    (after .noFlowExpiry secondDry).cannon.state = .fault
      ∧ (after .noFlowExpiry thirdAttempt).queue.holds.get 1 = .running 1600000 := by decide

/-- The station under FRESH with some litres drawn today. -/
def fresh (drawn : Nat) (s : State) : State :=
  let s1 := s.setClaim { s.claim with supply := { s.claim.supply with source := .fresh } }
  s1.setAccount { s1.account with today := { s1.account.today with fresh := drawn } }

theorem witness_LitreIsCharged :
    settled runs ∧ runs.operational = true ∧ settled (inMode .commission) ∧ (inMode .commission).operational = false
      ∧ runs.claim.supply.source = .reuse ∧ settled (fresh 4999 spraying)
      ∧ (fresh 4999 spraying).claim.supply.source = .fresh := by
  unfold settled; decide

/-- The 300th litre of 6.9. -/
theorem test_fresh_exhausted :
    let t := after .flowPulse (fresh 4999 spraying)
    t.account.today.fresh = 5000 ∧ t.account.today.knockdown = 0 ∧ t.alarms.flags.freshExhausted.state = .raised
      ∧ (t.cannon.log.map SprayRecord.cause) = [.source] ∧ t.cannon.valveOpen = false := by decide

theorem test_coasting_litre : (after .flowPulse (fresh 5000 runs)).account.today.knockdown = 1 := by decide

/-- The chain before the last litre of its first segment, and of its last. -/
def lastLitre (index completed litres segment : Nat) : State :=
  spraying.setCannon
    { spraying.cannon with
      chain :=
        some { chain with index := index, completed := completed, litres := litres, segment := segment, valveOpened := true } }

theorem witness_LitreOfTheChain :
    spraying.operational = true ∧ queueInv spraying.queue ∧ spraying.cannon.state = .spraying
      ∧ spraying.account.today.allowance ≤ 4294967295 ∧ spraying.claim.supply.source = .reuse
      ∧ (let s := fresh 4999 spraying
         s.claim.supply.source ≠ .reuse ∧ ¬ s.account.today.fresh + 1 < s.account.today.allowance
          ∧ ¬ s.account.today.allowance ≤ s.account.today.fresh)
      ∧ chain.segment + 1 < chain.volume ∧ (chain.volume ≤ 1999 + 1 ∧ chain.index < chain.planned)
      ∧ ({ chain with index := 3 }.volume ≤ 479 + 1) := by
  unfold queueInv; decide

/-- 5.4: the 2,000th litre of a segment claims afresh, and the 480th of the last segment drains. -/
theorem test_segment_completes :
    (after .flowPulse (lastLitre 1 0 1999 1999)).cannon.state = .claiming
      ∧ ((after .flowPulse (lastLitre 1 0 1999 1999)).cannon.chain.map Chain.index) = some 2
      ∧ (after .flowPulse (lastLitre 3 2 4479 479)).cannon.state = .draining
      ∧ ((after .flowPulse (lastLitre 3 2 4479 479)).cannon.log.map fun r => (r.delivered, r.completed, r.cause)) =
          [(4480, 3, .complete)] := by decide

/-- The timer of a sweep leg waits while the drive stands between two segments, and a slew's is discarded (R76, R80;
log 41). -/
theorem test_leg_waits :
    let s := lastLitre 1 0 1999 1999
    let leg := fun due => (after .flowPulse (s.setCannon { s.cannon with slew := .running due })).cannon.slew
    let slews := s.setCannon { s.cannon with state := .slewing, slew := .running 1003000 }
    leg 1003000 = .paused 3000 ∧ leg 1000000 = .paused 0 ∧ (after .flowPulse slews).cannon.slew = .stopped := by decide

/-! ### The water claim and the account -/

/-- The peers of 6.7 as station 12 holds them. -/
def rivals : List Peer :=
  [claimer 3 .prewet 40 24 990, claimer 5 .knockdown 1 24 990, claimer 9 .suppress 7 18 990, claimer 20 .suppress 3 24 990]

/-- The station at its settle expiry. -/
def settling (ps : List Peer) : State := knowing ps (claiming .settling (serving .claiming chain))

theorem witness_GrantFitsHeader :
    0 < (settling rivals).cfg.nozzle ∧ 0 < (settling rivals).cfg.period
      ∧ (settling rivals).cfg.tOnMin ≤ (settling rivals).cfg.tOn ∧ (settling rivals).claim.own.ceiling = none
      ∧ (settling rivals).decision.tHeld = some 4 := by decide

theorem witness_SettleDecides :
    settled (settling rivals) ∧ (settling rivals).station.mode = .run
      ∧ (settling rivals).claim.own.settle = .running 1000000 ∧ (settling rivals).claim.own.state = .settling
      ∧ (settling rivals).cannon.state = .claiming ∧ (settling rivals).cannon.chain = some chain
      ∧ settled (settling []) ∧ (settling []).room = 60 ∧ (settling rivals).room = 18
      ∧ (settling [claimer 5 .knockdown 1 53 990]).room = 7 := by
  unfold settled; decide

/-- A leg that waited with 3 s left. -/
def legWaits : State := (settling []).setCannon { (settling []).cannon with slew := .paused 3000 }

theorem witness_SettleDecides_leg :
    settled legWaits ∧ legWaits.cannon.slew = .paused 3000 ∧ legWaits.cannon.chain = some chain
      ∧ (legWaits.descOf 1).arcStart ≠ (legWaits.descOf 1).arcEnd := by
  unfold settled; decide

theorem test_leg_runs_on :
    (after .settleExpiry legWaits).cannon.slew = .running 1003000
      ∧ (after .settleExpiry (settling [])).cannon.slew = .running 1100000 := by decide

/-- 6.7: the room of 18 throttles to 4 s and 16 L/s. -/
theorem test_throttled :
    let t := after .settleExpiry (settling rivals)
    t.claim.own.state = .throttled ∧ t.claim.own.tHeld = some 4 ∧ t.claim.own.qg = 16
      ∧ t.cannon.on = .running 1004000 := by decide

theorem test_deferred_and_granted :
    (after .settleExpiry (settling [claimer 5 .knockdown 1 53 990])).claim.own.state = .deferred
      ∧ (after .settleExpiry (settling [])).claim.own.state = .granted := by decide

theorem witness_ClaimIsRefreshed :
    settled spraying ∧ spraying.station.mode = .run ∧ spraying.claim.own.refresh = .running 1000000
      ∧ spraying.claim.own.state ≠ .none ∧ spraying.line.queue = [] := by
  unfold settled; decide

theorem test_claim_refresh :
    (after .claimRefresh spraying).line.queue.map TxFrame.content = [.claim 6 .suppress 24 3] := by decide +kernel

/-- A STATUS, a CLAIM and other URGENT frames wait; `n` frames in all. -/
def rowOf (n : Nat) : List TxFrame :=
  [{ frame (buildStatus runs) 900 with attempts := 3 }, { frame (.claim 6 .suppress 24 3) 901 with attempts := 2 }]
    ++ List.replicate (n - 2) (frame (.release 2) 902)

theorem witness_ClaimIsRefreshed_offers :
    let claim := fun k => Content.claim k .suppress 24 5
    (inMode .listen).station.mode ≠ .run ∧ runs.station.mode = .run ∧ (rowOf 8).length = 8
      ∧ replacedBy (buildStatus runs) { frame (buildStatus runs) 900 with attempts := 3 }
      ∧ ¬ replacedBy (claim 6) { frame (buildStatus runs) 900 with attempts := 3 }
      ∧ replacedBy (claim 6) { frame (claim 6) 901 with attempts := 2 } ∧ ¬ replacedBy (claim 5) (frame (claim 6) 901)
      ∧ statusWaits (frame (buildStatus runs) 900) ∧ ((rowOf 8).take 3).map (fun f => decide (f.isClaim 6)) = [false, true, false]
      ∧ (claim 5).urgent = true ∧ (rowOf 8).all (fun f => !f.isClaim 5) = true
      ∧ fullQueue.all (fun f => !f.waitingStatus) = true ∧ (buildStatus runs).urgent = false :=
  ⟨by decide, by decide, by decide, ⟨rfl, trivial⟩, fun h => h.2, ⟨rfl, rfl⟩,
    fun h => absurd (show (6 : Nat) = 5 from h.2) (by decide),
    ⟨rfl, _, rfl⟩, by decide, by decide, by decide, by decide, by decide⟩

/-- A CLAIM of the serial that waits is replaced in its place, one of another serial is new; where the queue is full it
takes the place of the STATUS, and without a STATUS it is refused; outside RUN all are (R149, R154, R155). -/
theorem test_line_offers :
    let claim := fun k => Content.claim k .suppress 24 5
    let row := fun r : State × Bool => (r.1.line.queue.map fun f => (f.content.urgent, f.queueTime, f.attempts), r.2)
    let waits := fun q => sending .waiting q runs
    (row (lineOffer (claim 6) (waits (rowOf 2)))) = ([(false, 900, 3), (true, 901, 2)], true)
      ∧ (row (lineOffer (claim 5) (waits (rowOf 2)))) = ([(false, 900, 3), (true, 901, 2), (true, 1000, 0)], true)
      ∧ (lineOffer (claim 5) (waits (rowOf 8))).1.line.queue =
          (rowOf 8).drop 1 ++ [frame (claim 5) 1000]
      ∧ (lineOffer (claim 5) (waits (rowOf 8))).1.line.due = true
      ∧ (lineOffer (claim 5) (waits fullQueue)) = (waits fullQueue, false)
      ∧ (lineOffer (claim 5) (inMode .listen)) = (inMode .listen, false) := by decide +kernel

/-- A refresh replaces the claim's waiting frame in its place, and is refused by a full queue (R106, R154, R155). -/
theorem test_claim_refresh_offers :
    let s := fun q => sending .waiting q spraying
    ((after .claimRefresh (s (rowOf 3))).line.queue.map TxFrame.attempts) = [3, 2, 0]
      ∧ (after .claimRefresh (s fullQueue)).line.queue = fullQueue := by decide +kernel

/-- The pressure low for 5 s, with a rival above the claim. -/
def lowPressure (stage : Option Nat) : State :=
  let s1 := knowing [claimer 5 .knockdown 1 24 990] spraying
  s1.setClaim { s1.claim with lowSince := some 990000, stageAt := stage, pressure := some 21 }

theorem witness_PressureBackstop :
    settled (lowPressure none) ∧ (lowPressure none).topRanked = false ∧ (lowPressure none).cannon.state = .spraying
      ∧ 990000 + 5000 ≤ (lowPressure none).now ∧ (lowPressure none).claim.own.tHeld = some 6
      ∧ (lowPressure none).claim.own.state = .granted ∧ settled (lowPressure (some 995000))
      ∧ 995000 + 5000 ≤ (lowPressure (some 995000)).now ∧ spraying.topRanked = true ∧ settled spraying
      ∧ settled runs ∧ runs.cannon.state ≠ .spraying := by
  unfold settled; decide

/-- 6.8: the first stage halves 6 s to 3 s, q_g to 12, with a ceiling of 3. -/
theorem test_first_stage :
    let o := (after .firstStage (lowPressure none)).claim.own
    o.tHeld = some 3 ∧ o.qg = 12 ∧ o.ceiling = some 3 ∧ o.state = .throttled := by decide +kernel

theorem test_second_stage :
    ((after .secondStage (lowPressure (some 995000))).cannon.log.map SprayRecord.cause) = [.pressure]
      ∧ after .secondStage (lowPressure (some 995001)) = lowPressure (some 995001) := by decide

/-- The PRESSURE stop of an entry at its third attempt, which leaves with its face held (R61, R66). -/
def pressedOut : State :=
  (lowPressure (some 995000)).setQueue thirdAttempt.queue

theorem witness_PressureBackstop_third :
    settled pressedOut ∧ queueInv pressedOut.queue ∧ pressedOut.topRanked = false
      ∧ queueInv (lowPressure (some 995000)).queue
      ∧ (pressedOut.queue.entries.map fun e => (e.running, e.reached, e.attempts)) = [(true, false, 2)] := by
  unfold settled queueInv; decide

theorem test_second_stage_third :
    (after .secondStage pressedOut).queue.entries = []
      ∧ (after .secondStage pressedOut).queue.holds.get 1 = .running 1600000
      ∧ (after .secondStage (lowPressure (some 995000))).queue.entries.map Entry.attempts = [1] := by decide

/-- An on-time lowered after a raise keeps the earlier end of the running on timer (log 39). -/
theorem test_on_time_lowered :
    let c := spraying.cannon
    let raised := { c with onTime := some 6, on := .running 1002000 }
    (raised.applyOnTime 1000000 5).on = .running 1002000 ∧ (raised.applyOnTime 1000000 3).on = .running 1001000 := by
  decide +kernel

theorem test_pressure_reading :
    (after (.pressureReading 21) spraying).claim.lowSince = some 1000000
      ∧ (after (.pressureReading 27) (lowPressure none)).claim.lowSince = none := by decide

/-- A SUPPLY payload: REUSE, pond 61 %, day 413, allowance 4,000 (6.9). -/
def day413 : List Byte := [0, 60, 0, 61, 1, 157, 0, 15, 160]

theorem witness_SupplyIsTaken :
    runs.operational = true ∧ frameWellFormed .supply 61 day413 = true ∧ 61 ≠ runs.station.node
      ∧ 61 = runs.cfg.supplyNode ∧ waterSourceOf (byteAt day413 2) = some .reuse ∧ runs.account.today.day = some 412
      ∧ 412 ≠ word16At day413 4 ∧ word16At (day413.set 5 156) 4 = 412 ∧ 22 ≠ runs.cfg.supplyNode
      ∧ 1 < byteAt (day413.set 2 2) 2 := by decide

/-- A chain of a PREWET entry. -/
def prewetting : State :=
  spraying.setCannon { spraying.cannon with chain := some { chain with cls := .prewet, valveOpened := true } }

/-- The frame of the same day with FRESH as its source changes the gating; one of 30 L/s changes the capacity alone. -/
theorem witness_SupplyIsTaken_effects :
    cannonInv prewetting ∧ (findPeer 61 prewetting.peers.entries).bind Peer.claim = none
      ∧ (after (.supplyFrame 61 ((day413.set 5 156).set 2 1)) prewetting).gate ≠ prewetting.gate
      ∧ (let t := after (.supplyFrame 61 ((day413.set 5 156).set 1 30)) spraying
         t.gate = spraying.gate ∧ t.capacityInUse ≠ spraying.capacityInUse) := by
  unfold cannonInv; decide +kernel

theorem test_supply_effects :
    ((after (.supplyFrame 61 ((day413.set 5 156).set 2 1)) prewetting).cannon.log.map SprayRecord.cause) = [.source]
      ∧ (after (.supplyFrame 61 ((day413.set 5 156).set 1 20)) spraying).claim.own.state = .throttled
      ∧ ((after (.supplyFrame 61 ((day413.set 5 156).set 1 7)) spraying).cannon.log.map SprayRecord.cause) =
          [.yielded] := by decide +kernel

theorem test_supply_rollover :
    let t := after (.supplyFrame 61 day413) (fresh 5809 runs)
    t.account.today = { day := some 413, allowance := 4000, reuse := 0, fresh := 0, knockdown := 0, runoff := 0 }
      ∧ t.account.yesterday.fresh = 5809 ∧ t.claim.supply.source = .reuse := by decide +kernel

theorem test_supply_same_day : (after (.supplyFrame 61 (day413.set 5 156)) runs).account.today.allowance = 5000 := by decide +kernel

/-- The supply at 300 s without a frame. -/
def silentSupply (stale : Bool) : State :=
  let s1 := runs.setClaim { runs.claim with supply := { runs.claim.supply with staleTimer := .running 1000000, stale := stale } }
  s1.setNow 86400000000

theorem witness_StaleSupply :
    (silentSupply false).station.mode ≠ .start ∧ (silentSupply false).claim.supply.staleTimer = .running 1000000
      ∧ 1000000 ≤ (silentSupply false).now ∧ (silentSupply false).claim.supply.stale = false
      ∧ (silentSupply true).claim.supply.stale = true
      ∧ (silentSupply true).account.dayStart + 86400 ≤ (silentSupply true).sec := by decide

theorem test_supply_stale :
    let t := after .supplyStaleExpiry (silentSupply false)
    t.claim.supply.stale = true ∧ t.alarms.flags.supplyStale.state = .raised ∧ t.account.today.day = some 413 := by decide

/-- A chain under a stale supply whose capacity falls to the fallback of 30 L/s, on a young day, and the fresh ration
spent on an old one. -/
def staleSpraying (node : Nat) : State :=
  let s := knowing [claimer node .knockdown 1 23 990] spraying
  s.setClaim { s.claim with supply := { s.claim.supply with staleTimer := .running 1000000 } }

/-- A spent ration that a rollover renews. -/
def spentSupply : State :=
  let s := fresh 5000 (silentSupply true)
  queued [entry 1 .suppress 900 0] (s.setClaim { s.claim with lowSince := none })

theorem witness_StaleSupply_effects :
    (staleSpraying 5).sec < (staleSpraying 5).account.dayStart + 86400
      ∧ (after .supplyStaleExpiry (staleSpraying 5)).capacityInUse ≠ (staleSpraying 5).capacityInUse
      ∧ (after .staleRollover spentSupply).gate ≠ spentSupply.gate := by decide +kernel

theorem test_stale_yields :
    ((after .supplyStaleExpiry (staleSpraying 5)).cannon.log.map SprayRecord.cause) = [.yielded]
      ∧ (let s := spentSupply.setQueue { spentSupply.queue with request := true }
         ((after .staleRollover s).cannon.chain.map Chain.face) = some 1) := by decide +kernel

theorem test_stale_rollover : (after .staleRollover (silentSupply true)).account.today.allowance = 5000 := by decide

/-! ### Dust -/

theorem witness_DustReadings :
    runs.operational = true ∧ runs.cfg.lElev < runs.cfg.lExc
      ∧ (dusty .clear 0 [1] runs).dust.window.length < 5
      ∧ 5 ≤ (dusty .clear 0 [120, 120, 130, 140, 150, 160] runs).dust.window.length
      ∧ (dusty .elevated 2 [130, 140, 150, 160, 900, 1200] runs).dust.level = .elevated
      ∧ 3 ≤ (dusty .elevated 2 [] runs).dust.count + 1 ∧ (dusty .elevated 1 [] runs).dust.count + 1 < 3
      ∧ (dusty .exceed 0 [] runs).dust.level = .exceed ∧ (dusty .recovering 0 [] runs).dust.level = .recovering := by decide

/-- 7.6 at 10 s: the mean of 266 is ELEVATED. -/
theorem test_dust_elevated :
    let d := (after (.dustReading 900) (dusty .clear 0 [120, 120, 130, 140, 150, 160] runs)).dust
    d.mean = some 266 ∧ d.level = .elevated ∧ d.count = 0 := by decide

/-- 7.6 at 40 s: the third mean begins the notice 42. -/
theorem test_dust_exceeds :
    let t := after (.dustReading 1000) (dusty .elevated 2 [140, 150, 160, 900, 1200, 1100] runs)
    t.dust.mean = some 751 ∧ t.dust.level = .exceed ∧ t.dust.serial = some 42
      ∧ (t.dust.cover.map CoverEntry.responder) = [12] := by decide

/-- The monitor silent. -/
def silentMonitor : State :=
  let s := dusty .clear 0 [] runs
  s.setDust { s.dust with silent := true }

/-- A notice in EXCEED whose announcement is held, with two answers held. -/
def holding (s : State) : State :=
  let a : PendingAnswer := { target := 9, serial := 3, answer := .locked, count := 0, formed := 980 }
  s.setDust { s.dust with announce := true, answers := [a, { a with target := 14, formed := 990 }] }

/-- A recovery timer paused with 7 s left, before the sixth reading. -/
def pausedRecovery : State :=
  let s := dusty .recovering 0 [100, 100, 100, 100, 100] runs
  s.setDust { s.dust with recovery := .paused 7000, silent := true }

theorem witness_DustReadings_retry :
    let s := holding (dusty .exceed 0 [500, 500, 500, 500, 500] runs)
    s.operational = true ∧ s.station.mode = .run ∧ s.line.queue.length + 3 ≤ 8
      ∧ (after (.dustReading 500) s).dust.level = s.dust.level ∧ (s.dust.answers.map PendingAnswer.target).Nodup
      ∧ 5 ≤ pausedRecovery.dust.window.length ∧ pausedRecovery.dust.level = .recovering
      ∧ pausedRecovery.dust.recovery = .paused 7000 ∧ (100 * 6) / 6 < pausedRecovery.cfg.lElev := by decide

theorem test_recovery_resumes : (after (.dustReading 100) pausedRecovery).dust.recovery = .running 1007000 := by decide

/-- The announcement, and then the answers in their order, go at a reading (R123, R129). -/
theorem test_held_frames_go :
    let contents := fun t : State => (t.line.queue.map TxFrame.content).filter Content.urgent
    let t := after (.dustReading 500) (holding (dusty .exceed 0 [500, 500, 500, 500, 500] runs))
    contents t = [.plume 1500 900 330 500 41, .cover 9 3 .locked 0 980, .cover 14 3 .locked 0 990]
      ∧ t.dust.answers = [] ∧ t.dust.announce = false
      ∧ contents (after .readingWatchExpiry (holding silentMonitor)) = [.cover 9 3 .locked 0 980, .cover 14 3 .locked 0 990] := by
  decide

theorem witness_DustTimers :
    settled (dusty .clear 0 [] runs) ∧ (dusty .clear 0 [] runs).dust.watch = .running 1000000
      ∧ (dusty .clear 0 [] runs).dust.silent = false ∧ settled silentMonitor ∧ silentMonitor.dust.silent = true
      ∧ settled (holding silentMonitor) ∧ (holding silentMonitor).station.mode = .run
      ∧ settled (dusty .exceed 0 [] runs) ∧ (dusty .exceed 0 [] runs).dust.refresh = .running 1000000
      ∧ (dusty .exceed 0 [] runs).line.queue.length < 8 ∧ settled (dusty .recovering 0 [] runs)
      ∧ (dusty .recovering 0 [] runs).dust.recovery = .running 1000000
      ∧ (dusty .exceed 0 [] runs).dust.response = .running 1000000
      ∧ (dusty .exceed 0 [] runs).dust.covered = false := by
  unfold settled; decide

theorem test_monitor_silent :
    let d := (after .readingWatchExpiry (dusty .recovering 0 [1, 2] runs)).dust
    d.silent = true ∧ d.window = [] ∧ d.watch = .running 1010000 ∧ d.recovery = .paused 0 := by decide

theorem test_plume_refresh :
    ((after .plumeRefresh (dusty .exceed 0 [] runs)).line.queue.map TxFrame.content) = [.plume 1500 900 330 136 41] := by
  decide

theorem test_notice_ends : (after .recoveryExpiry (dusty .recovering 0 [] runs)).dust.level = .clear := by decide

theorem test_uncovered :
    (after .responseWindowExpiry (dusty .exceed 0 [] runs)).alarms.flags.plumeUncovered.state = .raised := by decide

theorem test_pending_answer_leaves :
    let a : PendingAnswer := { target := 14, serial := 42, answer := .locked, count := 0, formed := 400 }
    let s := runs.setDust { runs.dust with answers := [a, { a with target := 9, formed := 401 }] }
    (after (.pendingAnswerExpiry 14) s).dust.answers.map PendingAnswer.target = [9]
      ∧ after (.pendingAnswerExpiry 9) s = s := by decide

/-- Node 14's notice 42 with the wind from 330, as node 22 stands to it in 7.4: its place moved to this station. -/
def notice42 : List Byte := [6, 114, 2, 128, 1, 74, 2, 239, 42]

/-- The worked figures of 7.4 for nodes 22, 9 and 31. -/
theorem test_upwind :
    let c := fun x y => { settings with x := x, y := y }
    let m : PlumeMsg := { x := 1200, y := 800, theta := 330, mean := 751, serial := 42 }
    upwind (c 1050 1060) m = true ∧ upwind (c 1400 1000) m = false ∧ upwind (c 900 1400) m = false
      ∧ upwind (c 1400 1000) { m with theta := 30 } = true := by decide

/-- The station in FAULT. -/
def faulted : State := runs.setCannon { runs.cannon with state := .fault }

theorem witness_NoticeIsAnswered :
    runs.station.mode = .run ∧ frameWellFormed .plume 14 notice42 = true ∧ 14 ≠ runs.station.node
      ∧ (decodePlume notice42).theta ≤ 359 ∧ upwind runs.cfg (decodePlume notice42) = true
      ∧ findPeer 14 runs.peers.entries = none ∧ runs.lockout.locks = [] ∧ runs.cutOut = false
      ∧ runs.cannon.state ≠ .fault ∧ faulted.cannon.state = .fault ∧ (windy runs).cutOut = true
      ∧ (lockedWith [beltLock]).lockout.locks ≠ [] ∧ (inMode .listen).station.mode = .listen := by decide

theorem witness_NoticeIsAnswered_fault : cannonInv faulted ∧ faulted.lockout.locks = [] := by
  unfold cannonInv; decide

/-- The same notice with the wind from 329: 67 degrees from the faces' normal of 262, where 330 is 68. -/
def notice329 : List Byte := notice42.set 5 73

theorem witness_NoticeIsAnswered_faces :
    upwind runs.cfg (decodePlume notice329) = true
      ∧ (allFaces.filter (facesNotice runs (decodePlume notice329).theta)) = [1, 2]
      ∧ (allFaces.filter (facesNotice runs (decodePlume notice42).theta)) = [] ∧ queueInv spraying.queue
      ∧ spraying.queue.entries.length ≤ 4 ∧ 0 < spraying.cfg.vKnock ∧ cannonInv spraying
      ∧ (∃ e ∈ spraying.queue.entries, e.running = true)
      ∧ (∀ e ∈ spraying.queue.entries, e.running = true → e.face = chain.face ∧ e.cls = chain.cls)
      ∧ ((2 : FaceId) ≠ chain.face ∧ facesNotice spraying 329 2 = true ∧ (spraying.queue.holds.get 2).isRunning = false) := by
  unfold queueInv cannonInv; decide

theorem test_notice_faces :
    let t := after (.plumeFrame 14 notice329) spraying
    ((t.line.queue.map TxFrame.content).filter Content.urgent) = [.cover 14 42 .queued 2 1000]
      ∧ (t.cannon.log.map SprayRecord.cause) = [.preempted]
      ∧ ((after (.plumeFrame 14 notice42) spraying).queue.entries) = spraying.queue.entries := by decide +kernel

theorem test_notice_locked :
    ((after (.plumeFrame 14 notice42) (lockedWith [beltLock])).line.queue.map TxFrame.content) =
      [.cover 14 42 .locked 0 1000] := by decide

theorem test_notice_held_in_listen :
    ((after (.plumeFrame 14 notice42) (inMode .listen)).dust.answers.map PendingAnswer.target) = [14] := by decide

theorem witness_CoverIsTaken :
    let s := dusty .exceed 0 [] runs
    s.operational = true ∧ frameWellFormed .cover 22 [12, 41, 1, 1] = true ∧ 22 ≠ s.station.node
      ∧ (s.dust.cover.map CoverEntry.responder).Nodup ∧ byteAt [12, 41, 1, 1] 0 = s.station.node
      ∧ coverAnswerOf (byteAt [12, 41, 1, 1] 2) = some .queued ∧ s.dust.level = .exceed
      ∧ s.dust.serial = some (byteAt [12, 41, 1, 1] 1) ∧ s.dust.covered = false
      ∧ coverAnswerOf (byteAt [12, 41, 6, 1] 2) = none := by decide

theorem test_cover_taken :
    let d := (after (.coverFrame 22 [12, 41, 1, 1]) (dusty .exceed 0 [] runs)).dust
    d.covered = true ∧ d.coverage = some 1000 ∧ d.response = .stopped := by decide

/-! ### The peer map and the line -/

theorem witness_FrameRefreshesSender :
    runs.station.mode ≠ .start ∧ frameWellFormed .machine 50 [6, 64, 3, 182, 1] = true ∧ 50 ≠ runs.station.node
      ∧ runs.operational = true ∧ (inMode .unconfigured).operational = false := by decide

theorem test_machine_frame :
    (after (.machineFrame 50 [6, 64, 3, 182, 1]) runs).peers.entries =
      [{ peer 50 1000 .machine 1600 950 with machine := some true }] := by decide +kernel

/-- A STATUS payload of node 14 with wind: READY, CLEAR, faces 0 QUIET, 1 WATCH, 2 ACT. -/
def status14 : List Byte :=
  [5, 100, 3, 132, 0, 0, 0, 0, 0x24, 0, 0, 8, 0x34] ++ [0, 0, 0, 9, 0, 150, 1, 102]

theorem witness_FrameParts :
    runs.operational = true ∧ frameWellFormed .status 14 status14 = true ∧ (decodeStatus status14).isSome
      ∧ frameWellFormed .wind 60 [5, 220, 5, 220, 0, 170, 0, 200, 0, 5] = true
      ∧ word16At [5, 220, 5, 220, 0, 170, 0, 200, 1, 103] 8 = 359
      ∧ boolOf (byteAt [6, 64, 3, 182, 1] 4) = some true
      ∧ demandClassOf (byteAt [6, 2, 0, 24, 3] 1) = some .suppress ∧ frameWellFormed .release 9 [3] = true := by decide

theorem test_status_frame :
    let t := after (.statusFrame 14 status14) runs
    t.peers.entries.map Peer.wind = [some { speed := 150, bearing := 358, arrival := 1000 }]
      ∧ t.peers.entries.map (fun p => p.summary.map StationSummary.faces) = [some ⟨.quiet, .watch, .act, .quiet⟩]
      ∧ t.peers.entries.map (fun p => p.summary.map StationSummary.runoff) = [some 2100] := by decide +kernel

theorem test_claim_frame :
    (after (.claimFrame 14 [3, 2, 0, 24, 2]) runs).peers.entries.map Peer.claim =
      [some { cls := .suppress, flow := 24, wait := 2, serial := 3, announce := 1000 }] := by decide +kernel

/-- A KNOCKDOWN claim above the own leaves a room of 8 or of 7, and its RELEASE or its age takes it away (R104, R105). -/
def pressed (flow announce : Nat) : State :=
  knowing [claimer 14 .knockdown 1 flow announce] (claiming .deferred (serving .claiming chain))

theorem witness_FrameParts_recompute :
    spraying.claim.own.state = .granted ∧ (pressed 53 925).claim.own.state = .deferred ∧ (pressed 53 925).claimOf 14 3 = true
      ∧ (pressed 53 925).decision.tHeld = none ∧ (pressed 53 925).cannon.state = .claiming := by decide

theorem test_recompute :
    (after (.claimFrame 14 [3, 3, 0, 52, 2]) spraying).claim.own.tHeld = some 2
      ∧ ((after (.claimFrame 14 [3, 3, 0, 53, 2]) spraying).cannon.log.map SprayRecord.cause) = [.yielded]
      ∧ (after (.releaseFrame 14 [3]) (pressed 53 925)).cannon.state = .spraying
      ∧ (after (.releaseFrame 14 [4]) (pressed 53 925)).claim.own.state = .deferred := by decide +kernel

/-- 6.7 at 40 s: node 9's RELEASE restores the grant. -/
theorem test_release_frame :
    let s := knowing rivals (claiming .throttled spraying)
    (after (.releaseFrame 9 [3]) (s.setOwn { s.claim.own with qg := 16, tHeld := some 4 })).claim.own.state = .granted := by
  decide

theorem test_wind_frame :
    (after (.windFrame 60 [5, 220, 5, 220, 0, 170, 0, 200, 0, 5]) runs).peers.entries.map Peer.wind =
      [some { speed := 170, bearing := 5, arrival := 1000 }] := by decide

theorem witness_BrokenFramesAreDropped :
    settled runs ∧ runs.station.mode ≠ .start ∧ frameWellFormed .claim 9 [1] = false
      ∧ settled (runs.setLine { runs.line with busy := true, partialFrame := [0xA5] }) ∧ runs.line.busy = false := by
  unfold settled; decide

theorem test_frame_broken :
    let s := runs.setLine { runs.line with busy := true, partialFrame := [0xA5] }
    (after .frameBroken s).line.partialFrame = [] ∧ (after .frameDiscarded s).line.busy = false
      ∧ (after .frameDiscarded s).line.quietSince = 1000000 ∧ (after .frameBroken s).line.quietSince = 1000000 := by decide

/-- 1 ms without bits within a frame breaks it, and 200 ms without a byte a panel message (R150, R169). -/
theorem test_gaps_break :
    let s := (runs.hearByte 0xA5).hearQuiet
    Instr.frameBroken ∉ dueCommands s ∧ Instr.frameBroken ∈ dueCommands (s.setNow 1000001)
      ∧ (let p := runs.hearPanelByte 0x3C
         Instr.panelMessageBroken ∉ dueCommands (p.setNow 1000199)
          ∧ Instr.panelMessageBroken ∈ dueCommands (p.setNow 1000200)) := by decide

theorem witness_DuplicateMutes :
    spraying.station.mode = .run ∧ spraying.station.node ≠ 0 ∧ spraying.cannon.chain.isSome ∧ runs.cannon.chain = none
      ∧ settled (inMode .mute) ∧ (inMode .mute).station.mode ≠ .listen ∧ (inMode .mute).station.mode ≠ .run := by
  unfold settled; decide

theorem test_duplicate :
    let t := after .duplicate spraying
    t.station.mode = .mute ∧ (t.cannon.log.map SprayRecord.cause) = [.duplicate]
      ∧ t.alarms.flags.duplicateNode.state = .raised ∧ t.line.queue = [] := by decide

/-- The queue of 9.3 at 6 ms: a STATUS and then a CLAIM. -/
def busyRow : State :=
  let q := [frame (buildStatus runs) 999, frame (.claim 6 .suppress 24 3) 999]
  let s := sending .waiting q runs
  s.setLine { s.line with quietSince := 999998 }

theorem witness_LineAccess :
    settled busyRow ∧ busyRow.station.mode = .run ∧ busyRow.line.access = .waiting ∧ busyRow.line.busy = false
      ∧ headIndex busyRow.line.queue = some 1 ∧ 2 ≤ busyRow.now - busyRow.line.quietSince
      ∧ settled runs ∧ runs.line.access ≠ .waiting
      ∧ (let s := sending .backoff [frame (.release 3) 999] runs
         settled (s.setLine { s.line with backoff := .running 1000000 })) := by
  unfold settled; decide

/-- Another member's bits before the gap's end: the station waits, and its gap begins when the line goes quiet (R149, R157). -/
theorem witness_LineAccess_busy :
    let s := busyRow.hearBits
    settled s ∧ busyRow.line.access ≠ .sending ∧ s.line.busy = true ∧ s.line.quietTime s.now = 0
      ∧ settled s.hearQuiet ∧ s.hearQuiet.line.busy = false ∧ s.hearQuiet.line.quietSince = 1000000 := by
  unfold settled; decide

theorem test_busy_line_starts_nothing :
    Instr.accessGap ∈ dueCommands busyRow ∧ after .accessGap busyRow.hearBits = busyRow.hearBits
      ∧ Instr.accessGap ∉ dueCommands (busyRow.hearByte 0xA5)
      ∧ after .accessGap (busyRow.hearByte 0xA5) = busyRow.hearByte 0xA5 := by decide

theorem test_access_gap : (after .accessGap busyRow).line.queue.map TxFrame.inTx = [false, true] := by decide

/-- The station drives the frame with its latched node number as sender (R188), and nothing while it only waits. -/
theorem test_driven_bytes :
    (after .accessGap busyRow).drivenBytes = some [0xA5, 0x0C, 0x02, 0x05, 0x06, 0x02, 0x00, 0x18, 0x03, 0x99, 0x3F]
      ∧ busyRow.drivenBytes = none ∧ ∀ g ∈ busyRow.line.queue, g.inTx = false := by decide +kernel

theorem test_backoff_ends :
    let s := sending .backoff [frame (.release 3) 999] runs
    (after .backoffExpiry (s.setLine { s.line with backoff := .running 1000000 })).line.access = .waiting := by decide

/-- The CLAIM of 9.3 in transmission, at an attempt. -/
def onTheLine (attempts : Nat) (c : Content) : State :=
  sending .sending [{ frame c 999 with inTx := true, attempts := attempts }, frame (buildStatus runs) 999] spraying

theorem witness_TransmissionEnds :
    settled (onTheLine 0 (.claim 6 .suppress 24 3)) ∧ (onTheLine 0 (.claim 6 .suppress 24 3)).station.mode = .run
      ∧ (onTheLine 0 (.claim 6 .suppress 24 3)).line.access = .sending
      ∧ spraying.claim.own.serial = some 6 ∧ settled (onTheLine 7 (.cover 14 42 .locked 0 900))
      ∧ (onTheLine 0 (.claim 6 .suppress 24 3)).line.due = false ∧ 0 + 1 < 8 ∧ 8 ≤ 7 + 1 := by
  unfold settled; decide

/-- A STATUS that was refused waits for a frame to leave. -/
def refusedStatus (attempts : Nat) : State :=
  let s := sending .sending [{ frame (.cover 14 42 .locked 0 900) 999 with inTx := true, attempts := attempts }] spraying
  s.setLine { s.line with due := true, refused := true }

theorem witness_TransmissionEnds_refused :
    settled (refusedStatus 0) ∧ settled (refusedStatus 7) ∧ (refusedStatus 0).line.due = true
      ∧ (refusedStatus 0).line.refused = true ∧ (refusedStatus 0).line.queue.length < 8 := by
  unfold settled; decide

theorem test_refused_status_is_offered :
    (after .transmissionCompletes (refusedStatus 0)).line.queue.map TxFrame.content = [buildStatus (refusedStatus 0)]
      ∧ (after .collision (refusedStatus 7)).line.due = false := by decide

/-- 9.3 at 7 ms: a backoff of 4 ms. -/
theorem test_collision :
    let l := (after .collision (onTheLine 0 (.claim 6 .suppress 24 3))).line
    l.access = .backoff ∧ l.backoff = .running 1000004 ∧ (l.queue.map TxFrame.attempts) = [1, 0] := by decide

/-- The waits of node 12 after 1 to 7 attempts (R159). -/
theorem test_backoff_waits : (List.range 7).map (fun k => backoffSlots 12 (k + 1)) = [4, 11, 2, 9, 16, 7, 14] := by decide

theorem test_transmission_completes :
    let t := after .transmissionCompletes (onTheLine 0 (.claim 6 .suppress 24 3))
    t.claim.own.sent = true ∧ t.line.queue.length = 1 ∧ t.line.access = .waiting := by decide

theorem test_cover_returns :
    ((after .collision (onTheLine 7 (.cover 14 42 .locked 0 900))).dust.answers.map PendingAnswer.formed) = [900] := by
  decide

/-- The STATUS timers at their ends. -/
def statusDue (due : Bool) (q : List TxFrame) : State :=
  let s := sending .waiting q runs
  s.setLine { s.line with period := .running 1000000, spacing := .running 1000000, due := due }

theorem witness_StatusIsOffered :
    settled (statusDue true []) ∧ (statusDue true []).line.period = .running 1000000
      ∧ (statusDue true []).line.spacing = .running 1000000 ∧ (statusDue true []).line.due = true
      ∧ (statusDue true []).line.queue.length < 8 ∧ settled (statusDue true fullQueue) ∧ fullQueue.length = 8
      ∧ (∀ f ∈ fullQueue, f.waitingStatus = false) ∧ settled (statusDue false []) ∧ (statusDue false []).line.due = false := by
  unfold settled; decide

/-- A STATUS went 1 s ago. -/
def statusSent (q : List TxFrame) : State :=
  let s := sending .waiting q runs
  s.setLine { s.line with spacing := .running 1001000, lastStatus := some 999000 }

/-- A lock changes two of the four items: STATUS goes at once, is due until the 2 s have passed, or has no room. -/
theorem witness_StatusIsOffered_changed :
    let c := Instr.lock 204517 0
    (after c (statusSent [])).locked ≠ (statusSent []).locked ∧ (after c (statusSent [])).station.mode = .run
      ∧ (after c (statusSent [])).line.due = true ∧ (after c (sending .waiting [] runs)).line.due = false
      ∧ (after c (sending .waiting fullQueue runs)).line.due = true := by decide

theorem test_changed_item_is_reported :
    ((after (.lock 204517 0) (sending .waiting [] runs)).line.queue.map TxFrame.content) =
        [buildStatus (after (.lock 204517 0) runs)]
      ∧ (after (.lock 204517 0) (sending .waiting fullQueue runs)).line.refused = true := by decide

/-- A STATUS replaced in place keeps its attempts and its place (R154). -/
theorem test_status_replaced :
    let q := [{ frame (buildStatus runs) 900 with attempts := 3 }, frame (.release 2) 901]
    (after .statusPeriod (statusDue false q)).line.queue.map (fun f => (f.attempts, f.content.urgent)) =
      [(3, false), (0, true)] := by decide

theorem test_status_period :
    let t := after .statusPeriod (statusDue false [])
    t.line.period = .running 1030000 ∧ t.line.spacing = .running 1002000 ∧ t.line.queue.length = 1 := by decide

theorem test_status_due :
    (after .statusDueMark (statusDue true [])).line.due = false
      ∧ (after .statusDueMark (statusDue true fullQueue)).line.due = true := by decide

/-- Node 14's claim at an age of 75 s or 76 s, its sender heard at a time. -/
def swept (announce heard : Nat) : State :=
  knowing [{ claimer 14 .suppress 2 24 announce with heard := heard }] runs

theorem witness_SweepAndIsolation :
    settled (swept 925 850) ∧ (swept 925 850).peers.sweep = .running 1000000 ∧ 1000000 ≤ (swept 925 850).now
      ∧ (swept 925 850).sec - 925 ≤ 75 ∧ 150 < (swept 925 849).sec - 849
      ∧ (let s := runs.setLine { runs.line with isolation := .running 1000000 }
         settled s ∧ s.line.isolation = .running 1000000) := by
  unfold settled; decide

theorem test_sweep :
    (after .sweep (swept 924 940)).peers.entries.map Peer.claim = [none]
      ∧ ((after .sweep (swept 925 940)).peers.entries.map fun p => p.claim.isSome) = [true] := by decide +kernel

/-- The claim part of the peer that presses the own claim is 76 s old. -/
theorem witness_SweepAndIsolation_recompute :
    let s := pressed 53 924
    settled s ∧ s.peers.sweep = .running 1000000 ∧ ∃ p ∈ s.peers.entries, p.claim.isSome := by
  unfold settled; decide

theorem test_sweep_recomputes : (after .sweep (pressed 53 924)).claim.own.state = .granted := by decide +kernel

theorem test_isolation :
    let s := runs.setLine { runs.line with isolation := .running 1000000 }
    (after .isolationExpiry s).alarms.flags.lineIsolated.state = .raised
      ∧ (after .isolationExpiry s).alarms.relay = true := by decide

/-! ### The panel -/

theorem witness_PanelTakesOneCommand :
    settled runs ∧ runs.panel.answer = none ∧ settled (answering runs none) ∧ settled (answering runs (some 3))
      ∧ (answering runs none).panel.answer = some (PanelAnswer.of 5 .accepted [0])
      ∧ (answering runs (some 3)).panel.busy = some 3 ∧ (answering runs none).panel.busy = none := by
  unfold settled; decide

theorem test_busy :
    (after .ackAlarms (answering runs none)).panel.busy = some 5
      ∧ (after .answerSent (answering runs (some 3))).panel.answer = some { command := 3, payload := [1] }
      ∧ (after (.panelUnknownCommand 9) runs).panel.answer = some { command := 0, payload := [2] } := by decide

theorem test_message_dropped :
    let s := runs.setPanel { runs.panel with partialMessage := [0x3C] }
    after .panelBadCheck s = runs ∧ after .panelMessageBroken s = runs := by decide

theorem witness_ReadAnswers :
    settled runs ∧ runs.panel.answer = none ∧ (snapshot 3 0 0 runs).isSome ∧ partCount (stationSnapshot runs) = 1
      ∧ (snapshot 10 0 0 runs) = none := by
  unfold settled; decide +kernel

theorem witness_ReadAnswers_codes :
    (lockedWith [beltLock]).withoutCodes = (lockedWith [{ beltLock with code := 880231 }]).withoutCodes
      ∧ lockedWith [beltLock] ≠ lockedWith [{ beltLock with code := 880231 }] := by decide

/-- LOCKS: two locks with their levels and times, five attempts, a supervisor code; no code among them (R172). -/
theorem test_read_locks :
    snapshot 9 0 0 (lockedWith [beltLock, drainLock]) =
      some [2, 0, 1, 0, 0, 3, 0x84, 1, 1, 0, 0, 3, 0xB6, 5, 1] := by decide

theorem test_read_invalid :
    (after (.read 6 0 5 4) runs).panel.answer = some { command := 1, payload := [2] }
      ∧ (after (.read 1 1 0 0) runs).panel.answer = some { command := 1, payload := [2] } := by decide +kernel

/-- The station in COMMISSION. -/
def commissioning : State :=
  let s := inMode .commission
  s.setStation { s.station with window := .running 1000000 }

theorem witness_ConfigureChecks :
    settled commissioning ∧ commissioning.panel.answer = none ∧ block.length = 171 ∧ commissioning.station.mode = .commission
      ∧ firstFailing commissioning.station.node block = none ∧ commissioning.station.node ≠ 0 ∧ settled runs ∧ runs.station.mode ≠ .commission
      ∧ firstFailing commissioning.station.node ((block.set 54 25).set 55 20) = some 41
      ∧ ((block.set 54 25).set 55 20).length = 171 := by
  unfold settled; decide +kernel

/-- The blocks keep the settings they have taken until LISTEN, where they take the stored ones (R181). -/
theorem test_configure_waits_for_listen :
    let s := commissioning.setStation { commissioning.station with config := none }
    let t := after (.configure block) s
    t.station.stored = some settings ∧ t.station.config = none ∧ t.supervisor = some 615940
      ∧ (after .commissioningKeyRelease t).station.config = some settings := by decide +kernel

theorem test_configure :
    (after (.configure block) commissioning).panel.answer = some { command := 2, payload := [0] }
      ∧ (after (.configure ((block.set 54 25).set 55 20)) commissioning).panel.answer =
          some { command := 2, payload := [2, 41] }
      ∧ (after (.configure block) runs).panel.answer = some { command := 2, payload := [8] } := by decide +kernel

theorem witness_LockIsTaken :
    settled spraying ∧ cannonInv spraying ∧ spraying.panel.answer = none ∧ spraying.lockout.locks = [] := by
  unfold settled cannonInv; decide

theorem witness_LockIsTaken_locked : settled (lockedWith [beltLock]) ∧ cannonInv (lockedWith [beltLock]) := by
  unfold settled cannonInv; decide

/-- A list of four locks, with the smallest and the largest code. -/
def fourLocks : List Lock := [beltLock, drainLock, { beltLock with code := 0 }, { beltLock with code := 999999 }]

theorem witness_LockIsTaken_full : settled (lockedWith fourLocks) ∧ cannonInv (lockedWith fourLocks) := by
  unfold settled cannonInv; decide

theorem test_lock_full :
    (after (.lock 1 0) (lockedWith fourLocks)).panel.answer = some { command := 3, payload := [3] } := by decide

/-- 10.2 at 3,000 s. -/
theorem test_lock_stops :
    let t := after (.lock 204517 0) spraying
    t.panel.answer = some { command := 3, payload := [0] } ∧ t.cannon.state = .draining ∧ t.cannon.drive = none
      ∧ t.store.locks = some [(204517, .standard)] ∧ (t.cannon.log.map SprayRecord.cause) = [.lockout] := by decide

/-- 10.2 at 3,160 s. -/
theorem test_lock_duplicate :
    (after (.lock 880231 0) (lockedWith [beltLock, drainLock])).panel.answer = some { command := 3, payload := [4] } := by
  decide

theorem witness_UnlockIsTaken :
    settled (lockedWith [beltLock, drainLock]) ∧ settled (lockedWith [drainLock]) ∧ settled runs
      ∧ (lockedWith [drainLock]).station.node ≠ 0
      ∧ (lockedWith [drainLock]).station.stored.map Configuration.supervisor = some 615940
      ∧ (∀ k ∈ [drainLock], k.level = .strict) ∧ 0 < (lockedWith [drainLock]).lockout.attempts
      ∧ settled ((lockedWith [drainLock]).setLockout { locks := [drainLock], attempts := 0 })
      ∧ [drainLock] = [beltLock, drainLock].filter (fun k => decide (k.level ≠ .standard))
      ∧ ([] : List Lock) = [drainLock].filter (fun k => decide (k.code ≠ 880231))
      ∧ (lockedWith [drainLock]).cannon.state = .locked := by
  unfold settled; decide

/-- 10.2 at 9,400 s, 9,410 s and 9,900 s. -/
theorem test_unlock_supervisor :
    (after (.unlock 615940) (lockedWith [beltLock, drainLock])).panel.answer = some { command := 4, payload := [0, 1, 1] }
      ∧ (after (.unlock 615940) (lockedWith [drainLock])).panel.answer = some { command := 4, payload := [7] }
      ∧ (after (.unlock 880213) (lockedWith [drainLock])).lockout.attempts = 4 := by decide

/-- Strap 0 has no supervisor code whatever the store holds (R164). -/
theorem test_unlock_strap_zero :
    let s := lockedWith [beltLock]
    (after (.unlock 615940) (s.setStation { s.station with node := 0 })).panel.answer =
      some { command := 4, payload := [5] } := by decide

/-- 10.2 at 9,960 s. -/
theorem test_unlock_last :
    let t := after (.unlock 880231) (lockedWith [drainLock])
    t.panel.answer = some { command := 4, payload := [0, 1, 0] } ∧ t.cannon.state = .parked ∧ t.queue.request = true := by
  decide

/-- The alarms of 10.5 at minute 150: SUPPLY_STALE and LINE_ISOLATED raised, both true. -/
def nightAlarms : State :=
  let raised : Flag := { state := .raised, again := true, raisedTime := some 900, cond := true }
  let s1 := runs.setAlarms
    { flags := { runs.alarms.flags with supplyStale := raised, lineIsolated := raised }, relay := true }
  let s2 := s1.setClaim { s1.claim with supply := { s1.claim.supply with stale := true } }
  s2.setLine { s2.line with isolated := true }

theorem witness_AlarmsAreAcknowledged :
    settled nightAlarms ∧ nightAlarms.station.mode ≠ .start ∧ nightAlarms.panel.answer = none := by
  unfold settled; decide

theorem test_ack :
    let t := after .ackAlarms nightAlarms
    t.panel.answer = some { command := 5, payload := [0, 2] } ∧ t.alarms.flags.lineIsolated.state = .acked
      ∧ t.alarms.flags.lineIsolated.again = false ∧ t.alarms.relay = false := by decide

/-- The rest of the night of 10.5 on one flag. -/
theorem test_flag_events :
    let f1 := Flag.event 170 Flag.powerOn
    let f2 := f1.event 174
    f1.state = .raised ∧ f1.again = false ∧ f2.again = true ∧ (f2.acknowledge false).state = .idle := by decide

/-- A cannon in FAULT whose flag stands. -/
def faultedSettled : State := syncAlarms (faulted.setQueue { faulted.queue with request := false })

theorem witness_FaultIsCleared :
    settled faultedSettled ∧ cannonInv faultedSettled ∧ faultedSettled.cannon.state = .fault
      ∧ faultedSettled.panel.answer = none ∧ settled spraying ∧ cannonInv spraying ∧ spraying.queue.request = false :=
  ⟨by unfold settled; decide, by unfold cannonInv; decide, by decide, by decide, by unfold settled; decide,
    by unfold cannonInv; decide, by decide⟩

theorem test_clear_fault :
    (after .clearFault faultedSettled).cannon.state = .parked
      ∧ (after .clearFault faultedSettled).alarms.flags.cannonFault.cond = false
      ∧ (after .clearFault runs).panel.answer = some { command := 6, payload := [9] } := by decide

/-- A queue of 8 entries in which TEST has no room. -/
def noRoom : State :=
  queued
    ([entry 0 .suppress 9 0, entry 1 .suppress 9 0, entry 2 .suppress 9 0, entry 0 .prewet 9 0]
      ++ [entry 1 .prewet 9 0, entry 2 .prewet 9 0, entry 0 .test 9 0, entry 2 .test 9 0]) runs

theorem witness_TestSprayIsOffered :
    let o : Offer := { face := 1, cls := .test, volume := 300, origin := .panel, deadline := none }
    settled runs ∧ queueInv runs.queue ∧ (admitOffer o runs).2 = .added ∧ settled noRoom ∧ queueInv noRoom.queue
      ∧ (admitOffer o noRoom).2 = .full ∧ (admitOffer { o with face := 3 } runs).2 = .invalid
      ∧ (admitOffer { o with face := 0 } noRoom).2 = .merged := by
  unfold settled queueInv; decide

theorem test_test_spray :
    let t := after (.testSpray 1 300) runs
    t.panel.answer = some { command := 8, payload := [0, 1] } ∧ t.cannon.state = .slewing
      ∧ (t.cannon.chain.map Chain.planned) = some 1 := by decide

theorem test_test_spray_full : (after (.testSpray 1 300) noRoom).panel.answer = some { command := 8, payload := [3] } := by
  decide

theorem witness_RestartClears :
    settled spraying ∧ spraying.operational = true ∧ spraying.panel.answer = none ∧ settled commissioning
      ∧ commissioning.operational = false ∧ spraying.lockout.locks = [] ∧ (lockedWith [beltLock]).operational = true
      ∧ settled (lockedWith [beltLock]) ∧ (lockedWith [beltLock]).cannon.chain = none
      ∧ spraying.claim.supply.staleTimer ≠ .stopped := by
  unfold settled; decide

theorem test_restart :
    let t := after .restart spraying
    t.station.mode = .listen ∧ t.station.lastReset = 1000 ∧ t.queue.entries = []
      ∧ (t.cannon.log.map SprayRecord.cause) = [.restart] ∧ t.cannon.state = .parked := by decide

/-! ### Station Control -/

/-- COMMISSION without a stored configuration. -/
def blank : State :=
  syncAlarms (commissioning.setStation { commissioning.station with stored := none })

/-- The end of LISTEN. -/
def listened : State :=
  let s := inMode .listen
  s.setStation { s.station with listen := .running 1000000 }

theorem witness_StationStates :
    settled commissioning ∧ commissioning.station.mode = .commission ∧ commissioning.station.window = .running 1000000
      ∧ commissioning.station.stored = some settings ∧ settled blank ∧ blank.station.stored = none
      ∧ blank.station.mode = .commission ∧ settled listened ∧ listened.station.mode = .listen
      ∧ listened.station.listen = .running 1000000 ∧ listened.line.queue = [] ∧ settled runs
      ∧ runs.station.mode ≠ .commission := by
  unfold settled; decide

/-- The end of LISTEN with eight answers held, and with an open request and an entry. -/
def listenedHolding (n : Nat) : State :=
  listened.setDust
    { listened.dust with
      answers :=
        (List.range n).map fun i => { target := 20 + i, serial := 3, answer := .locked, count := 0, formed := 980 } }

/-- The end of LISTEN with a candidate for the open request. -/
def listenedQueued : State :=
  listened.setQueue { listened.queue with entries := [entry 1 .suppress 900 0] }

theorem witness_StationStates_listened :
    settled (listenedHolding 8) ∧ (listenedHolding 8).line.queue = [] ∧ (listenedHolding 5).dust.answers.length ≤ 5
      ∧ settled (listenedHolding 5) ∧ settled listenedQueued ∧ listenedQueued.queue.request = true
      ∧ listenedQueued.cannon.selectable = true ∧ listenedQueued.lockout.locks = []
      ∧ listenedQueued.choose = some (entry 1 .suppress 900 0) ∧ listened.choose = none
      ∧ (commissioning.setClaim { commissioning.claim with supply := State.reset.claim.supply }).claim.supply.staleTimer =
          .stopped := by
  unfold settled; decide

/-- Eight answers fill the queue and STATUS is due; five leave it its place; the open request is answered (R155, R184). -/
theorem test_listen_ends_with_work :
    let t := after .listenTimerExpiry (listenedHolding 8)
    t.line.queue.map TxFrame.content = (listenedHolding 8).dust.answers.map (fun a => .cover a.target 3 .locked 0 980)
      ∧ t.line.due = true ∧ t.line.refused = true ∧ t.dust.answers = []
      ∧ (after .listenTimerExpiry (listenedHolding 5)).line.queue.length = 6
      ∧ ((after .listenTimerExpiry listenedQueued).cannon.chain.map Chain.face) = some 1 := by decide +kernel

theorem test_key_release :
    (after .commissioningKeyRelease commissioning).station.mode = .listen
      ∧ (after .commissioningKeyRelease blank).station.mode = .unconfigured := by decide

theorem test_window_expiry : (after .commissioningWindowExpiry commissioning).station.listen = .running 1060000 := by decide

theorem test_listen_ends :
    let t := after .listenTimerExpiry listened
    t.station.mode = .run ∧ t.line.queue.map TxFrame.content = [buildStatus t] := by decide

/-! ### States that meet the invariants -/

theorem witness_FlagsFollow : settled spraying ∧ relayInv spraying ∧ settled nightAlarms ∧ relayInv nightAlarms := by
  unfold settled relayInv; decide

theorem witness_QueueIsKept : queueInv (queued fullSpray runs).queue ∧ queueInv spraying.queue := by
  unfold queueInv; decide

theorem witness_ValveLaw : cannonInv spraying ∧ spraying.cannon.valveOpen = true := by
  unfold cannonInv; decide

theorem witness_LineIsKept : lineInv (onTheLine 7 (.cover 14 42 .locked 0 900)) ∧ lineInv (statusDue true fullQueue) := by
  unfold lineInv; decide

theorem witness_PeersAreKept : peersInv (knowing rivals runs) := by
  unfold peersInv; decide

theorem witness_LocksAreKept :
    lockInv (lockedWith [beltLock, drainLock]).lockout ∧ storeInv (lockedWith [beltLock, drainLock]) := by
  unfold lockInv storeInv; decide

theorem witness_FacesAreKept : faceInv workedFace := by
  constructor
  · intro f r h
    match f with
    | 0 => cases h
    | 1 => cases h
    | 2 => cases h; exact ⟨by decide, by decide⟩
    | 3 => cases h
  · intro c h
    cases h
    decide

theorem witness_DustIsKept : dustInv (holding (dusty .exceed 0 [1, 2, 3, 4, 5, 6] runs)).dust := by
  unfold dustInv; decide

theorem witness_RecordsAreKept :
    accountInv (fresh 5000 runs).account ∧ slotsInv forecastTaken.forecast.slots ∧ windInv (sampled 60 (some 1)).wind
      ∧ logInv (after .slewTimeout spraying).cannon := by
  refine ⟨by unfold accountInv; decide, ⟨by decide, by decide, by decide, by unfold slotsFollow; decide⟩,
    by unfold windInv; decide, by decide, by decide, ?_⟩
  intro i r h
  match i with
  | 0 => cases h; decide
  | i + 1 => exact absurd h (by simp [show (after .slewTimeout spraying).cannon.log.length = 1 from by decide])

theorem witness_LocksNeedTheirCommands : exec .sweep State.reset = .next State.reset := by rfl

theorem witness_FrameRoundTrip :
    1 ≤ 12 ∧ 12 ≤ 63 ∧ runs.station.node = 12 ∧ runs.station.mode ≠ .start ∧ runs.line.access ≠ .sending
      ∧ runs.line.partialFrame = [] ∧ 0x3C ≠ startMark := by decide

/-- The frame of 9.3 byte by byte: the start mark begins it, its last byte completes it (R150). -/
theorem test_frame_byte_by_byte :
    let bytes : List Byte := [0xA5, 0x09, 0x03, 0x01, 0x04, 0x5D, 0x52]
    let hears := fun bs => bs.foldl (fun s b => State.hearByte b s) runs
    (hears (0x3C :: bytes)).pending = [.releaseFrame 9 [4]] ∧ (hears (0x3C :: bytes)).line.partialFrame = []
      ∧ (hears (bytes.take 6)).line.partialFrame = bytes.take 6 ∧ (hears [0x3C, 0xA6]) = runs.setLine { runs.line with busy := true } := by
  decide +kernel

/-- A panel message byte by byte (R169). -/
theorem test_message_byte_by_byte :
    let hears := fun (bs : List Byte) => bs.foldl (fun s b => State.hearPanelByte b s) runs
    (hears [0xA5, 0x3C, 0x05, 0x00, 0xFB]).pending = [.ackAlarms]
      ∧ (hears [0x3C, 0x05]).panel.partialMessage = [0x3C, 0x05] := by decide +kernel

/-- The ranked list of the CLAIM snapshot: node, class, flow, wait age, serial and announce time (R99, R115). -/
theorem test_ranked_claim_bytes :
    encRanked { node := 9, cls := .suppress, flow := 18, wait := 7, serial := 3, announce := 990 } =
      [9, 2, 0, 18, 7, 3, 0, 0, 3, 0xDE] := by decide

end Sys2Proof.Tests
end

section
/-! PROOFS. ANEMOMETER_SAMPLE and RAIN_PULSE: what the accumulator and the face records gain, and what stays. -/

namespace Sys2Proof.Machine

/-! ### The arrival -/

/-- `arrival_same` for an effect whose result is known. -/
theorem arrival_eq_of_effect {effect : State → State} {s t : State} (hs : settled s) (h : s.station.mode ≠ .start)
    (he : effect s = t) (ha : t.alarms = s.alarms) (hc : t.conditions = s.conditions) (hr : t.relaySet = s.relaySet)
    (hl : t.line.left = false) (hi : t.reportedItems = s.reportedItems) : arrival effect s = t := by
  subst he
  exact arrival_same hs h ha hc hr hl hi

/-! ### The accumulator (R3) -/

@[simp] theorem bearingOffset_self (bearing : Nat) : bearingOffset bearing bearing = 0 := by
  simp [bearingOffset]

/-- Two bearings of the circle differ by less than a turn, so one correction brings the offset into range. -/
theorem bearingOffset_mem_range {first bearing : Nat} (hf : first ≤ 359) (hb : bearing ≤ 359) :
    -179 ≤ bearingOffset first bearing ∧ bearingOffset first bearing ≤ 180 := by
  simp only [bearingOffset, Int.ofNat_eq_natCast]
  split
  · omega
  · split <;> omega

/-- The correction is by whole turns. -/
theorem turn_dvd_bearingOffset_sub (first bearing : Nat) :
    (360 : Int) ∣ bearingOffset first bearing - (Int.ofNat bearing - Int.ofNat first) := by
  simp only [bearingOffset, Int.ofNat_eq_natCast]
  split
  · omega
  · split <;> omega

/-- The clamp of a reading in its order on the integers, as R3 states it. -/
theorem clampInt_eq_toNat (hi : Nat) (x : Int) : clampInt hi x = (max 0 (min (hi : Int) x)).toNat := by
  unfold clampInt
  omega

theorem Accumulator.offer_discarded {speed bearing : Int} {a : Accumulator}
    (h : bearing < 0 ∨ 359 < bearing ∨ 60 ≤ a.count) : a.offer speed bearing = a := if_pos h

theorem Accumulator.offer_accepted {speed bearing : Int} {a : Accumulator}
    (h0 : 0 ≤ bearing) (h1 : bearing ≤ 359) (hc : a.count < 60) :
    a.offer speed bearing = a.add (max 0 (min 400 speed)).toNat bearing.toNat := by
  have hn : ¬(bearing < 0 ∨ 359 < bearing ∨ 60 ≤ a.count) := by omega
  simp only [offer, hn, if_false, clampInt_eq_toNat]
  rfl

/-! ### ANEMOMETER_SAMPLE (R3) -/

theorem takeSample_stopped {speed bearing : Int} {s : State} (h : s.wind.minute.isRunning = false) :
    takeSample speed bearing s = s := by
  simp [takeSample, h]

theorem takeSample_running {speed bearing : Int} {s : State} (h : s.wind.minute.isRunning = true) :
    takeSample speed bearing s = s.setWind { s.wind with acc := s.wind.acc.offer speed bearing } := by
  simp [takeSample, h]

theorem takeSample_discarded {speed bearing : Int} {s : State}
    (h : bearing < 0 ∨ 359 < bearing ∨ 60 ≤ s.wind.acc.count) : takeSample speed bearing s = s := by
  unfold takeSample
  split
  · rw [Accumulator.offer_discarded h]
    rfl
  · rfl

theorem exec_anemometerSample (speed bearing : Int) (s : State) :
    exec (.anemometerSample speed bearing) s = .next (arrival (takeSample speed bearing) s) := rfl

theorem exec_anemometerSample_discarded {speed bearing : Int} {s : State} (hs : settled s)
    (h : takeSample speed bearing s = s) : exec (.anemometerSample speed bearing) s = .next s := by
  rw [exec_anemometerSample, arrival_id hs h]

/-- No condition, no relay choice and no reported item reads the accumulator, so nothing follows an offered sample. -/
theorem exec_anemometerSample_running {speed bearing : Int} {s : State} (hs : settled s)
    (hm : s.station.mode ≠ .start) (h : s.wind.minute.isRunning = true) :
    exec (.anemometerSample speed bearing) s =
      .next (s.setWind { s.wind with acc := s.wind.acc.offer speed bearing }) := by
  rw [exec_anemometerSample, arrival_eq_of_effect hs hm (takeSample_running h) rfl rfl rfl hs.2 rfl]

/-! ### RAIN_PULSE (R21) -/

/-- The face records after a pulse. -/
def FaceUnit.addRain (u : FaceUnit) : FaceUnit := { u with records := u.records.map (Option.map FaceRecord.addRain) }

@[simp] theorem FaceUnit.addRain_timer (u : FaceUnit) : u.addRain.timer = u.timer := rfl

@[simp] theorem FaceUnit.addRain_get (u : FaceUnit) (f : FaceId) :
    u.addRain.records.get f = (u.records.get f).map FaceRecord.addRain := PerFace.get_map _ _ f

theorem takeRainPulse_idle {s : State} (h : s.operational = false) : takeRainPulse s = s := by
  simp [takeRainPulse, h]

theorem takeRainPulse_operational {s : State} (h : s.operational = true) :
    takeRainPulse s = s.setFace s.face.addRain := by
  simp [takeRainPulse, h, FaceUnit.addRain]

/-- A pulse leaves the class of every face as it was. -/
theorem faceClasses_addRain (s : State) : (s.setFace s.face.addRain).faceClasses = s.faceClasses := by
  refine faceClasses_of_get fun f => ?_
  rw [State.setFace_face, FaceUnit.addRain_get, Option.map_map]
  rfl

theorem exec_rainPulse (s : State) : exec .rainPulse s = .next (arrival takeRainPulse s) := rfl

theorem exec_rainPulse_idle {s : State} (hs : settled s) (h : s.operational = false) :
    exec .rainPulse s = .next s := by
  rw [exec_rainPulse, arrival_id hs (takeRainPulse_idle h)]

/-- Of the face records the end of an arrival reads the classes alone, so nothing follows a pulse. -/
theorem exec_rainPulse_operational {s : State} (hs : settled s) (hm : s.station.mode ≠ .start)
    (h : s.operational = true) : exec .rainPulse s = .next (s.setFace s.face.addRain) := by
  have hi : (s.setFace s.face.addRain).reportedItems = s.reportedItems := by
    unfold State.reportedItems
    rw [faceClasses_addRain]
    rfl
  rw [exec_rainPulse, arrival_eq_of_effect hs hm (takeRainPulse_operational h) rfl rfl rfl hs.2 hi]

/-! ### The statement -/

/-- Settles O4. The offset is the sample's bearing taken from the first one, and from itself where there is none. -/
theorem sensorsAreCounted : Obligations.SensorsAreCounted := by
  unfold Obligations.SensorsAreCounted
  intro speed bearing s hs hm
  refine ⟨fun h => exec_anemometerSample_discarded hs (takeSample_stopped h),
    fun h => exec_anemometerSample_discarded hs (takeSample_discarded h), ?accepted,
    exec_rainPulse_idle hs, ?counted⟩
  case accepted =>
    intro hr h0 h1 hc
    refine ⟨bearingOffset (s.wind.acc.first.getD bearing.toNat) bearing.toNat, ?_, fun hn => ?_,
      fun first hf hl => ?_⟩
    · rw [exec_anemometerSample_running hs hm hr, Accumulator.offer_accepted h0 h1 hc]
      rfl
    · rw [hn, Option.getD_none, bearingOffset_self]
    · have hb : Int.ofNat bearing.toNat = bearing := Int.toNat_of_nonneg h0
      have hd := turn_dvd_bearingOffset_sub first bearing.toNat
      obtain ⟨hlo, hhi⟩ := bearingOffset_mem_range hl (show bearing.toNat ≤ 359 by omega)
      rw [hb] at hd
      rw [hf, Option.getD_some]
      exact ⟨hlo, hhi, hd⟩
  case counted =>
    intro ho
    exact ⟨s.face.addRain, exec_rainPulse_operational hs hm ho, s.face.addRain_timer, s.face.addRain_get⟩

end Sys2Proof.Machine
end

section
/-! PROOFS. EVALUATION, step 7: the table of R31, a row for each class before. -/

namespace Sys2Proof.Machine

/-! ### Rising at once, falling one class and only past the hysteresis -/

theorem nextClass_quiet (c : Configuration) (i : Nat) :
    nextClass c i .quiet = if c.tAct ≤ i then .act else if c.tWatch ≤ i then .watch else .quiet := rfl

theorem nextClass_watch (c : Configuration) (i : Nat) :
    nextClass c i .watch = if c.tAct ≤ i then .act else if i < c.tWatch - c.hyst then .quiet else .watch := rfl

theorem nextClass_act (c : Configuration) (i : Nat) :
    nextClass c i .act = if i < c.tAct - c.hyst then .watch else .act := rfl

/-! ### The statement -/

/-- Settles O8. The rows of the table in order; ⊖ is the natural numbers' own subtraction. -/
theorem classStep : Obligations.ClassStep := by
  unfold Obligations.ClassStep
  intro c i
  exact ⟨nextClass_quiet c i, nextClass_watch c i, nextClass_act c i⟩

end Sys2Proof.Machine
end

section
/-! PROOFS. ACK_ALARMS: the ten flags after it, the relay and the answer. -/

namespace Sys2Proof.Machine

/-! ### One flag (R174, R175) -/

/-- ACK ALARMS on one flag, in the words of R174 and R175. -/
theorem Flag.acknowledge_eq (condition : Bool) (f : Flag) :
    f.acknowledge condition =
      if f.state = .raised then
        { f with state := if condition && f.cond then .acked else .idle, again := false }
      else f := by
  unfold acknowledge
  cases hf : f.state with
  | raised => cases condition <;> cases f.cond <;> rfl
  | idle => rfl
  | acked => rfl

theorem Flag.acknowledge_of_not_raised (condition : Bool) {f : Flag} (h : f.state ≠ .raised) :
    f.acknowledge condition = f := by
  rw [acknowledge_eq, if_neg h]

@[simp] theorem Flag.acknowledge_cond (condition : Bool) (f : Flag) : (f.acknowledge condition).cond = f.cond := by
  rw [acknowledge_eq]
  split <;> rfl

theorem Flag.acknowledge_not_raised (condition : Bool) (f : Flag) : (f.acknowledge condition).state ≠ .raised := by
  rw [acknowledge_eq]
  split
  · show (if condition && f.cond then FlagState.acked else .idle) ≠ .raised
    split <;> decide
  · assumption

/-- A RAISED flag leaves RAISED and no other flag moves. -/
theorem Flag.state_ne_acknowledge_iff (condition : Bool) (f : Flag) :
    f.state ≠ (f.acknowledge condition).state ↔ f.state = .raised := by
  constructor
  · intro hne
    refine Decidable.byContradiction fun hr => hne ?_
    rw [acknowledge_of_not_raised condition hr]
  · intro hr
    rw [hr]
    exact (acknowledge_not_raised condition f).symm

/-! ### The ten flags (R176) -/

@[simp] theorem acknowledgeAll_get (f : PerFlag Flag) (i : AlarmId) :
    (acknowledgeAll f).get i = (f.get i).acknowledge (conditionFlag i) := by
  cases i <;> rfl

theorem flagsChanged_acknowledgeAll (f : PerFlag Flag) :
    flagsChanged f (acknowledgeAll f) = (allAlarms.filter fun i => decide ((f.get i).state = .raised)).length := by
  simp only [flagsChanged, acknowledgeAll_get, Flag.state_ne_acknowledge_iff]

/-- With every RAISED flag acknowledged no flag holds the relay on (R177). -/
theorem relayLevel_acknowledgeAll (set : PerFlag Bool) (f : PerFlag Flag) :
    relayLevel set (acknowledgeAll f) = false := by
  simp [relayLevel, Flag.acknowledge_not_raised]

theorem perFlag_ext {α : Type} {p q : PerFlag α} (h : ∀ i, p.get i = q.get i) : p = q := by
  cases p
  cases q
  rw [PerFlag.mk.injEq]
  exact ⟨h .plumeUncovered, h .prewetMissed, h .cannonFault, h .duplicateNode, h .supplyStale, h .freshExhausted,
    h .windLost, h .forecastStale, h .lineIsolated, h .configAbsent⟩

theorem followAll_get (sec : Nat) (c : PerFlag Bool) (f : PerFlag Flag) (i : AlarmId) :
    (followAll sec c f).get i = if conditionFlag i then (f.get i).follow sec (c.get i) else f.get i := by
  cases i <;> rfl

/-- Flags that show their conditions' values are not changed by reports of those values. -/
theorem followAll_same {sec : Nat} {c : PerFlag Bool} {f : PerFlag Flag}
    (h : ∀ i, conditionFlag i = true → c.get i = (f.get i).cond) : followAll sec c f = f := by
  refine perFlag_ext fun i => ?_
  rw [followAll_get]
  split
  · next hi => exact Flag.follow_same (h i hi)
  · rfl

/-- Between two arrivals the flags still show their conditions' values once they are acknowledged. -/
theorem followAll_acknowledgeAll {s : State} (h : syncAlarms s = s) :
    followAll s.sec s.conditions (acknowledgeAll s.alarms.flags) = acknowledgeAll s.alarms.flags := by
  refine followAll_same fun i hi => ?_
  rw [acknowledgeAll_get, Flag.acknowledge_cond]
  exact flags_of_sync h i hi

/-! ### The command (R170, R176) -/

/-- With no command in progress the work is done at once and its answer is in progress. -/
theorem takeCommand_free {code : Nat} {work : State → State × PanelAnswer} {s : State} (h : s.panel.answer = none) :
    takeCommand code work s =
      (work (dropMessage s)).1.onPanel fun p => { p with answer := some (work (dropMessage s)).2 } := by
  simp only [takeCommand, h]
  rfl

/-- The state after an ACK ALARMS that is taken, with the number of its RAISED flags in the answer. -/
def State.acknowledged (s : State) : State :=
  (s.setPanel
      { s.panel with
        partialMessage := []
        answer :=
          some
            (PanelAnswer.of 5 .accepted
              (enc8 (flagsChanged s.alarms.flags (acknowledgeAll s.alarms.flags)))) }).setAlarms
    { flags := acknowledgeAll s.alarms.flags, relay := false }

theorem acknowledged_only (s : State) : onlyChanges [.alarms, .panel] s s.acknowledged :=
  only_trans (only_mono (setPanel_only s _) (by decide)) (only_mono (setAlarms_only _ _) (by decide))

/-- The command itself leaves the relay as it was. -/
theorem takeCommand_ackWith {s : State} (h : s.panel.answer = none) :
    takeCommand 5 ackWith s =
      s.acknowledged.setAlarms { flags := acknowledgeAll s.alarms.flags, relay := s.alarms.relay } :=
  takeCommand_free h

/-- The conditions and the relay set are read from parts that ACK ALARMS does not write, so the end of the arrival turns
the relay off and changes nothing else. -/
theorem syncAlarms_acknowledgeAll {s : State} (h : syncAlarms s = s) :
    syncAlarms (s.acknowledged.setAlarms { flags := acknowledgeAll s.alarms.flags, relay := s.alarms.relay }) =
      s.acknowledged := by
  show s.acknowledged.setAlarms
      { flags := followAll s.sec s.conditions (acknowledgeAll s.alarms.flags)
        relay := relayLevel s.relaySet (followAll s.sec s.conditions (acknowledgeAll s.alarms.flags)) } = s.acknowledged
  rw [followAll_acknowledgeAll h, relayLevel_acknowledgeAll]
  rfl

theorem exec_ackAlarms {s : State} (hs : settled s) (hm : s.station.mode ≠ .start) (ha : s.panel.answer = none) :
    exec .ackAlarms s = .next s.acknowledged := by
  obtain ⟨hsync, hleft⟩ := hs
  have hquiet : arrival (takeCommand 5 ackWith) s = syncAlarms (takeCommand 5 ackWith s) := by
    rw [arrival_eq hm, takeCommand_ackWith ha]
    exact closeArrival_quiet hleft rfl
  calc exec .ackAlarms s
      = .next (arrival (takeCommand 5 ackWith) s) := rfl
    _ = .next s.acknowledged := by rw [hquiet, takeCommand_ackWith ha, syncAlarms_acknowledgeAll (hsync hm)]

/-! ### The statement -/

/-- Settles O44. A flag changes exactly if it was RAISED, so the answer counts the RAISED flags; none stays RAISED, so
the relay is off. -/
theorem alarmsAreAcknowledged : Obligations.AlarmsAreAcknowledged := by
  unfold Obligations.AlarmsAreAcknowledged
  intro s hs hm ha
  refine ⟨s.acknowledged, exec_ackAlarms hs hm ha, fun i => ?flag, rfl, ?panel, acknowledged_only s⟩
  case flag => exact (acknowledgeAll_get _ i).trans (Flag.acknowledge_eq _ _)
  case panel =>
    rw [← flagsChanged_acknowledgeAll]
    rfl

end Sys2Proof.Machine
end


section
/-! PROOFS. Facts about lists of keys, for the blocks that hold an entry for each key. -/

namespace Sys2Proof.Machine

/-- One more element with a key of its own keeps the keys apart. -/
theorem nodup_map_concat {α β : Type} {key : α → β} {l : List α} {a : α} (hnd : (l.map key).Nodup)
    (hnew : ∀ x ∈ l, key x ≠ key a) : ((l ++ [a]).map key).Nodup := by
  rw [List.map_append, List.nodup_append]
  refine ⟨hnd, List.pairwise_singleton _ _, fun b hb c hc => ?_⟩
  obtain ⟨x, hx, rfl⟩ := List.mem_map.1 hb
  rw [List.mem_singleton.1 hc]
  exact hnew x hx

/-- Where the keys are apart, a key names one element. -/
theorem eq_of_nodup_map {α β : Type} {key : α → β} {l : List α} (hnd : (l.map key).Nodup) {x y : α} (hx : x ∈ l)
    (hy : y ∈ l) (h : key x = key y) : x = y := by
  induction l with
  | nil => cases hx
  | cons a l ih =>
    obtain ⟨hout, hnd⟩ := List.nodup_cons.1 hnd
    rcases List.mem_cons.1 hx with hxa | hx <;> rcases List.mem_cons.1 hy with hya | hy
    · rw [hxa, hya]
    · exact absurd (List.mem_map.2 ⟨y, hy, by rw [← h, hxa]⟩) hout
    · exact absurd (List.mem_map.2 ⟨x, hx, by rw [h, hya]⟩) hout
    · exact ih hnd hx hy

theorem PerFace.get_const {α : Type} (a : α) (f : FaceId) : PerFace.get ⟨a, a, a, a⟩ f = a := by
  match f with
  | 0 => rfl
  | 1 => rfl
  | 2 => rfl
  | 3 => rfl

theorem filterMap_congr_mem {α β : Type} {f g : α → Option β} {l : List α} (h : ∀ x ∈ l, f x = g x) :
    l.filterMap f = l.filterMap g := by
  induction l with
  | nil => rfl
  | cons a l ih =>
    rw [List.filterMap_cons, List.filterMap_cons, h a List.mem_cons_self,
      ih fun x hx => h x (List.mem_cons_of_mem a hx)]

end Sys2Proof.Machine
end

section
/-! PROOFS. What a command does, said once: the effect of every command but POWER_ON, the parts of the state that each
effect can change, and the rule by which a step keeps what depends on some parts of the state only. -/

namespace Sys2Proof.Machine

/-! ### The effects -/

/-- The effect of a command, to which `arrival` adds the end of the arrival. -/
def effectOf : Instr → State → State
  | .powerOn straps key => takePowerOn straps.val key
  | .anemometerSample speed bearing => takeSample speed bearing
  | .minuteClose => takeMinuteClose
  | .evaluation => takeEvaluation
  | .rainPulse => takeRainPulse
  | .flowPulse => takeFlowPulse
  | .encoderReport bearing => takeEncoderReport bearing.val
  | .dustReading value => takeDustReading value
  | .readingWatchExpiry => takeReadingWatch
  | .pressureReading pressure => takePressure pressure
  | .firstStage => takeFirstStage
  | .secondStage => takeSecondStage
  | .commissioningKeyRelease => takeKeyRelease
  | .commissioningWindowExpiry => takeWindowExpiry
  | .listenTimerExpiry => takeListenTimer
  | .statusFrame n payload => takeFrame .status n payload (handStatus n payload)
  | .claimFrame n payload => takeFrame .claim n payload (handClaim n payload)
  | .releaseFrame n payload => takeFrame .release n payload (handRelease n payload)
  | .plumeFrame n payload => takeFrame .plume n payload (handPlume n payload)
  | .coverFrame n payload => takeFrame .cover n payload (handCover n payload)
  | .windFrame n payload => takeFrame .wind n payload (handWind n payload)
  | .forecastFrame n payload => takeFrame .forecast n payload (handForecast n payload)
  | .supplyFrame n payload => takeFrame .supply n payload (handSupply n payload)
  | .machineFrame n payload => takeFrame .machine n payload (handMachine n payload)
  | .duplicate => fun s => takeDuplicate (frameEnds s)
  | .frameBroken => takeFrameBroken
  | .accessGap => takeAccessGap
  | .collision => takeCollision
  | .backoffExpiry => takeBackoff
  | .transmissionCompletes => takeTransmission
  | .read selector part first last => takeCommand 1 fun s => (s, answerRead selector part first last s)
  | .configure block => takeCommand 2 (configureWith block)
  | .lock code level => takeCommand 3 (lockWith code level)
  | .unlock code => takeCommand 4 (unlockWith code)
  | .ackAlarms => takeCommand 5 ackWith
  | .clearFault => takeCommand 6 clearFaultWith
  | .restart => takeCommand 7 restartWith
  | .testSpray face volume => takeCommand 8 (testSprayWith face volume)
  | .panelUnknownCommand code => takeCommand code refuseUnknown
  | .panelBadCheck => dropMessage
  | .panelMessageBroken => dropMessage
  | .answerSent => takeAnswerSent
  | .settleExpiry => takeSettle
  | .claimRefresh => takeClaimRefresh
  | .onTimerExpiry => takeOnTimer
  | .periodTimerExpiry => takePeriodTimer
  | .noFlowExpiry => takeNoFlow
  | .slewTimeout => takeSlewTimeout
  | .primingExpiry => takePriming
  | .drainExpiry => takeDrain
  | .standbyExpiry => takeStandby
  | .faultHoldExpiry face => takeFaultHold face
  | .deadline => passDeadlines
  | .supplyStaleExpiry => takeSupplyStale
  | .staleRollover => rollStale
  | .slotEnd => takeSlotEnd
  | .forecastStaleExpiry => takeForecastStale
  | .plumeRefresh => takePlumeRefresh
  | .recoveryExpiry => takeRecovery
  | .responseWindowExpiry => takeResponseWindow
  | .pendingAnswerExpiry target => takePendingAnswer target
  | .sweep => takeSweep
  | .isolationExpiry => takeIsolation
  | .statusPeriod => takeStatusPeriod
  | .statusDueMark => takeStatusDueMark
  | .frameDiscarded => frameEnds

/-- A command other than POWER_ON. -/
def Instr.ordinary (c : Instr) : Prop := ∀ straps key, c ≠ .powerOn straps key

theorem exec_ordinary {c : Instr} (hc : Instr.ordinary c) (s : State) :
    exec c s = .next (arrival (effectOf c) s) := by
  cases c with
  | powerOn straps key => exact absurd rfl (hc straps key)
  | _ => rfl

theorem exec_powerOn (straps : Fin 64) (key : Bool) (s : State) :
    exec (.powerOn straps key) s = .next (closeArrival s (takePowerOn straps.val key s)) := rfl

/-- In START an ordinary command changes nothing (log 10). -/
theorem exec_start {c : Instr} (hc : Instr.ordinary c) {s : State} (h : s.station.mode = .start) :
    exec c s = .next s := by
  rw [exec_ordinary hc, arrival, if_pos h]

theorem exec_started {c : Instr} (hc : Instr.ordinary c) {s : State} (h : s.station.mode ≠ .start) :
    exec c s = .next (closeArrival s (effectOf c s)) := by
  rw [exec_ordinary hc, arrival_eq h]

/-! ### The parts that an effect can change -/

/-- The parts that a chain end, with the selection that follows it, can change. -/
def deep : List Field := [.queue, .cannon, .claim, .line, .face, .alarms, .free]

/-- The parts that a selection can change. -/
def shallow : List Field := [.queue, .cannon, .claim, .line, .free]

/-- The parts that the effect of a command can change. -/
def touched : Instr → List Field
  | .powerOn _ _ => []
  | .anemometerSample _ _ => [.wind]
  | .minuteClose => .wind :: deep
  | .evaluation => .look :: .account :: deep
  | .rainPulse => [.face]
  | .flowPulse => .account :: deep
  | .encoderReport _ => [.cannon, .claim, .line]
  | .dustReading _ => .dust :: deep
  | .readingWatchExpiry => [.dust, .line]
  | .pressureReading _ => [.claim]
  | .firstStage => [.cannon, .claim, .line]
  | .secondStage => deep
  | .commissioningKeyRelease =>
    [.pins, .station, .wind, .face, .look, .cannon, .dust, .peers, .line, .claim, .forecast]
  | .commissioningWindowExpiry => [.station, .wind, .face, .look, .cannon, .dust, .peers, .line, .claim, .forecast]
  | .listenTimerExpiry => .station :: .dust :: shallow
  | .statusFrame _ _ => .station :: .peers :: deep
  | .claimFrame _ _ => .station :: .peers :: deep
  | .releaseFrame _ _ => .station :: .peers :: deep
  | .plumeFrame _ _ => .dust :: .station :: .peers :: deep
  | .coverFrame _ _ => .dust :: .station :: .peers :: deep
  | .windFrame _ _ => .station :: .peers :: deep
  | .forecastFrame _ _ => .forecast :: .station :: .peers :: deep
  | .supplyFrame _ _ => .account :: .station :: .peers :: deep
  | .machineFrame _ _ => .station :: .peers :: deep
  | .duplicate => .station :: deep
  | .frameBroken => [.line]
  | .accessGap => [.line]
  | .collision => [.line, .dust]
  | .backoffExpiry => [.line]
  | .transmissionCompletes => [.line, .claim]
  | .read _ _ _ _ => [.panel]
  | .configure _ => [.panel, .store, .station]
  | .lock _ _ => .panel :: .lockout :: .store :: deep
  | .unlock _ => .panel :: .lockout :: .store :: shallow
  | .ackAlarms => [.panel, .alarms]
  | .clearFault => .panel :: shallow
  | .restart => .panel :: .station :: .peers :: .dust :: .wind :: .forecast :: deep
  | .testSpray _ _ => .panel :: deep
  | .panelUnknownCommand _ => [.panel]
  | .panelBadCheck => [.panel]
  | .panelMessageBroken => [.panel]
  | .answerSent => [.panel]
  | .settleExpiry => [.cannon, .claim, .line]
  | .claimRefresh => [.claim, .line]
  | .onTimerExpiry => [.cannon]
  | .periodTimerExpiry => [.cannon]
  | .noFlowExpiry => deep
  | .slewTimeout => deep
  | .primingExpiry => shallow
  | .drainExpiry => shallow
  | .standbyExpiry => shallow
  | .faultHoldExpiry _ => shallow
  | .deadline => [.queue, .face, .alarms]
  | .supplyStaleExpiry => .account :: deep
  | .staleRollover => .account :: deep
  | .slotEnd => [.forecast]
  | .forecastStaleExpiry => [.forecast]
  | .plumeRefresh => [.dust, .line]
  | .recoveryExpiry => [.dust]
  | .responseWindowExpiry => [.dust, .alarms]
  | .pendingAnswerExpiry _ => [.dust]
  | .sweep => .peers :: deep
  | .isolationExpiry => [.line]
  | .statusPeriod => [.line]
  | .statusDueMark => [.line]
  | .frameDiscarded => [.line]

/-! ### The Wind Unit, the Face Model Unit and the Forecast Table -/

theorem takeSample_only (speed bearing : Int) (s : State) : onlyChanges [.wind] s (takeSample speed bearing s) :=
  only_ite (setWind_only s _) (only_refl _ s)

theorem cutOutEffects_only (b : Bool) (s : State) : onlyChanges deep s (cutOutEffects b s) := by
  unfold cutOutEffects
  split
  · exact chainEnd_only _ s
  · exact only_ite (only_mono (releaseClaim_only s) (by decide)) (only_refl _ s)
  · split
    · exact only_mono (askClaim_only _ _ s) (by decide)
    · exact only_refl _ s
  · exact only_refl _ s

theorem takeMinuteClose_only (s : State) : onlyChanges (.wind :: deep) s (takeMinuteClose s) :=
  only_ite
    (only_trans (only_mono (setWind_only s _) (by decide)) (only_mono (cutOutEffects_only _ _) (by decide)))
    (only_refl _ s)

theorem takeEvaluation_only (s : State) : onlyChanges (.look :: .account :: deep) s (takeEvaluation s) :=
  only_ite
    (only_trans (only_mono (setFace_only s _) (by decide))
      (only_trans (only_mono (evaluateFaces_only _) (by decide)) (only_mono (lookAhead_only _) (by decide))))
    (only_refl _ s)

theorem takeRainPulse_only (s : State) : onlyChanges [.face] s (takeRainPulse s) :=
  only_ite (setFace_only s _) (only_refl _ s)

theorem takeSlotEnd_only (s : State) : onlyChanges [.forecast] s (takeSlotEnd s) :=
  only_ite (setForecast_only s _) (only_refl _ s)

theorem takeForecastStale_only (s : State) : onlyChanges [.forecast] s (takeForecastStale s) :=
  only_ite (setForecast_only s _) (only_refl _ s)

/-! ### The Cannon Controller, the Spray Queue and the Water Claim Unit -/

theorem takeFlowPulse_only (s : State) : onlyChanges (.account :: deep) s (takeFlowPulse s) :=
  only_ite
    (only_trans (only_mono (chargeFaceLitre_only s) (by decide))
      (only_trans (only_mono (setAccount_only _ _) (by decide))
        (only_trans (only_mono (chargeChain_only _) (by decide)) (only_mono (gatingEffects_only _ _) (by decide)))))
    (only_refl _ s)

theorem takeEncoderReport_only (b : Nat) (s : State) :
    onlyChanges [.cannon, .claim, .line] s (takeEncoderReport b s) := by
  have h1 : onlyChanges [.cannon, .claim, .line] s (s.onCannon fun c => { c with bearing := some b }) :=
    only_mono (onCannon_only s _) (by decide)
  unfold takeEncoderReport
  split
  · exact only_ite (only_trans h1 (enterClaiming_only _ _)) h1
  · exact only_ite (only_trans h1 (only_mono (onCannon_only _ _) (by decide))) h1
  · exact h1

theorem takeOnTimer_only (s : State) : onlyChanges [.cannon] s (takeOnTimer s) :=
  only_ite (onCannon_only s _) (only_refl _ s)

theorem takePeriodTimer_only (s : State) : onlyChanges [.cannon] s (takePeriodTimer s) :=
  only_ite (only_ite (onCannon_only s _) (onCannon_only s _)) (only_refl _ s)

theorem takeNoFlow_only (s : State) : onlyChanges deep s (takeNoFlow s) :=
  only_ite (only_trans (only_mono (onCannon_only s _) (by decide)) (chainEnd_only _ _)) (only_refl _ s)

theorem takeSlewTimeout_only (s : State) : onlyChanges deep s (takeSlewTimeout s) :=
  only_ite (only_trans (only_mono (onCannon_only s _) (by decide)) (chainEnd_only _ _)) (only_refl _ s)

theorem startWaiting_only (ch : Chain) (s : State) : onlyChanges shallow s (startWaiting ch s) :=
  only_trans (only_mono (onCannon_only s _) (by decide)) (only_mono (enterSlewing_only _ _) (by decide))

theorem takePriming_only (s : State) : onlyChanges shallow s (takePriming s) := by
  unfold takePriming
  refine only_ite (only_ite ?_ (only_mono (onCannon_only s _) (by decide))) (only_refl _ s)
  simp only
  split
  · exact only_trans (only_mono (onCannon_only s _) (by decide)) (startWaiting_only _ _)
  · exact only_trans (only_mono (onCannon_only s _) (by decide)) (enterParked_only _)

theorem takeDrain_only (s : State) : onlyChanges shallow s (takeDrain s) := by
  have h1 : onlyChanges shallow s (s.onCannon fun c => { c with drain := .stopped }) :=
    only_mono (onCannon_only s _) (by decide)
  unfold takeDrain
  refine only_ite (only_ite (only_ite (only_trans h1 (only_mono (lockCannon_only _) (by decide))) ?_) h1)
    (only_refl _ s)
  split
  · exact only_trans h1 (startWaiting_only _ _)
  · exact only_trans h1 (enterParked_only _)

theorem takeStandby_only (s : State) : onlyChanges shallow s (takeStandby s) := by
  have hc : ∀ (s : State) g, onlyChanges shallow s (s.onCannon g) := fun s g =>
    only_mono (onCannon_only s g) (by decide)
  exact only_ite (only_ite (only_trans (hc s _) (only_trans (hc _ _) (openRequest_only _))) (hc s _)) (only_refl _ s)

theorem takeFaultHold_only (f : FaceId) (s : State) : onlyChanges shallow s (takeFaultHold f s) :=
  only_ite (only_trans (only_mono (setQueue_only s _) (by decide)) (trySelection_only _)) (only_refl _ s)

theorem takeSettle_only (s : State) : onlyChanges [.cannon, .claim, .line] s (takeSettle s) :=
  only_ite (only_ite (settleDecision_only _ s) (only_mono (setClaim_only s _) (by decide))) (only_refl _ s)

theorem takeClaimRefresh_only (s : State) : onlyChanges [.claim, .line] s (takeClaimRefresh s) :=
  only_ite (only_ite (only_mono (setClaim_only s _) (by decide)) (announceClaim_only s)) (only_refl _ s)

theorem takePressure_only (p : Nat) (s : State) : onlyChanges [.claim] s (takePressure p s) :=
  only_ite (only_ite (setClaim_only s _) (setClaim_only s _)) (setClaim_only s _)

theorem takeFirstStage_only (s : State) : onlyChanges [.cannon, .claim, .line] s (takeFirstStage s) :=
  only_ite
    (only_trans (only_mono (setClaim_only s _) (by decide))
      (only_trans (only_mono (changeOnTime_only _ _) (by decide)) (only_mono (announceClaim_only _) (by decide))))
    (only_refl _ s)

theorem takeSecondStage_only (s : State) : onlyChanges deep s (takeSecondStage s) :=
  only_ite (only_trans (only_mono (setClaim_only s _) (by decide)) (chainEnd_only _ _)) (only_refl _ s)

theorem recomputeOnCapacity_only (n : Nat) (s : State) : onlyChanges deep s (recomputeOnCapacity n s) :=
  only_ite (only_refl _ s) (recompute_only s)

theorem clearRunoff_only (s : State) : onlyChanges [.face] s (clearRunoff s) := setFace_only s _

theorem rollover_only (day : Option Nat) (a : Nat) (s : State) :
    onlyChanges [.account, .face] s (rollover day a s) :=
  only_trans (only_mono (setAccount_only s _) (by decide)) (only_mono (clearRunoff_only _) (by decide))

theorem rollStale_only (s : State) : onlyChanges (.account :: deep) s (rollStale s) :=
  only_ite
    (only_trans (only_mono (rollover_only _ _ s) (by decide)) (only_mono (gatingEffects_only _ _) (by decide)))
    (only_refl _ s)

theorem takeSupplyStale_only (s : State) : onlyChanges (.account :: deep) s (takeSupplyStale s) :=
  only_ite
    (only_trans (only_mono (setClaim_only s _) (by decide))
      (only_trans (only_mono (recomputeOnCapacity_only _ _) (by decide)) (rollStale_only _)))
    (only_refl _ s)

/-! ### The Dust Watch Unit -/

theorem takeDustReading_only (v : Int) (s : State) : onlyChanges (.dust :: deep) s (takeDustReading v s) := by
  unfold takeDustReading
  refine only_ite ?_ (only_refl _ s)
  exact only_trans (takeReading_only _ s)
    (only_trans (only_ite (only_mono (retryNotice_only _) (by decide)) (only_refl _ _))
      (only_mono (retryAnswers_only _) (by decide)))

theorem takeReadingWatch_only (s : State) : onlyChanges [.dust, .line] s (takeReadingWatch s) :=
  only_ite
    (only_ite (only_trans (only_mono (onDust_only s _) (by decide)) (retryDust_only _))
      (only_mono (onDust_only s _) (by decide)))
    (only_refl _ s)

theorem takePlumeRefresh_only (s : State) : onlyChanges [.dust, .line] s (takePlumeRefresh s) :=
  only_ite
    (only_ite (only_trans (announceNotice_only s) (only_mono (onDust_only _ _) (by decide)))
      (only_mono (onDust_only s _) (by decide)))
    (only_refl _ s)

theorem takeRecovery_only (s : State) : onlyChanges [.dust] s (takeRecovery s) :=
  only_ite (only_ite (onDust_only s _) (onDust_only s _)) (only_refl _ s)

theorem takeResponseWindow_only (s : State) : onlyChanges [.dust, .alarms] s (takeResponseWindow s) :=
  only_ite
    (only_ite (only_mono (onDust_only s _) (by decide))
      (only_trans (only_mono (onDust_only s _) (by decide)) (only_mono (setAlarms_only _ _) (by decide))))
    (only_refl _ s)

theorem takePendingAnswer_only (n : Nat) (s : State) : onlyChanges [.dust] s (takePendingAnswer n s) :=
  onDust_only s _

theorem returnAnswer_only (a : PendingAnswer) (s : State) : onlyChanges [.dust] s (returnAnswer a s) :=
  only_ite (only_refl _ s) (onDust_only s _)

/-! ### Station Control -/

theorem formRecords_only (s : State) : onlyChanges [.face, .look, .cannon] s (formRecords s) :=
  only_trans (only_mono (setFace_only s _) (by decide))
    (only_trans (only_mono (setLook_only _ _) (by decide)) (only_mono (onCannon_only _ _) (by decide)))

theorem fallbackAtListen_only (s : State) : onlyChanges [.wind] s (fallbackAtListen s) :=
  only_ite (setWind_only s _) (only_refl _ s)

theorem startForecastStale_only (s : State) : onlyChanges [.forecast] s (startForecastStale s) :=
  only_ite (setForecast_only s _) (only_refl _ s)

theorem startFirstListen_only (s : State) : onlyChanges [.claim, .forecast] s (startFirstListen s) :=
  only_ite (only_trans (only_mono (setClaim_only s _) (by decide)) (only_mono (startForecastStale_only _) (by decide)))
    (only_refl _ s)

theorem startSweep_only (s : State) : onlyChanges [.peers] s (startSweep s) :=
  only_ite (only_refl _ s) (setPeers_only s _)

theorem startStandby_only (s : State) : onlyChanges [.cannon] s (startStandby s) :=
  only_ite (onCannon_only s _) (only_refl _ s)

theorem startListen_only (s : State) :
    onlyChanges [.station, .wind, .face, .dust, .line, .peers, .cannon] s (startListen s) :=
  only_trans (only_mono (onStation_only s _) (by decide))
    (only_trans (only_mono (setWind_only _ _) (by decide))
      (only_trans (only_mono (setFace_only _ _) (by decide))
        (only_trans (only_mono (onDust_only _ _) (by decide))
          (only_trans (only_mono (onLine_only _ _) (by decide))
            (only_trans (only_mono (startSweep_only _) (by decide))
              (only_mono (startStandby_only _) (by decide)))))))

/-- The parts that an entry into LISTEN with new settings can change. -/
def freshListen : List Field := [.station, .wind, .face, .look, .cannon, .dust, .peers, .line, .claim, .forecast]

theorem enterListenFresh_only (s : State) : onlyChanges freshListen s (enterListenFresh s) :=
  only_trans (only_mono (onStation_only s _) (by decide))
    (only_trans (only_mono (startListen_only _) (by decide))
      (only_trans (only_mono (formRecords_only _) (by decide))
        (only_trans (only_mono (fallbackAtListen_only _) (by decide))
          (only_mono (startFirstListen_only _) (by decide)))))

theorem endCommission_only (s : State) : onlyChanges freshListen s (endCommission s) :=
  only_ite (enterListenFresh_only s) (only_mono (onStation_only s _) (by decide))

theorem takeKeyRelease_only (s : State) : onlyChanges (.pins :: freshListen) s (takeKeyRelease s) :=
  only_ite
    (only_trans (only_mono (setPins_only s _) (by decide)) (only_mono (endCommission_only _) (by decide)))
    (only_refl _ s)

theorem takeWindowExpiry_only (s : State) : onlyChanges freshListen s (takeWindowExpiry s) :=
  only_ite (only_ite (endCommission_only s) (only_mono (onStation_only s _) (by decide))) (only_refl _ s)

theorem takeListenTimer_only (s : State) : onlyChanges (.station :: .dust :: shallow) s (takeListenTimer s) :=
  only_ite (only_ite (enterRun_only s) (only_mono (onStation_only s _) (by decide))) (only_refl _ s)

theorem clearBlocks_only (s : State) : onlyChanges (.peers :: .dust :: .wind :: deep) s (clearBlocks s) :=
  only_trans (only_mono (setQueue_only s _) (by decide))
    (only_trans (only_mono (chainEnd_only _ _) (by decide))
      (only_trans (only_mono (setClaim_only _ _) (by decide))
        (only_trans (only_mono (onLine_only _ _) (by decide))
          (only_trans (only_mono (setPeers_only _ _) (by decide))
            (only_trans (only_mono (onDust_only _ _) (by decide))
              (only_trans (only_mono (setWind_only _ _) (by decide))
                (only_mono (setFace_only _ _) (by decide))))))))

theorem enterListenAgain_only (s : State) :
    onlyChanges [.station, .wind, .face, .dust, .line, .peers, .cannon, .claim, .forecast] s (enterListenAgain s) :=
  only_trans (only_mono (startListen_only s) (by decide)) (only_mono (startFirstListen_only _) (by decide))

theorem restartCannon_only (s : State) : onlyChanges shallow s (restartCannon s) :=
  only_trans (only_mono (onCannon_only s _) (by decide)) (parkOrLock_only _)

theorem takeRestart_only (s : State) :
    onlyChanges (.station :: .peers :: .dust :: .wind :: .forecast :: deep) s (takeRestart s) :=
  only_trans (only_mono (clearBlocks_only s) (by decide))
    (only_trans (only_mono (onStation_only _ _) (by decide))
      (only_trans (only_mono (enterListenAgain_only _) (by decide)) (only_mono (restartCannon_only _) (by decide))))

/-! ### Frames of the line -/

/-- The parts that a frame handed on can change by itself: the sender's entry, and a recompute. -/
def handed : List Field := .peers :: deep

/-- The parts that a frame can change by itself: those, and the station state at a duplicate. -/
def framed : List Field := .station :: handed

theorem hearFrame_only (s : State) : onlyChanges [.line] s (hearFrame s) := only_ite (onLine_only s _) (only_refl _ s)

theorem setPeerEntries_only (s : State) (ps : List Peer) : onlyChanges [.peers] s (s.setPeerEntries ps) :=
  setPeers_only s _

theorem handFrame_only {fs : List Field} (k : FrameKind) (n : Nat) (pos : Option (Nat × Nat)) (part : Peer → Peer)
    {handOn : State → State} (s : State) (h : ∀ s, onlyChanges fs s (handOn s)) (hf : ∀ f ∈ handed, f ∈ fs) :
    onlyChanges fs s (handFrame k n pos part handOn s) := by
  have hm : ∀ gs : List Field, (∀ f ∈ gs, f ∈ handed) → ∀ f ∈ gs, f ∈ fs := fun gs hg f hm => hf f (hg f hm)
  have h1 : onlyChanges fs s ((hearFrame s).setPeerEntries
      (putPeer (part (refreshedPeer s.sec n k.member pos s.peers.entries)) s.peers.entries)) :=
    only_trans (only_mono (hearFrame_only s) (hm _ (by decide)))
      (only_mono (setPeerEntries_only _ _) (hm _ (by decide)))
  exact only_trans (only_ite (only_trans h1 (only_mono (recompute_only _) (hm _ (by decide)))) h1) (h _)

theorem takeFrame_only {fs : List Field} (k : FrameKind) (n : Nat) (payload : List Byte) {hand : State → State}
    (s : State) (h : ∀ s, onlyChanges fs s (hand s)) (hf : ∀ f ∈ framed, f ∈ fs) :
    onlyChanges fs s (takeFrame k n payload hand s) := by
  have hm : ∀ gs : List Field, (∀ f ∈ gs, f ∈ framed) → ∀ f ∈ gs, f ∈ fs := fun gs hg f hm => hf f (hg f hm)
  have h1 : onlyChanges fs s (frameEnds s) := only_mono (onLine_only s _) (hm _ (by decide))
  exact only_ite h1
    (only_ite (only_trans h1 (only_mono (takeDuplicate_only _) (hm _ (by decide)))) (only_trans h1 (h _)))

theorem clearActed_only (n : Nat) (l : Exceedance) (s : State) : onlyChanges [.peers] s (clearActed n l s) :=
  only_ite (setPeerEntries_only s _) (only_refl _ s)

theorem handStatus_only (n : Nat) (payload : List Byte) (s : State) :
    onlyChanges handed s (handStatus n payload s) := by
  unfold handStatus
  simp only
  split
  · exact handFrame_only _ _ _ _ s (fun s => only_mono (clearActed_only _ _ s) (by decide)) fun _ h => h
  · exact handFrame_only _ _ _ _ s (only_refl _) fun _ h => h

theorem handClaimKind_only (k : FrameKind) (n : Nat) (s : State) :
    onlyChanges [.peers, .line] s (handClaimKind k n s) :=
  only_trans (only_mono (hearFrame_only s) (by decide)) (only_mono (setPeerEntries_only _ _) (by decide))

theorem takeClaimPart_only (n : Nat) (part : ClaimPart) (b : Bool) (s : State) :
    onlyChanges handed s (takeClaimPart n part b s) :=
  only_ite
    (only_trans (only_mono (setPeerEntries_only s _) (by decide)) (only_mono (recompute_only _) (by decide)))
    (only_ite (only_mono (recompute_only s) (by decide)) (only_refl _ s))

theorem handClaim_only (n : Nat) (payload : List Byte) (s : State) :
    onlyChanges handed s (handClaim n payload s) := by
  unfold handClaim
  split
  · exact only_trans (only_mono (handClaimKind_only _ _ s) (by decide)) (takeClaimPart_only _ _ _ _)
  · exact handFrame_only _ _ _ _ s (only_refl _) fun _ h => h

theorem handRelease_only (n : Nat) (payload : List Byte) (s : State) :
    onlyChanges handed s (handRelease n payload s) := by
  have h1 : onlyChanges handed s (handClaimKind .release n s) :=
    only_mono (handClaimKind_only _ _ s) (by decide)
  unfold handRelease
  exact only_ite
    (only_trans h1
      (only_trans (only_mono (setPeerEntries_only _ _) (by decide)) (only_mono (recompute_only _) (by decide))))
    (only_ite (only_trans h1 (only_mono (recompute_only _) (by decide))) h1)

theorem takePlume_only (n : Nat) (m : PlumeMsg) (s : State) :
    onlyChanges (.dust :: handed) s (takePlume n m s) :=
  only_ite
    (only_trans (only_mono (setPeerEntries_only s _) (by decide))
      (only_trans (only_mono (formAnswer_only _ _ _) (by decide)) (only_mono (sendAnswer_only _ _) (by decide))))
    (only_refl _ s)

theorem takeCoverFrame_only (n : Nat) (m : CoverMsg) (s : State) : onlyChanges [.dust] s (takeCoverFrame n m s) :=
  only_ite (onDust_only s _) (only_refl _ s)

theorem handPlume_only (n : Nat) (payload : List Byte) (s : State) :
    onlyChanges (.dust :: handed) s (handPlume n payload s) :=
  handFrame_only _ _ _ _ s (takePlume_only _ _) (by decide)

theorem handCover_only (n : Nat) (payload : List Byte) (s : State) :
    onlyChanges (.dust :: handed) s (handCover n payload s) := by
  unfold handCover
  split
  · exact handFrame_only _ _ _ _ s (fun s => only_mono (takeCoverFrame_only _ _ s) (by decide)) (by decide)
  · exact handFrame_only _ _ _ _ s (only_refl _) (by decide)

theorem handWind_only (n : Nat) (payload : List Byte) (s : State) : onlyChanges handed s (handWind n payload s) :=
  handFrame_only _ _ _ _ s (only_refl _) fun _ h => h

theorem takeForecast_only (n : Nat) (m : ForecastMsg) (s : State) :
    onlyChanges [.forecast] s (takeForecast n m s) :=
  only_ite (setForecast_only s _) (only_refl _ s)

theorem handForecast_only (n : Nat) (payload : List Byte) (s : State) :
    onlyChanges (.forecast :: handed) s (handForecast n payload s) :=
  handFrame_only _ _ _ _ s (fun s => only_mono (takeForecast_only _ _ s) (by decide)) (by decide)

theorem handMachine_only (n : Nat) (payload : List Byte) (s : State) :
    onlyChanges handed s (handMachine n payload s) := by
  unfold handMachine
  simp only
  split
  · exact handFrame_only _ _ _ _ s (only_refl _) fun _ h => h
  · exact handFrame_only _ _ _ _ s (only_refl _) fun _ h => h

theorem takeDay_only (d a : Nat) (s : State) : onlyChanges [.account, .face] s (takeDay d a s) := by
  unfold takeDay
  simp only
  split
  · exact only_mono (setAccount_only s _) (by decide)
  · exact only_ite (only_mono (setAccount_only s _) (by decide)) (rollover_only _ _ s)

theorem acceptSupply_only (m : SupplyMsg) (s : State) : onlyChanges (.account :: deep) s (acceptSupply m s) :=
  only_trans (only_mono (takeDay_only _ _ s) (by decide))
    (only_trans (only_mono (setClaim_only _ _) (by decide))
      (only_trans (only_mono (gatingEffects_only _ _) (by decide))
        (only_mono (recomputeOnCapacity_only _ _) (by decide))))

theorem handSupply_only (n : Nat) (payload : List Byte) (s : State) :
    onlyChanges (.account :: handed) s (handSupply n payload s) := by
  unfold handSupply
  split
  · refine handFrame_only _ _ _ _ s (fun s => ?_) (by decide)
    exact only_ite (only_mono (acceptSupply_only _ s) (by decide)) (only_refl _ s)
  · exact handFrame_only _ _ _ _ s (only_refl _) (by decide)

theorem takeSweep_only (s : State) : onlyChanges (.peers :: deep) s (takeSweep s) := by
  have h1 : ∀ v, onlyChanges (.peers :: deep) s (s.setPeers v) := fun v => only_mono (setPeers_only s v) (by decide)
  exact only_ite (only_ite (only_trans (h1 _) (only_mono (recompute_only _) (by decide))) (h1 _)) (only_refl _ s)

/-! ### The Line Controller -/

theorem takeAccessGap_only (s : State) : onlyChanges [.line] s (takeAccessGap s) :=
  only_ite (onLine_only s _) (only_refl _ s)

theorem frameSent_only (f : TxFrame) (s : State) : onlyChanges [.claim] s (frameSent f s) := by
  unfold frameSent
  split
  · exact only_ite (setClaim_only s _) (only_refl _ s)
  · exact only_refl _ s

theorem frameLost_only (f : TxFrame) (s : State) : onlyChanges [.dust] s (frameLost f s) := by
  unfold frameLost
  split
  · exact returnAnswer_only _ s
  · exact only_refl _ s

theorem takeTransmission_only (s : State) : onlyChanges [.line, .claim] s (takeTransmission s) := by
  unfold takeTransmission
  split
  · exact only_trans (only_mono (onLine_only s _) (by decide)) (only_mono (frameSent_only _ _) (by decide))
  · exact only_refl _ s

theorem takeCollision_only (s : State) : onlyChanges [.line, .dust] s (takeCollision s) := by
  have hl : ∀ g, onlyChanges [.line, .dust] s (s.onLine g) := fun g => only_mono (onLine_only s g) (by decide)
  unfold takeCollision
  split
  · exact only_ite (hl _) (only_ite (only_trans (hl _) (only_mono (frameLost_only _ _) (by decide))) (hl _))
  · exact only_refl _ s

theorem takeBackoff_only (s : State) : onlyChanges [.line] s (takeBackoff s) :=
  only_ite (onLine_only s _) (only_refl _ s)

theorem takeStatusPeriod_only (s : State) : onlyChanges [.line] s (takeStatusPeriod s) :=
  only_ite (only_ite (only_trans (onLine_only s _) (offerStatus_only _)) (onLine_only s _)) (only_refl _ s)

theorem takeStatusDueMark_only (s : State) : onlyChanges [.line] s (takeStatusDueMark s) :=
  only_ite (only_ite (only_trans (onLine_only s _) (offerStatus_only _)) (onLine_only s _)) (only_refl _ s)

theorem takeIsolation_only (s : State) : onlyChanges [.line] s (takeIsolation s) :=
  only_ite (onLine_only s _) (only_refl _ s)

/-! ### The panel -/

theorem onPanel_only (s : State) (g : Panel → Panel) : onlyChanges [.panel] s (s.onPanel g) := setPanel_only s _

theorem takeCommand_only {fs : List Field} (code : Nat) {work : State → State × PanelAnswer} (s : State)
    (h : ∀ s, onlyChanges fs s (work s).1) : onlyChanges (.panel :: fs) s (takeCommand code work s) := by
  have hp : ∀ (s : State) g, onlyChanges (.panel :: fs) s (s.onPanel g) := fun s g =>
    only_mono (onPanel_only s g) fun f hf => List.mem_cons.2 (.inl (List.mem_singleton.1 hf))
  unfold takeCommand
  simp only
  split
  · exact only_ite (hp s _) (only_trans (hp s _) (hp _ _))
  · exact only_trans (hp s _) (only_trans (only_mono (h _) fun f hf => List.mem_cons_of_mem _ hf) (hp _ _))

theorem configureWith_only (block : List Byte) (s : State) :
    onlyChanges [.store, .station] s (configureWith block s).1 := by
  unfold configureWith
  split
  · exact only_refl _ s
  split
  · exact only_refl _ s
  split
  · exact only_refl _ s
  · exact only_trans (only_mono (setStore_only s _) (by decide)) (only_mono (onStation_only _ _) (by decide))

theorem endHolds_only (s : State) : onlyChanges shallow s (endHolds s) := by
  have h1 : ∀ v, onlyChanges shallow s (s.setQueue v) := fun v => only_mono (setQueue_only s v) (by decide)
  exact only_ite (only_trans (h1 _) (trySelection_only _)) (h1 _)

theorem leaveFault_only (s : State) : onlyChanges shallow s (leaveFault s) :=
  only_trans (only_mono (onCannon_only s _) (by decide)) (parkOrLock_only _)

theorem clearFaultWith_only (s : State) : onlyChanges shallow s (clearFaultWith s).1 := by
  unfold clearFaultWith
  split
  · exact only_trans (endHolds_only s) (leaveFault_only _)
  · exact endHolds_only s

theorem restartWith_only (s : State) :
    onlyChanges (.station :: .peers :: .dust :: .wind :: .forecast :: deep) s (restartWith s).1 := by
  unfold restartWith
  split
  · exact takeRestart_only s
  · exact only_refl _ s

theorem testSprayWith_only (face volume : Nat) (s : State) : onlyChanges deep s (testSprayWith face volume s).1 := by
  unfold testSprayWith
  split
  · exact offerDemand_only _ s
  · exact only_refl _ s

theorem takeAnswerSent_only (s : State) : onlyChanges [.panel] s (takeAnswerSent s) := by
  unfold takeAnswerSent
  split
  · exact onPanel_only s _
  · exact onPanel_only s _
  · exact only_refl _ s

/-! ### Every effect -/

/-- The parts that the effect of an ordinary command can change. -/
theorem effectOf_only {c : Instr} (hc : Instr.ordinary c) (s : State) : onlyChanges (touched c) s (effectOf c s) := by
  cases c with
  | powerOn straps key => exact absurd rfl (hc straps key)
  | anemometerSample speed bearing => exact takeSample_only _ _ s
  | minuteClose => exact takeMinuteClose_only s
  | evaluation => exact takeEvaluation_only s
  | rainPulse => exact takeRainPulse_only s
  | flowPulse => exact takeFlowPulse_only s
  | encoderReport bearing => exact takeEncoderReport_only _ s
  | dustReading value => exact takeDustReading_only _ s
  | readingWatchExpiry => exact takeReadingWatch_only s
  | pressureReading pressure => exact takePressure_only _ s
  | firstStage => exact takeFirstStage_only s
  | secondStage => exact takeSecondStage_only s
  | commissioningKeyRelease => exact takeKeyRelease_only s
  | commissioningWindowExpiry => exact takeWindowExpiry_only s
  | listenTimerExpiry => exact takeListenTimer_only s
  | statusFrame n payload =>
    exact takeFrame_only (fs := framed) _ _ _ s (fun s => only_mono (handStatus_only _ _ s) (by decide)) (by decide)
  | claimFrame n payload =>
    exact takeFrame_only (fs := framed) _ _ _ s (fun s => only_mono (handClaim_only _ _ s) (by decide)) (by decide)
  | releaseFrame n payload =>
    exact takeFrame_only (fs := framed) _ _ _ s (fun s => only_mono (handRelease_only _ _ s) (by decide)) (by decide)
  | plumeFrame n payload =>
    exact takeFrame_only (fs := .dust :: framed) _ _ _ s (fun s => only_mono (handPlume_only _ _ s) (by decide)) (by decide)
  | coverFrame n payload =>
    exact takeFrame_only (fs := .dust :: framed) _ _ _ s (fun s => only_mono (handCover_only _ _ s) (by decide)) (by decide)
  | windFrame n payload =>
    exact takeFrame_only (fs := framed) _ _ _ s (fun s => only_mono (handWind_only _ _ s) (by decide)) (by decide)
  | forecastFrame n payload =>
    exact takeFrame_only (fs := .forecast :: framed) _ _ _ s (fun s => only_mono (handForecast_only _ _ s) (by decide)) (by decide)
  | supplyFrame n payload =>
    exact takeFrame_only (fs := .account :: framed) _ _ _ s (fun s => only_mono (handSupply_only _ _ s) (by decide)) (by decide)
  | machineFrame n payload =>
    exact takeFrame_only (fs := framed) _ _ _ s (fun s => only_mono (handMachine_only _ _ s) (by decide)) (by decide)
  | duplicate =>
    exact only_trans (only_mono (onLine_only s _) (by decide)) (only_mono (takeDuplicate_only _) (by decide))
  | frameBroken => exact onLine_only s _
  | accessGap => exact takeAccessGap_only s
  | collision => exact takeCollision_only s
  | backoffExpiry => exact takeBackoff_only s
  | transmissionCompletes => exact takeTransmission_only s
  | read selector part first last => exact takeCommand_only (fs := []) _ s fun s => only_refl _ s
  | configure block => exact takeCommand_only _ s (configureWith_only block)
  | lock code level => exact takeCommand_only _ s fun s => only_mono (applyLock_only code level s) (by decide)
  | unlock code => exact takeCommand_only _ s fun s => only_mono (applyUnlock_only code s) (by decide)
  | ackAlarms => exact takeCommand_only _ s fun s => setAlarms_only s _
  | clearFault => exact takeCommand_only _ s clearFaultWith_only
  | restart => exact takeCommand_only _ s restartWith_only
  | testSpray face volume => exact takeCommand_only _ s (testSprayWith_only face volume)
  | panelUnknownCommand code => exact takeCommand_only (fs := []) _ s fun s => only_refl _ s
  | panelBadCheck => exact onPanel_only s _
  | panelMessageBroken => exact onPanel_only s _
  | answerSent => exact takeAnswerSent_only s
  | settleExpiry => exact takeSettle_only s
  | claimRefresh => exact takeClaimRefresh_only s
  | onTimerExpiry => exact takeOnTimer_only s
  | periodTimerExpiry => exact takePeriodTimer_only s
  | noFlowExpiry => exact takeNoFlow_only s
  | slewTimeout => exact takeSlewTimeout_only s
  | primingExpiry => exact takePriming_only s
  | drainExpiry => exact takeDrain_only s
  | standbyExpiry => exact takeStandby_only s
  | faultHoldExpiry face => exact takeFaultHold_only _ s
  | deadline => exact passDeadlines_only s
  | supplyStaleExpiry => exact takeSupplyStale_only s
  | staleRollover => exact rollStale_only s
  | slotEnd => exact takeSlotEnd_only s
  | forecastStaleExpiry => exact takeForecastStale_only s
  | plumeRefresh => exact takePlumeRefresh_only s
  | recoveryExpiry => exact takeRecovery_only s
  | responseWindowExpiry => exact takeResponseWindow_only s
  | pendingAnswerExpiry target => exact takePendingAnswer_only _ s
  | sweep => exact takeSweep_only s
  | isolationExpiry => exact takeIsolation_only s
  | statusPeriod => exact takeStatusPeriod_only s
  | statusDueMark => exact takeStatusDueMark_only s
  | frameDiscarded => exact onLine_only s _

/-! ### What a step keeps -/

/-- A property of the state that the listed parts settle. -/
def readsOnly (fs : List Field) (P : State → Prop) : Prop := ∀ s t, (∀ f ∈ fs, f.agrees s t) → P s → P t

theorem keeps_of_only {fs gs : List Field} {P : State → Prop} {s t : State} (hP : readsOnly fs P)
    (h : onlyChanges gs s t) (hd : ∀ f ∈ fs, f ∉ gs) (hs : P s) : P t :=
  hP s t (fun f hf => h f (hd f hf)) hs

theorem idle_only (s : State) : onlyChanges [.now, .pending, .free] s (idle s) := by
  unfold idle
  split
  · exact only_mono (setNow_only s _) (by decide)
  · exact only_mono (setPending_only s _) (by decide)
  · exact only_trans (only_mono (setPending_only s _) (by decide)) (only_mono (setFree_only _ _) (by decide))

/-- The induction of every invariant: what holds after the idle step, after POWER_ON and after the effect of every other
command, and what the end of an arrival keeps, every step keeps. -/
theorem step_keeps {P : State → Prop} (hidle : ∀ s, P s → P (idle s)) (hpend : ∀ s l, P s → P (s.setPending l))
    (hclose : ∀ s0 s, P s → P (closeArrival s0 s))
    (hpower : ∀ (straps : Fin 64) key s, P s → P (takePowerOn straps.val key s))
    (heff : ∀ c s, Instr.ordinary c → s.station.mode ≠ .start → P s → P (effectOf c s))
    {s t : State} (hs : P s) (h : step s = .next t) : P t := by
  unfold step at h
  split at h
  case h_2 =>
    cases h
    exact hidle s hs
  case h_1 c rest _ =>
    have h1 := hpend s rest hs
    by_cases hc : Instr.ordinary c
    · by_cases hm : (s.setPending rest).station.mode = .start
      · rw [exec_start hc hm] at h
        cases h
        exact h1
      · rw [exec_started hc hm] at h
        cases h
        exact hclose _ _ (heff c _ hc hm h1)
    · simp only [Instr.ordinary, Classical.not_forall, Classical.not_not] at hc
      obtain ⟨straps, key, rfl⟩ := hc
      cases h
      exact hclose _ _ (hpower straps key _ h1)

/-- `step_keeps` for what depends on no part that the idle step or the end of an arrival changes: the effects that touch
the parts it depends on are left to show. -/
theorem step_keeps_of_reads {fs : List Field} {P : State → Prop} (hP : readsOnly fs P)
    (hd : ∀ f ∈ fs, f ∉ [Field.now, .pending, .free, .alarms, .line])
    (hpower : ∀ (straps : Fin 64) key s, P s → P (takePowerOn straps.val key s))
    (heff : ∀ c s, Instr.ordinary c → s.station.mode ≠ .start → (∃ f ∈ fs, f ∈ touched c) → P s → P (effectOf c s))
    {s t : State} (hs : P s) (h : step s = .next t) : P t := by
  refine step_keeps (fun s => ?idle) (fun s l => ?pend) (fun s0 s => ?close) hpower (fun c s hc hm hs => ?eff) hs h
  case idle => exact keeps_of_only hP (only_mono (idle_only s) (by decide)) hd
  case pend => exact keeps_of_only hP (only_mono (setPending_only s l) (by decide)) hd
  case close => exact keeps_of_only hP (only_mono (closeArrival_only s0 s) (by decide)) hd
  case eff =>
    by_cases ht : ∃ f ∈ fs, f ∈ touched c
    · exact heff c s hc hm ht hs
    · exact keeps_of_only hP (effectOf_only hc s) (fun f hf hm => ht ⟨f, hf, hm⟩) hs

end Sys2Proof.Machine
end

section
/-! PROOFS. What a command does to Station Control, said once; and the Peer Map, the lock list, the records and the face
records, which every step keeps. -/

namespace Sys2Proof.Machine

/-! ### Station Control -/

/-- What the effect of an ordinary command can make of Station Control. -/
inductive StationMove : Instr → Station → Station → Prop
  | stays (c : Instr) (a : Station) : StationMove c a a
  | mutes (c : Instr) (a : Station) (h : a.mode = .listen ∨ a.mode = .run) :
    StationMove c a { a with mode := .mute, listen := .stopped }
  | runs (c : Instr) (a : Station) (h : a.mode = .listen) :
    StationMove c a { a with mode := .run, listen := .stopped }
  | listenStops (c : Instr) (a : Station) : StationMove c a { a with listen := .stopped }
  | windowStops (c : Instr) (a : Station) : StationMove c a { a with window := .stopped }
  | listens (c : Instr) (a : Station) (due : Nat) (h : a.mode = .commission) :
    StationMove c a { a with config := a.stored, mode := .listen, listen := .running due, window := .stopped }
  | closes (c : Instr) (a : Station) (h : a.mode = .commission) :
    StationMove c a { a with mode := .unconfigured, window := .stopped }
  | restarts (c : Instr) (a : Station) (sec due : Nat) (h : a.mode.operational = true) :
    StationMove c a
      { a with mode := .listen, listen := .running due, window := .stopped, cause := .restart, lastReset := sec }
  | configured (block : List Byte) (a : Station) (cfg : Configuration) (h : a.mode = .commission) :
    StationMove (.configure block) a { a with stored := some cfg }

theorem StationMove.node {c : Instr} {a b : Station} (h : StationMove c a b) : b.node = a.node := by
  cases h <;> rfl

theorem StationMove.stored {c : Instr} {a b : Station} (h : StationMove c a b) (hc : ∀ block, c ≠ .configure block) :
    b.stored = a.stored := by
  cases h with
  | configured block => exact absurd rfl (hc block)
  | _ => rfl

theorem StationMove.config {c : Instr} {a b : Station} (h : StationMove c a b) :
    b.config = a.config ∨ (a.mode = .commission ∧ b.mode = .listen ∧ b.config = a.stored) := by
  cases h with
  | listens c a due h => exact .inr ⟨h, rfl, rfl⟩
  | _ => exact .inl rfl

theorem enterMute_station (s : State) :
    (enterMute s).station = { s.station with mode := .mute, listen := .stopped } :=
  chainEnd_only .duplicate (s.onStation fun t => { t with mode := .mute, listen := .stopped }) .station (by decide)

/-- All that a duplicate can do: nothing, the flag, or the entry into MUTE. -/
theorem takeDuplicate_cases (s : State) :
    takeDuplicate s = s ∨ takeDuplicate s = s.onLine (fun l => { l with duplicate := true })
      ∨ ((s.station.mode = .listen ∨ s.station.mode = .run)
          ∧ takeDuplicate s = enterMute (s.onLine fun l => { l with duplicate := true })) := by
  unfold takeDuplicate
  split
  · exact .inl rfl
  split
  case h_1 h => exact .inr (.inr ⟨.inl h, rfl⟩)
  case h_2 h => exact .inr (.inr ⟨.inr h, rfl⟩)
  case h_3 => exact .inl rfl
  case h_4 => exact .inr (.inl rfl)

theorem takeDuplicate_station (c : Instr) (s : State) : StationMove c s.station (takeDuplicate s).station := by
  rcases takeDuplicate_cases s with h | h | ⟨hm, h⟩ <;> rw [h]
  · exact .stays c _
  · exact .stays c _
  · rw [enterMute_station]
    exact .mutes c _ hm

/-- All that a complete frame can do: it is discarded, it is a duplicate, or it is handed on. -/
theorem takeFrame_cases (k : FrameKind) (n : Nat) (payload : List Byte) (hand : State → State) (s : State) :
    takeFrame k n payload hand s = frameEnds s ∨ takeFrame k n payload hand s = takeDuplicate (frameEnds s)
      ∨ (1 ≤ n ∧ n ≤ 63 ∧ n ≠ s.station.node ∧ takeFrame k n payload hand s = hand (frameEnds s)) := by
  unfold takeFrame
  simp only
  split
  · exact .inl rfl
  split
  · exact .inr (.inl rfl)
  · rename_i hw hn
    simp only [frameWellFormed, within, Bool.not_eq_true, Bool.not_eq_false', Bool.and_eq_true,
      decide_eq_true_eq] at hw
    exact .inr (.inr ⟨hw.1.1, hw.1.2, hn, rfl⟩)

theorem takeFrame_station (c : Instr) {fs : List Field} (k : FrameKind) (n : Nat) (payload : List Byte)
    {hand : State → State} (s : State) (h : ∀ s, onlyChanges fs s (hand s)) (hf : Field.station ∉ fs) :
    StationMove c s.station (takeFrame k n payload hand s).station := by
  rcases takeFrame_cases k n payload hand s with he | he | ⟨_, _, _, he⟩ <;> rw [he]
  · exact .stays c _
  · exact takeDuplicate_station c (frameEnds s)
  · rw [h (frameEnds s) .station hf]
    exact .stays c _

theorem startListen_station (s : State) :
    (startListen s).station =
      { s.station with mode := .listen, listen := .running (s.now + 60000), window := .stopped } :=
  (startStandby_only _ .station (by decide)).trans (startSweep_only _ .station (by decide))

theorem enterListenFresh_station (s : State) :
    (enterListenFresh s).station =
      { s.station with
        config := s.station.stored, mode := .listen, listen := .running (s.now + 60000), window := .stopped } :=
  (startFirstListen_only _ .station (by decide)).trans
    ((fallbackAtListen_only _ .station (by decide)).trans
      ((formRecords_only _ .station (by decide)).trans (startListen_station (takeSettings s))))

theorem endCommission_station (c : Instr) {s : State} (h : s.station.mode = .commission) :
    StationMove c s.station (endCommission s).station := by
  unfold endCommission
  split
  · rw [enterListenFresh_station]
    exact .listens c _ _ h
  · exact .closes c _ h

theorem enterRun_station (s : State) :
    (enterRun s).station = { s.station with mode := .run, listen := .stopped } :=
  (trySelection_only _ .station (by decide)).trans
    ((retryDust_only _ .station (by decide)).trans (offerStatus_only _ .station (by decide)))

theorem takeRestart_station (s : State) :
    (takeRestart s).station =
      { s.station with
        mode := .listen, listen := .running (s.now + 60000), window := .stopped, cause := .restart
        lastReset := s.sec } := by
  have hb : (clearBlocks s).station = s.station := clearBlocks_only s .station (by decide)
  have hn : (clearBlocks s).now = s.now := clearBlocks_only s .now (by decide)
  refine (restartCannon_only _ .station (by decide)).trans
    ((startFirstListen_only _ .station (by decide)).trans ((startListen_station _).trans ?_))
  simp [State.onStation, hb, hn]

theorem takeCommand_station {code : Nat} {work : State → State × PanelAnswer} {c : Instr} (s : State)
    (h : StationMove c s.station (work (dropMessage s)).1.station) :
    StationMove c s.station (takeCommand code work s).station := by
  unfold takeCommand
  simp only
  split
  · split <;> exact .stays c _
  · exact h

theorem configureWith_station (block : List Byte) (s : State) :
    StationMove (.configure block) s.station (configureWith block s).1.station := by
  unfold configureWith
  split
  · exact .stays _ _
  split
  · exact .stays _ _
  split
  · exact .stays _ _
  · rename_i hm _ _
    exact .configured block _ _ (Classical.not_not.1 hm)

theorem restartWith_station (c : Instr) (s : State) : StationMove c s.station (restartWith s).1.station := by
  unfold restartWith
  split
  · rename_i h
    simp only [takeRestart_station]
    exact .restarts c _ _ _ h
  · exact .stays c _

theorem effectOf_station {c : Instr} (hc : Instr.ordinary c) (s : State) :
    StationMove c s.station (effectOf c s).station := by
  by_cases ht : Field.station ∈ touched c
  case neg =>
    rw [effectOf_only hc s .station ht]
    exact .stays c _
  cases c
  case commissioningKeyRelease =>
    show StationMove _ s.station (takeKeyRelease s).station
    unfold takeKeyRelease
    split
    · rename_i h
      exact endCommission_station _ (s := s.setPins { s.pins with key := false }) h
    · exact .stays _ _
  case commissioningWindowExpiry =>
    show StationMove _ s.station (takeWindowExpiry s).station
    unfold takeWindowExpiry
    split
    · split
      · exact endCommission_station _ ‹_›
      · exact .windowStops _ _
    · exact .stays _ _
  case listenTimerExpiry =>
    show StationMove _ s.station (takeListenTimer s).station
    unfold takeListenTimer
    split
    · split
      · rw [enterRun_station]
        exact .runs _ _ ‹_›
      · exact .listenStops _ _
    · exact .stays _ _
  case statusFrame => exact takeFrame_station _ _ _ _ s (handStatus_only _ _) (by decide)
  case claimFrame => exact takeFrame_station _ _ _ _ s (handClaim_only _ _) (by decide)
  case releaseFrame => exact takeFrame_station _ _ _ _ s (handRelease_only _ _) (by decide)
  case plumeFrame => exact takeFrame_station _ _ _ _ s (handPlume_only _ _) (by decide)
  case coverFrame => exact takeFrame_station _ _ _ _ s (handCover_only _ _) (by decide)
  case windFrame => exact takeFrame_station _ _ _ _ s (handWind_only _ _) (by decide)
  case forecastFrame => exact takeFrame_station _ _ _ _ s (handForecast_only _ _) (by decide)
  case supplyFrame => exact takeFrame_station _ _ _ _ s (handSupply_only _ _) (by decide)
  case machineFrame => exact takeFrame_station _ _ _ _ s (handMachine_only _ _) (by decide)
  case duplicate => exact takeDuplicate_station _ (frameEnds s)
  case configure block => exact takeCommand_station s (configureWith_station block (dropMessage s))
  case restart => exact takeCommand_station s (restartWith_station _ (dropMessage s))
  all_goals exact absurd ht (by simp [touched, deep, shallow])

theorem effectOf_node {c : Instr} (hc : Instr.ordinary c) (s : State) :
    (effectOf c s).station.node = s.station.node := (effectOf_station hc s).node

/-! ### POWER_ON -/

theorem leaveStart_only (m : Mode) (s : State) : onlyChanges freshListen s (leaveStart m s) := by
  unfold leaveStart
  split
  · exact enterListenFresh_only s
  · exact only_mono (onStation_only s _) (by decide)
  · exact only_mono (onStation_only s _) (by decide)

/-- What POWER_ON changes after `powerUp`. -/
theorem takePowerOn_only (straps : Nat) (key : Bool) (s : State) :
    onlyChanges freshListen (powerUp straps key s) (takePowerOn straps key s) := leaveStart_only _ _

theorem powerUp_eq (straps : Nat) (key : Bool) (s : State) :
    powerUp straps key s =
      { State.reset with
        store := s.store, pending := s.pending, free := s.free
        pins := { s.pins with straps := straps, key := key }
        station :=
          { State.reset.station with
            node := straps, stored := loadBlock straps s.store.block, config := loadBlock straps s.store.block }
        lockout := { State.reset.lockout with locks := s.store.loadLocks }
        wind := Wind.powerOn (match loadBlock straps s.store.block with
          | some c => c.fallbackWind
          | none => 0)
        peers := { State.reset.peers with sweep := .startAt 0 10000 }
        queue := { SprayQueue.powerOn with request := s.store.loadLocks.isEmpty }
        cannon :=
          if s.store.loadLocks.isEmpty then Cannon.powerOn
          else { Cannon.powerOn with state := .locked, branchOpen := false } } := by
  unfold powerUp
  simp only
  split
  · rename_i h
    simp only [h]
    rfl
  · rename_i h
    simp only [h]
    rfl

end Sys2Proof.Machine
end

section
/-! PROOFS. What every step keeps: the Peer Map (R136), the lock list with its store (R164) and the face records (R37). -/

namespace Sys2Proof.Machine

/-! ### The entries of the Peer Map (R136) -/

theorem mem_putPeer {p q : Peer} {ps : List Peer} (h : q ∈ putPeer p ps) : q = p ∨ q ∈ ps := by
  induction ps with
  | nil => exact .inl (List.mem_singleton.1 h)
  | cons r rest ih =>
    unfold putPeer at h
    split at h
    · exact List.mem_cons.1 h
    split at h
    · rcases List.mem_cons.1 h with h | h
      · exact .inl h
      · exact .inr (List.mem_cons_of_mem _ h)
    · rcases List.mem_cons.1 h with h | h
      · exact .inr (h ▸ List.mem_cons_self)
      · exact (ih h).imp_right (List.mem_cons_of_mem _)

theorem putPeer_pairwise {p : Peer} {ps : List Peer} (h : (ps.map Peer.node).Pairwise (· < ·)) :
    ((putPeer p ps).map Peer.node).Pairwise (· < ·) := by
  rw [List.pairwise_map] at h ⊢
  induction ps with
  | nil => exact List.pairwise_singleton _ _
  | cons r rest ih =>
    obtain ⟨hr, hrest⟩ := List.pairwise_cons.1 h
    unfold putPeer
    split
    · rename_i hlt
      refine List.pairwise_cons.2 ⟨fun q hq => ?_, h⟩
      rcases List.mem_cons.1 hq with rfl | hq
      · exact hlt
      · exact Nat.lt_trans hlt (hr q hq)
    split
    · rename_i heq
      exact List.pairwise_cons.2 ⟨fun q hq => heq ▸ hr q hq, hrest⟩
    · rename_i hlt hne
      refine List.pairwise_cons.2 ⟨fun q hq => ?_, ih hrest⟩
      rcases mem_putPeer hq with rfl | hq
      · omega
      · exact hr q hq

theorem findPeer_node {n : Nat} {ps : List Peer} {p : Peer} (h : findPeer n ps = some p) : p.node = n := by
  have := List.find?_some h
  simpa using this

@[simp] theorem Peer.stripped_node (p : Peer) : p.stripped.node = p.node := rfl

theorem Peer.refresh_node (sec : Nat) (k : MemberKind) (p : Peer) : (p.refresh sec k).node = p.node := by
  unfold Peer.refresh
  simp only
  split <;> split <;> rfl

theorem Peer.swept_node (sec : Nat) (p : Peer) : (p.swept sec).node = p.node := by
  unfold Peer.swept
  split
  · rfl
  split
  · split <;> rfl
  · rfl

theorem Peer.takeWind_node (sec speed bearing : Nat) (p : Peer) : (p.takeWind sec speed bearing).node = p.node := by
  unfold Peer.takeWind
  split <;> rfl

theorem refreshedPeer_node (sec n : Nat) (k : MemberKind) (pos : Option (Nat × Nat)) (ps : List Peer) :
    (refreshedPeer sec n k pos ps).node = n := by
  unfold refreshedPeer
  cases hf : findPeer n ps with
  | none => cases pos <;> rfl
  | some p =>
    have hp : (p.refresh sec k).node = n := (Peer.refresh_node sec k p).trans (findPeer_node hf)
    cases pos <;> exact hp

theorem peersInv_reads : readsOnly [.peers, .station] peersInv := by
  intro s t h hs
  have hp : t.peers = s.peers := h .peers (by decide)
  have hn : t.station = s.station := h .station (by decide)
  unfold peersInv at *
  rw [hp, hn]
  exact hs

/-- Entries of the same node numbers, in a station of the same node number. -/
theorem peersInv_of_nodes {s t : State} (hn : t.station.node = s.station.node)
    (hp : t.peers.entries.map Peer.node = s.peers.entries.map Peer.node) (h : peersInv s) : peersInv t := by
  refine ⟨hp ▸ h.1, fun p hm => ?_⟩
  have : p.node ∈ s.peers.entries.map Peer.node := hp ▸ List.mem_map_of_mem hm
  obtain ⟨q, hq, he⟩ := List.mem_map.1 this
  rw [← he, hn]
  exact h.2 q hq

theorem peersInv_map {s : State} {g : Peer → Peer} (hg : ∀ p, (g p).node = p.node) (h : peersInv s) :
    peersInv (s.setPeerEntries (s.peers.entries.map g)) :=
  peersInv_of_nodes (s := s) rfl (by simp [State.setPeerEntries, hg]) h

theorem peersInv_change {s : State} (n : Nat) {g : Peer → Peer} (hg : ∀ p, (g p).node = p.node) (h : peersInv s) :
    peersInv (s.setPeerEntries (changePeer n g s.peers.entries)) :=
  peersInv_map (g := fun p => if p.node = n then g p else p) (fun p => by split <;> simp [hg]) h

theorem peersInv_put {s : State} {p : Peer} (h1 : 1 ≤ p.node) (h63 : p.node ≤ 63) (hn : p.node ≠ s.station.node)
    (h : peersInv s) : peersInv (s.setPeerEntries (putPeer p s.peers.entries)) := by
  refine ⟨putPeer_pairwise h.1, fun q hq => ?_⟩
  rcases mem_putPeer hq with rfl | hq
  · exact ⟨h1, h63, hn⟩
  · exact h.2 q hq

theorem recompute_peersInv {s : State} (h : peersInv s) : peersInv (recompute s) :=
  keeps_of_only peersInv_reads (recompute_only s) (by decide) h

theorem hearFrame_peersInv {s : State} (h : peersInv s) : peersInv (hearFrame s) :=
  keeps_of_only peersInv_reads (hearFrame_only s) (by decide) h

/-! ### A frame's sender (R138) -/

section Sender

variable {n : Nat} {s : State} (h1 : 1 ≤ n) (h63 : n ≤ 63) (hn : n ≠ s.station.node) (h : peersInv s)

include h1 h63 hn h

/-- The entry of a frame's sender written, in the state that the Line Controller leaves. -/
theorem peersInv_sender {p : Peer} (hp : p.node = n) :
    peersInv ((hearFrame s).setPeerEntries (putPeer p s.peers.entries)) := by
  have hs : (hearFrame s).station = s.station := hearFrame_only s .station (by decide)
  have he : (hearFrame s).peers = s.peers := hearFrame_only s .peers (by decide)
  rw [← he]
  exact peersInv_put (hp ▸ h1) (hp ▸ h63) (by rw [hp, hs]; exact hn) (hearFrame_peersInv h)

theorem handFrame_peersInv {k : FrameKind} {pos : Option (Nat × Nat)} {part : Peer → Peer} {handOn : State → State}
    (hpart : ∀ p, (part p).node = p.node) (hand : ∀ s, peersInv s → peersInv (handOn s)) :
    peersInv (handFrame k n pos part handOn s) := by
  have hput := peersInv_sender h1 h63 hn h ((hpart _).trans (refreshedPeer_node s.sec n k.member pos s.peers.entries))
  refine hand _ ?_
  split
  · exact recompute_peersInv hput
  · exact hput

theorem handClaimKind_peersInv (k : FrameKind) : peersInv (handClaimKind k n s) :=
  peersInv_sender h1 h63 hn h (refreshedPeer_node _ _ _ _ _)

theorem handStatus_peersInv (payload : List Byte) : peersInv (handStatus n payload s) := by
  unfold handStatus
  simp only
  split
  · refine handFrame_peersInv h1 h63 hn h (fun _ => rfl) fun s hs => ?_
    unfold clearActed
    split
    · exact peersInv_change n (fun _ => rfl) hs
    · exact hs
  · exact handFrame_peersInv h1 h63 hn h (fun _ => rfl) fun _ h => h

theorem handClaim_peersInv (payload : List Byte) : peersInv (handClaim n payload s) := by
  unfold handClaim
  split
  · have hk := handClaimKind_peersInv h1 h63 hn h .claim
    unfold takeClaimPart
    split
    · exact recompute_peersInv (peersInv_change n (fun _ => rfl) hk)
    split
    · exact recompute_peersInv hk
    · exact hk
  · exact handFrame_peersInv h1 h63 hn h (fun _ => rfl) fun _ h => h

theorem handRelease_peersInv (payload : List Byte) : peersInv (handRelease n payload s) := by
  have hk := handClaimKind_peersInv h1 h63 hn h .release
  unfold handRelease
  simp only
  split
  · exact recompute_peersInv (peersInv_change n (fun _ => rfl) hk)
  split
  · exact recompute_peersInv hk
  · exact hk

theorem handPlume_peersInv (payload : List Byte) : peersInv (handPlume n payload s) := by
  refine handFrame_peersInv h1 h63 hn h (fun _ => rfl) fun s hs => ?_
  unfold takePlume
  split
  · have hc := peersInv_change n (g := fun p => { p with acted := some (decodePlume payload).serial }) (fun _ => rfl) hs
    exact keeps_of_only peersInv_reads (sendAnswer_only _ _) (by decide)
      (keeps_of_only peersInv_reads (formAnswer_only _ _ _) (by decide) hc)
  · exact hs

theorem handCover_peersInv (payload : List Byte) : peersInv (handCover n payload s) := by
  unfold handCover
  split
  · exact handFrame_peersInv h1 h63 hn h (fun _ => rfl) fun s =>
      keeps_of_only peersInv_reads (takeCoverFrame_only _ _ s) (by decide)
  · exact handFrame_peersInv h1 h63 hn h (fun _ => rfl) fun _ h => h

theorem handWind_peersInv (payload : List Byte) : peersInv (handWind n payload s) :=
  handFrame_peersInv h1 h63 hn h (fun p => Peer.takeWind_node _ _ _ p) fun _ h => h

theorem handForecast_peersInv (payload : List Byte) : peersInv (handForecast n payload s) :=
  handFrame_peersInv h1 h63 hn h (fun _ => rfl) fun s =>
    keeps_of_only peersInv_reads (takeForecast_only _ _ s) (by decide)

theorem handSupply_peersInv (payload : List Byte) : peersInv (handSupply n payload s) := by
  unfold handSupply
  split
  · refine handFrame_peersInv h1 h63 hn h (fun _ => rfl) fun s hs => ?_
    unfold takeSupply
    split
    · exact keeps_of_only peersInv_reads (acceptSupply_only _ s) (by decide) hs
    · exact hs
  · exact handFrame_peersInv h1 h63 hn h (fun _ => rfl) fun _ h => h

theorem handMachine_peersInv (payload : List Byte) : peersInv (handMachine n payload s) := by
  unfold handMachine
  simp only
  split
  · exact handFrame_peersInv h1 h63 hn h (fun _ => rfl) fun _ h => h
  · exact handFrame_peersInv h1 h63 hn h (fun _ => rfl) fun _ h => h

end Sender

theorem takeFrame_peersInv {k : FrameKind} {n : Nat} {payload : List Byte} {hand : State → State} {s : State}
    (h : peersInv s)
    (hhand : ∀ s, 1 ≤ n → n ≤ 63 → n ≠ s.station.node → peersInv s → peersInv (hand s)) :
    peersInv (takeFrame k n payload hand s) := by
  have he : peersInv (frameEnds s) := h
  rcases takeFrame_cases k n payload hand s with hc | hc | ⟨h1, h63, hn, hc⟩ <;> rw [hc]
  · exact he
  · exact peersInv_of_nodes (takeDuplicate_station .duplicate (frameEnds s)).node
      (by rw [takeDuplicate_only (frameEnds s) .peers (by decide)]) he
  · exact hhand _ h1 h63 hn he

/-! ### The map as it starts and is swept (R145, R148) -/

theorem startSweep_entries (s : State) : (startSweep s).peers.entries = s.peers.entries := by
  unfold startSweep
  split <;> rfl

theorem startListen_entries (s : State) : (startListen s).peers.entries = s.peers.entries :=
  (congrArg PeerMap.entries (startStandby_only _ .peers (by decide))).trans (startSweep_entries _)

theorem enterListenFresh_entries (s : State) : (enterListenFresh s).peers.entries = s.peers.entries := by
  have h1 := startFirstListen_only (fallbackAtListen (formRecords (startListen (takeSettings s)))) .peers (by decide)
  have h2 := fallbackAtListen_only (formRecords (startListen (takeSettings s))) .peers (by decide)
  have h3 := formRecords_only (startListen (takeSettings s)) .peers (by decide)
  exact (congrArg PeerMap.entries (h1.trans (h2.trans h3))).trans (startListen_entries (takeSettings s))

theorem endCommission_entries (s : State) : (endCommission s).peers.entries = s.peers.entries := by
  unfold endCommission
  split
  · exact enterListenFresh_entries s
  · rfl

theorem takeRestart_entries (s : State) : (takeRestart s).peers.entries = [] := by
  have h1 := restartCannon_only
    (enterListenAgain ((clearBlocks s).onStation fun t => { t with cause := .restart, lastReset := s.sec }))
    .peers (by decide)
  have h2 := startFirstListen_only
    (startListen ((clearBlocks s).onStation fun t => { t with cause := .restart, lastReset := s.sec }))
    .peers (by decide)
  exact (congrArg PeerMap.entries (h1.trans h2)).trans (startListen_entries _)

theorem peersInv_empty {s : State} (h : s.peers.entries = []) : peersInv s := by
  simp [peersInv, h]

theorem restartWith_peersInv {s : State} (h : peersInv s) : peersInv (restartWith s).1 := by
  unfold restartWith
  split
  · exact peersInv_empty (takeRestart_entries s)
  · exact h

theorem takeCommand_keeps {P : State → Prop} (hp : ∀ s g, P s → P (s.onPanel g)) {code : Nat}
    {work : State → State × PanelAnswer} {s : State} (hw : ∀ s, P s → P (work s).1) (h : P s) :
    P (takeCommand code work s) := by
  unfold takeCommand
  simp only
  split
  · split
    · exact hp _ _ h
    · exact hp _ _ (hp _ _ h)
  · exact hp _ _ (hw _ (hp _ _ h))

theorem takeSweep_peersInv {s : State} (h : peersInv s) : peersInv (takeSweep s) := by
  have hm : peersInv (s.setPeers
      { entries := s.peers.entries.map (Peer.swept s.sec), sweep := s.peers.sweep.reload 10000 }) :=
    peersInv_of_nodes (s := s) rfl (by simp [Peer.swept_node]) h
  unfold takeSweep
  split
  · simp only
    split
    · exact recompute_peersInv hm
    · exact hm
  · exact h

theorem takePowerOn_peersInv (straps : Nat) (key : Bool) (s : State) : peersInv (takePowerOn straps key s) := by
  refine peersInv_empty ?_
  have hu : (powerUp straps key s).peers.entries = [] := by rw [powerUp_eq]; rfl
  unfold takePowerOn leaveStart
  split
  · rw [enterListenFresh_entries, hu]
  · exact hu
  · exact hu

theorem effectOf_peersInv {c : Instr} (hc : Instr.ordinary c) {s : State} (h : peersInv s) :
    peersInv (effectOf c s) := by
  by_cases ht : Field.peers ∈ touched c
  case neg =>
    exact peersInv_of_nodes (effectOf_node hc s) (by rw [effectOf_only hc s .peers ht]) h
  cases c
  case commissioningKeyRelease =>
    refine peersInv_of_nodes (effectOf_node hc s) ?_ h
    show (takeKeyRelease s).peers.entries.map _ = _
    unfold takeKeyRelease
    split
    · rw [endCommission_entries]
      rfl
    · rfl
  case commissioningWindowExpiry =>
    refine peersInv_of_nodes (effectOf_node hc s) ?_ h
    show (takeWindowExpiry s).peers.entries.map _ = _
    unfold takeWindowExpiry
    split
    · split
      · rw [endCommission_entries]
      · rfl
    · rfl
  case statusFrame => exact takeFrame_peersInv h fun _ h1 h63 hn h => handStatus_peersInv h1 h63 hn h _
  case claimFrame => exact takeFrame_peersInv h fun _ h1 h63 hn h => handClaim_peersInv h1 h63 hn h _
  case releaseFrame => exact takeFrame_peersInv h fun _ h1 h63 hn h => handRelease_peersInv h1 h63 hn h _
  case plumeFrame => exact takeFrame_peersInv h fun _ h1 h63 hn h => handPlume_peersInv h1 h63 hn h _
  case coverFrame => exact takeFrame_peersInv h fun _ h1 h63 hn h => handCover_peersInv h1 h63 hn h _
  case windFrame => exact takeFrame_peersInv h fun _ h1 h63 hn h => handWind_peersInv h1 h63 hn h _
  case forecastFrame => exact takeFrame_peersInv h fun _ h1 h63 hn h => handForecast_peersInv h1 h63 hn h _
  case supplyFrame => exact takeFrame_peersInv h fun _ h1 h63 hn h => handSupply_peersInv h1 h63 hn h _
  case machineFrame => exact takeFrame_peersInv h fun _ h1 h63 hn h => handMachine_peersInv h1 h63 hn h _
  case restart => exact takeCommand_keeps (fun _ _ h => h) (fun _ => restartWith_peersInv) h
  case sweep => exact takeSweep_peersInv h
  all_goals exact absurd ht (by simp [touched, deep, shallow])

/-- Settles O54. A frame writes its sender's entry in its place, and every other change keeps the node numbers or empties
the map. -/
theorem peersAreKept : Obligations.PeersAreKept := by
  unfold Obligations.PeersAreKept
  intro s t
  exact step_keeps_of_reads peersInv_reads (by decide) (fun straps key s _ => takePowerOn_peersInv _ key s)
    fun c s hc _ _ h => effectOf_peersInv hc h

/-! ### The lock list and its store (R164) -/

/-- The lock list within its limits, and stored outside START. -/
def locksKept (s : State) : Prop := lockInv s.lockout ∧ storeInv s

theorem locksKept_reads : readsOnly [.lockout, .store, .station] locksKept := by
  intro s t h hs
  have hl : t.lockout = s.lockout := h .lockout (by decide)
  have hst : t.store = s.store := h .store (by decide)
  have hm : t.station = s.station := h .station (by decide)
  unfold locksKept storeInv at *
  rw [hl, hst, hm]
  exact hs

theorem loadLocks_of_locks {a b : Store} (h : a.locks = b.locks) : a.loadLocks = b.loadLocks := by
  simp only [Store.loadLocks, h]

/-- What leaves the lock list and the stored one alone. -/
theorem locksKept_of_same {s t : State} (hm : s.station.mode ≠ .start) (hl : t.lockout = s.lockout)
    (hst : t.store.locks = s.store.locks) (h : locksKept s) : locksKept t := by
  refine ⟨hl ▸ h.1, fun _ => ?_⟩
  rw [hl, loadLocks_of_locks hst]
  exact h.2 hm

theorem validLocks_of_lockInv {l : Lockout} (h : lockInv l) :
    validLocks (l.locks.map fun k => (k.code, k.level)) = true := by
  obtain ⟨hlen, hnd, hcode, _⟩ := h
  have hm : (l.locks.map fun k => (k.code, k.level)).map Prod.fst = l.locks.map Lock.code := by simp
  simp only [validLocks, Bool.and_eq_true, decide_eq_true_eq, List.length_map, List.all_eq_true, hm]
  refine ⟨⟨hlen, hnd⟩, fun p hp => ?_⟩
  obtain ⟨k, hk, rfl⟩ := List.mem_map.1 hp
  exact hcode k hk

/-- A lock list within its limits that is written is stored as it stands. -/
theorem writeLocks_locksKept {l : List Lock} {s : State} (h : lockInv { s.lockout with locks := l }) :
    locksKept (writeLocks l s) := by
  refine ⟨h, fun _ => ?_⟩
  have hv := validLocks_of_lockInv h
  simp only at hv
  simp [writeLocks, Store.loadLocks, hv]

theorem addLock_locksKept {code : Nat} {level : LockLevel} {s : State} (hc : code ≤ 999999)
    (hnew : ∀ k ∈ s.lockout.locks, k.code ≠ code) (hroom : s.lockout.locks.length < 4) (h : lockInv s.lockout) :
    locksKept (addLock code level s) := by
  obtain ⟨_, hnd, hcode, ha⟩ := h
  have hw : locksKept
      (writeLocks (s.lockout.locks ++ [{ code := code, level := level, time := some s.sec }]) s) := by
    refine writeLocks_locksKept ⟨?_, ?_, fun k hk => ?_, ha⟩
    · simp only [List.length_append, List.length_singleton]
      omega
    · exact nodup_map_concat hnd hnew
    · rcases List.mem_append.1 hk with hk | hk
      · exact hcode k hk
      · rw [List.mem_singleton.1 hk]
        exact hc
  unfold addLock
  simp only
  split
  · exact hw
  · exact keeps_of_only locksKept_reads (respondToLock_only _) (by decide) hw

theorem applyLock_locksKept {code level : Nat} {s : State} (h : locksKept s) :
    locksKept (applyLock code level s).1 := by
  unfold applyLock
  split
  · exact h
  split
  · exact h
  split
  · exact h
  split
  · exact h
  · rename_i hmax hany hfull
    simp only [List.any_eq_true, decide_eq_true_eq, not_exists, not_and] at hany
    exact addLock_locksKept (Nat.not_lt.1 hmax) hany (Nat.not_le.1 hfull) h.1

theorem removeLocks_locksKept {p : Lock → Bool} {s : State} (h : lockInv s.lockout) :
    locksKept (removeLocks (s.lockout.locks.filter p) s) := by
  obtain ⟨hlen, hnd, hcode, ha⟩ := h
  have hw : locksKept (writeLocks (s.lockout.locks.filter p) s) :=
    writeLocks_locksKept ⟨Nat.le_trans (List.length_filter_le _ _) hlen, hnd.sublist (List.filter_sublist.map _),
      fun k hk => hcode k ((List.mem_filter.1 hk).1), ha⟩
  unfold removeLocks
  simp only
  split
  · exact keeps_of_only locksKept_reads (respondToUnlock_only _) (by decide) hw
  · exact hw

theorem loseAttempt_locksKept {s : State} (h : locksKept s) : locksKept (loseAttempt s) := by
  obtain ⟨⟨hlen, hnd, hcode, ha⟩, hst⟩ := h
  exact ⟨⟨hlen, hnd, hcode, Nat.le_trans (Nat.sub_le _ _) ha⟩, hst⟩

theorem applyUnlock_locksKept {code : Nat} {s : State} (h : locksKept s) : locksKept (applyUnlock code s).1 := by
  unfold applyUnlock
  simp only
  split
  · exact h
  split
  · exact h
  split
  · exact h
  split
  · exact removeLocks_locksKept h.1
  split
  · split
    · exact removeLocks_locksKept h.1
    · exact h
  · exact loseAttempt_locksKept h

theorem lockInv_loadLocks (st : Store) : lockInv { locks := st.loadLocks, attempts := 5 } := by
  unfold Store.loadLocks
  split
  · rename_i l _
    split
    · rename_i hv
      simp only [validLocks, Bool.and_eq_true, decide_eq_true_eq, List.all_eq_true] at hv
      obtain ⟨⟨hlen, hnd⟩, hcode⟩ := hv
      refine ⟨by simpa using hlen, by simpa [List.map_map, Function.comp_def] using hnd, fun k hk => ?_, Nat.le_refl 5⟩
      obtain ⟨p, hp, rfl⟩ := List.mem_map.1 hk
      exact hcode p hp
    · simp [lockInv]
  · simp [lockInv]

theorem takePowerOn_locksKept (straps : Nat) (key : Bool) (s : State) : locksKept (takePowerOn straps key s) := by
  have hl := takePowerOn_only straps key s .lockout (by decide)
  have hst := takePowerOn_only straps key s .store (by decide)
  simp only [Field.agrees, powerUp_eq] at hl hst
  refine ⟨hl ▸ lockInv_loadLocks s.store, fun _ => ?_⟩
  rw [hl, hst]

theorem configureWith_locks (block : List Byte) (s : State) :
    (configureWith block s).1.store.locks = s.store.locks := by
  unfold configureWith
  split
  · rfl
  split
  · rfl
  split <;> rfl

theorem takeCommand_configure_locks (block : List Byte) (s : State) :
    (takeCommand 2 (configureWith block) s).store.locks = s.store.locks := by
  unfold takeCommand
  simp only
  split
  · split <;> rfl
  · exact configureWith_locks block _

/-- Only LOCK, UNLOCK and POWER_ON write the lock list and its copy in the store. -/
theorem effectOf_locks_same {c : Instr} (hc : Instr.ordinary c) (hl : ∀ code level, c ≠ .lock code level)
    (hu : ∀ code, c ≠ .unlock code) (s : State) :
    (effectOf c s).lockout = s.lockout ∧ (effectOf c s).store.locks = s.store.locks := by
  refine ⟨effectOf_only hc s .lockout ?_, ?_⟩
  · cases c
    case lock code level => exact absurd rfl (hl code level)
    case unlock code => exact absurd rfl (hu code)
    all_goals simp [touched, deep, shallow]
  · by_cases ht : Field.store ∈ touched c
    case neg => rw [effectOf_only hc s .store ht]
    cases c
    case configure block => exact takeCommand_configure_locks block s
    case lock code level => exact absurd rfl (hl code level)
    case unlock code => exact absurd rfl (hu code)
    all_goals exact absurd ht (by simp [touched, deep, shallow])

theorem effectOf_locksKept {c : Instr} (hc : Instr.ordinary c) {s : State} (hm : s.station.mode ≠ .start)
    (h : locksKept s) : locksKept (effectOf c s) := by
  by_cases hl : ∃ code level, c = .lock code level
  · obtain ⟨code, level, rfl⟩ := hl
    exact takeCommand_keeps (P := locksKept) (fun _ _ h => h) (fun _ => applyLock_locksKept) h
  by_cases hu : ∃ code, c = .unlock code
  · obtain ⟨code, rfl⟩ := hu
    exact takeCommand_keeps (P := locksKept) (fun _ _ h => h) (fun _ => applyUnlock_locksKept) h
  obtain ⟨h1, h2⟩ :=
    effectOf_locks_same hc (fun code level he => hl ⟨code, level, he⟩) (fun code he => hu ⟨code, he⟩) s
  exact locksKept_of_same hm h1 h2 h

/-- Settles O55. LOCK and UNLOCK write the list that they leave to the store; no other command but POWER_ON touches
either. -/
theorem locksAreKept : Obligations.LocksAreKept := by
  unfold Obligations.LocksAreKept
  intro s t hl hs
  exact step_keeps_of_reads locksKept_reads (by decide) (fun straps key s _ => takePowerOn_locksKept _ key s)
    (fun c s hc hm _ h => effectOf_locksKept hc hm h) ⟨hl, hs⟩

end Sys2Proof.Machine
end

section
/-! PROOFS. Only their own commands touch the locks and the settings (R164, R167, R181, R182); and every step keeps the
face records within their ranges (R37). -/

namespace Sys2Proof.Machine

/-! ### Locks, store and settings -/

theorem respondToLock_lockout (s : State) : (respondToLock s).lockout = s.lockout :=
  respondToLock_only s .lockout (by decide)

theorem applyLock_attempts (code level : Nat) (s : State) :
    (applyLock code level s).1.lockout.attempts = s.lockout.attempts := by
  unfold applyLock
  split
  · rfl
  split
  · rfl
  split
  · rfl
  split
  · rfl
  · unfold addLock
    simp only
    split
    · rfl
    · rw [respondToLock_lockout]
      rfl

theorem removeLocks_attempts (l : List Lock) (s : State) :
    (removeLocks l s).lockout.attempts = s.lockout.attempts := by
  unfold removeLocks
  simp only
  split
  · rw [respondToUnlock_only _ .lockout (by decide)]
    rfl
  · rfl

theorem applyUnlock_attempts (code : Nat) (s : State) :
    (applyUnlock code s).1.lockout.attempts ≤ s.lockout.attempts := by
  unfold applyUnlock
  simp only
  split
  · exact Nat.le_refl _
  split
  · exact Nat.le_refl _
  split
  · exact Nat.le_refl _
  split
  · exact Nat.le_of_eq (removeLocks_attempts _ s)
  split
  · split
    · exact Nat.le_of_eq (removeLocks_attempts _ s)
    · exact Nat.le_refl _
  · exact Nat.sub_le _ _

/-- What a panel command makes of a part that its own work settles. -/
theorem takeCommand_cases (code : Nat) (work : State → State × PanelAnswer) (s : State) :
    (∃ g, takeCommand code work s = s.onPanel g)
      ∨ ∃ g, takeCommand code work s = (work (dropMessage s)).1.onPanel g := by
  unfold takeCommand
  simp only
  split
  · split
    · exact .inl ⟨_, rfl⟩
    · exact .inl ⟨fun p => { p with partialMessage := [], busy := some code }, rfl⟩
  · exact .inr ⟨_, rfl⟩

theorem effectOf_attempts {c : Instr} (hc : Instr.ordinary c) (s : State) :
    (effectOf c s).lockout.attempts ≤ s.lockout.attempts := by
  by_cases hl : ∃ code level, c = .lock code level
  · obtain ⟨code, level, rfl⟩ := hl
    rcases takeCommand_cases 3 (lockWith code level) s with ⟨g, h⟩ | ⟨g, h⟩
    · exact Nat.le_of_eq (congrArg (fun t => t.lockout.attempts) h)
    · exact Nat.le_of_eq ((congrArg (fun t => t.lockout.attempts) h).trans (applyLock_attempts code level (dropMessage s)))
  by_cases hu : ∃ code, c = .unlock code
  · obtain ⟨code, rfl⟩ := hu
    rcases takeCommand_cases 4 (unlockWith code) s with ⟨g, h⟩ | ⟨g, h⟩
    · exact Nat.le_of_eq (congrArg (fun t => t.lockout.attempts) h)
    · exact Nat.le_trans (Nat.le_of_eq (congrArg (fun t => t.lockout.attempts) h)) (applyUnlock_attempts code (dropMessage s))
  have hsame := effectOf_locks_same hc (fun code level he => hl ⟨code, level, he⟩) (fun code he => hu ⟨code, he⟩) s
  exact Nat.le_of_eq (congrArg Lockout.attempts hsame.1)

theorem addLock_block (code : Nat) (level : LockLevel) (s : State) :
    (addLock code level s).store.block = s.store.block := by
  unfold addLock
  simp only
  split
  · rfl
  · rw [respondToLock_only _ .store (by decide)]
    rfl

theorem applyLock_block (code level : Nat) (s : State) :
    (applyLock code level s).1.store.block = s.store.block := by
  unfold applyLock
  split
  · rfl
  split
  · rfl
  split
  · rfl
  split
  · rfl
  · exact addLock_block code _ s

theorem removeLocks_block (l : List Lock) (s : State) : (removeLocks l s).store.block = s.store.block := by
  unfold removeLocks
  simp only
  split
  · rw [respondToUnlock_only _ .store (by decide)]
    rfl
  · rfl

theorem applyUnlock_block (code : Nat) (s : State) : (applyUnlock code s).1.store.block = s.store.block := by
  unfold applyUnlock
  simp only
  split
  · rfl
  split
  · rfl
  split
  · rfl
  split
  · exact removeLocks_block _ s
  split
  · split
    · exact removeLocks_block _ s
    · rfl
  · rfl

/-- Only CONFIGURE and POWER_ON write the stored block. -/
theorem effectOf_block {c : Instr} (hc : Instr.ordinary c) (hb : ∀ block, c ≠ .configure block) (s : State) :
    (effectOf c s).store.block = s.store.block := by
  by_cases ht : Field.store ∈ touched c
  case neg => rw [effectOf_only hc s .store ht]
  cases c
  case configure block => exact absurd rfl (hb block)
  case lock code level =>
    rcases takeCommand_cases 3 (lockWith code level) s with ⟨g, h⟩ | ⟨g, h⟩
    · exact congrArg (fun t => t.store.block) h
    · exact (congrArg (fun t => t.store.block) h).trans (applyLock_block code level (dropMessage s))
  case unlock code =>
    rcases takeCommand_cases 4 (unlockWith code) s with ⟨g, h⟩ | ⟨g, h⟩
    · exact congrArg (fun t => t.store.block) h
    · exact (congrArg (fun t => t.store.block) h).trans (applyUnlock_block code (dropMessage s))
  all_goals exact absurd ht (by simp [touched, deep, shallow])

/-- Settles O59. Of the ordinary commands each changes only what its own rule names; in START none changes anything. -/
theorem locksNeedTheirCommands : Obligations.LocksNeedTheirCommands := by
  unfold Obligations.LocksNeedTheirCommands
  intro c s t h
  by_cases hc : Instr.ordinary c
  case neg =>
    have hn : ∀ {P : Prop}, (∀ straps key, c ≠ .powerOn straps key) → P := fun hp => absurd hp hc
    exact ⟨fun _ _ => hn, hn, fun _ => hn, hn⟩
  by_cases hm : s.station.mode = .start
  · rw [exec_start hc hm] at h
    cases h
    exact ⟨fun _ _ _ => ⟨rfl, rfl⟩, fun _ => Nat.le_refl _, fun _ _ => ⟨rfl, rfl⟩, fun _ => .inl rfl⟩
  · rw [exec_started hc hm] at h
    cases h
    have ho := closeArrival_only s (effectOf c s)
    have hl : (closeArrival s (effectOf c s)).lockout = (effectOf c s).lockout := ho .lockout (by decide)
    have hst : (closeArrival s (effectOf c s)).store = (effectOf c s).store := ho .store (by decide)
    have hsn : (closeArrival s (effectOf c s)).station = (effectOf c s).station := ho .station (by decide)
    rw [hl, hst, hsn]
    have hmove := effectOf_station hc s
    exact ⟨fun hl hu _ => effectOf_locks_same hc hl hu s, fun _ => effectOf_attempts hc s,
      fun hb _ => ⟨hmove.stored hb, effectOf_block hc hb s⟩, fun _ => hmove.config⟩

/-! ### The ranges of the face records (R37) -/

/-- From one state to the other every face record keeps its description, its moisture and its index. -/
def rangesKept (s t : State) : Prop :=
  ∀ f r, t.face.records.get f = some r →
    ∃ r0, s.face.records.get f = some r0 ∧ r.desc = r0.desc ∧ r.m = r0.m ∧ r.index = r0.index

theorem ranges_refl (s : State) : rangesKept s s := fun _ r h => ⟨r, h, rfl, rfl, rfl⟩

theorem ranges_trans {s t u : State} (h : rangesKept s t) (k : rangesKept t u) : rangesKept s u := by
  intro f r hr
  obtain ⟨r1, h1, hd1, hm1, hi1⟩ := k f r hr
  obtain ⟨r0, h0, hd0, hm0, hi0⟩ := h f r1 h1
  exact ⟨r0, h0, hd1.trans hd0, hm1.trans hm0, hi1.trans hi0⟩

theorem ranges_ite {s t u : State} {p : Prop} [Decidable p] (ht : rangesKept s t) (hu : rangesKept s u) :
    rangesKept s (if p then t else u) := by
  split <;> assumption

theorem ranges_of_only {fs : List Field} {s t : State} (h : onlyChanges fs s t) (hf : Field.face ∉ fs) :
    rangesKept s t := by
  have : t.face = s.face := h .face hf
  intro f r hr
  rw [this] at hr
  exact ⟨r, hr, rfl, rfl, rfl⟩

theorem ranges_of_prewet {s t : State} (h : prewetOnly s t) : rangesKept s t := by
  intro f r hr
  rcases h.2 f with ⟨h1, _⟩ | ⟨r0, p, h0, h1⟩
  · rw [h1] at hr
    cases hr
  · rw [h1] at hr
    cases hr
    exact ⟨r0, h0, rfl, rfl, rfl⟩

theorem ranges_changeRecord (f : FaceId) {g : FaceRecord → FaceRecord} (s : State)
    (hg : ∀ r, (g r).desc = r.desc ∧ (g r).m = r.m ∧ (g r).index = r.index) : rangesKept s (changeRecord f g s) := by
  intro h r hr
  rw [changeRecord_get] at hr
  split at hr
  · rename_i he
    obtain ⟨r0, h0, rfl⟩ := Option.map_eq_some_iff.1 hr
    exact ⟨r0, he ▸ h0, hg r0⟩
  · exact ⟨r, hr, rfl, rfl, rfl⟩

/-- Every record changed alike. -/
theorem ranges_map {g : FaceRecord → FaceRecord} (s : State) (timer : Timer)
    (hg : ∀ r, (g r).desc = r.desc ∧ (g r).m = r.m ∧ (g r).index = r.index) :
    rangesKept s (s.setFace { timer := timer, records := s.face.records.map (Option.map g) }) := by
  intro f r hr
  rw [State.setFace_face, PerFace.get_map] at hr
  obtain ⟨r0, h0, rfl⟩ := Option.map_eq_some_iff.1 hr
  exact ⟨r0, h0, hg r0⟩

theorem ranges_setFace_timer (s : State) (timer : Timer) : rangesKept s (s.setFace { s.face with timer := timer }) :=
  fun _ r h => ⟨r, h, rfl, rfl, rfl⟩

theorem clearRunoff_ranges (s : State) : rangesKept s (clearRunoff s) :=
  ranges_map (g := fun f => { f with runoff := 0 }) s s.face.timer fun _ => ⟨rfl, rfl, rfl⟩

theorem rollover_ranges (day : Option Nat) (a : Nat) (s : State) : rangesKept s (rollover day a s) :=
  ranges_trans (ranges_of_only (setAccount_only s _) (by decide)) (clearRunoff_ranges _)

theorem takeRainPulse_ranges (s : State) : rangesKept s (takeRainPulse s) :=
  ranges_ite (ranges_map (g := FaceRecord.addRain) s s.face.timer fun _ => ⟨rfl, rfl, rfl⟩) (ranges_refl s)

theorem cutOutEffects_prewet (b : Bool) (s : State) : prewetOnly s (cutOutEffects b s) := by
  unfold cutOutEffects
  split
  · exact chainEnd_prewet _ s
  · exact prewet_ite (prewet_of_only (releaseClaim_only s) (by decide)) (prewet_refl s)
  · split
    · exact prewet_of_only (askClaim_only _ _ s) (by decide)
    · exact prewet_refl s
  · exact prewet_refl s

theorem takeMinuteClose_prewet (s : State) : prewetOnly s (takeMinuteClose s) :=
  prewet_ite (prewet_trans (prewet_of_only (setWind_only s _) (by decide)) (cutOutEffects_prewet _ _)) (prewet_refl s)

theorem chargeFaceLitre_ranges (s : State) : rangesKept s (chargeFaceLitre s) := by
  unfold chargeFaceLitre
  split
  · exact ranges_changeRecord _ s fun _ => ⟨rfl, rfl, rfl⟩
  · exact ranges_refl s

theorem takeFlowPulse_ranges (s : State) : rangesKept s (takeFlowPulse s) :=
  ranges_ite
    (ranges_trans (chargeFaceLitre_ranges s)
      (ranges_trans (ranges_of_only (setAccount_only _ _) (by decide))
        (ranges_trans (ranges_of_prewet (chargeChain_prewet _)) (ranges_of_prewet (gatingEffects_prewet _ _)))))
    (ranges_refl s)

theorem offerKnockdowns_prewet (theta node : Nat) (p : State × Nat) (f : FaceId) :
    prewetOnly p.1 (offerKnockdowns theta node p f).1 := by
  unfold offerKnockdowns
  split
  · split
    · have ho := offerDemand_prewet
        { face := f, cls := .knockdown, volume := p.1.cfg.vKnock, origin := .peerNotice node, deadline := none } p.1
      split <;> rename_i h <;> rw [h] at ho <;> exact ho
    · exact prewet_refl _
  · exact prewet_refl _

theorem formAnswer_prewet (theta node : Nat) (s : State) : prewetOnly s (formAnswer theta node s).1 := by
  have hfold : ∀ (l : List FaceId) (p : State × Nat), prewetOnly p.1 (l.foldl (offerKnockdowns theta node) p).1 := by
    intro l
    induction l with
    | nil => exact fun p => prewet_refl p.1
    | cons f l ih => exact fun p => prewet_trans (offerKnockdowns_prewet theta node p f) (ih _)
  unfold formAnswer
  split
  · exact prewet_refl s
  split
  · exact prewet_refl s
  split
  · exact prewet_refl s
  · exact hfold allFaces (s, 0)

theorem selfTest_prewet (s : State) : prewetOnly s (selfTest s) :=
  prewet_trans (formAnswer_prewet _ _ s) (prewet_of_only (onDust_only _ _) (by decide))

theorem startNotice_prewet (s : State) : prewetOnly s (startNotice s) :=
  prewet_trans (prewet_of_only (onDust_only s _) (by decide))
    (prewet_trans (selfTest_prewet _)
      (prewet_trans (prewet_of_only (announceNotice_only _) (by decide))
        (prewet_of_only (onDust_only _ _) (by decide))))

theorem returnToExceed_prewet (s : State) : prewetOnly s (returnToExceed s) :=
  prewet_trans (prewet_of_only (onDust_only s _) (by decide))
    (prewet_trans (selfTest_prewet _)
      (prewet_trans (prewet_of_only (announceNotice_only _) (by decide))
        (prewet_of_only (onDust_only _ _) (by decide))))

theorem applyMean_prewet (m : Nat) (s : State) : prewetOnly s (applyMean m s) := by
  have hd : ∀ (s : State) g, prewetOnly s (s.onDust g) := fun s g => prewet_of_only (onDust_only s g) (by decide)
  unfold applyMean
  simp only
  split
  · exact prewet_ite (hd s _) (prewet_refl s)
  · exact prewet_ite (returnToExceed_prewet s) (prewet_ite (hd s _) (prewet_refl s))
  · exact prewet_ite (prewet_trans (hd s _) (startNotice_prewet _)) (hd s _)

theorem takeReading_prewet (v : Nat) (s : State) : prewetOnly s (takeReading v s) := by
  have hd : ∀ (s : State) g, prewetOnly s (s.onDust g) := fun s g => prewet_of_only (onDust_only s g) (by decide)
  exact prewet_ite (prewet_trans (hd s _) (prewet_trans (hd _ _) (applyMean_prewet _ _))) (hd s _)

theorem takeDustReading_prewet (v : Int) (s : State) : prewetOnly s (takeDustReading v s) := by
  unfold takeDustReading
  refine prewet_ite ?_ (prewet_refl s)
  exact prewet_trans (takeReading_prewet _ s)
    (prewet_trans (prewet_ite (prewet_of_only (retryNotice_only _) (by decide)) (prewet_refl _))
      (prewet_of_only (retryAnswers_only _) (by decide)))

theorem enterMute_prewet (s : State) : prewetOnly s (enterMute s) :=
  prewet_trans (prewet_of_only (onStation_only s _) (by decide))
    (prewet_trans (chainEnd_prewet _ _)
      (prewet_trans (prewet_of_only (setClaim_only _ _) (by decide)) (prewet_of_only (onLine_only _ _) (by decide))))

theorem takeDuplicate_prewet (s : State) : prewetOnly s (takeDuplicate s) := by
  have hd : prewetOnly s (s.onLine fun l => { l with duplicate := true }) :=
    prewet_of_only (onLine_only s _) (by decide)
  rcases takeDuplicate_cases s with h | h | ⟨_, h⟩ <;> rw [h]
  · exact prewet_refl s
  · exact hd
  · exact prewet_trans hd (enterMute_prewet _)

theorem handFrame_ranges {k : FrameKind} {n : Nat} {pos : Option (Nat × Nat)} {part : Peer → Peer}
    {handOn : State → State} (s : State) (h : ∀ s, rangesKept s (handOn s)) :
    rangesKept s (handFrame k n pos part handOn s) := by
  have h1 : rangesKept s ((hearFrame s).setPeerEntries
      (putPeer (part (refreshedPeer s.sec n k.member pos s.peers.entries)) s.peers.entries)) :=
    ranges_trans (ranges_of_only (hearFrame_only s) (by decide))
      (ranges_of_only (setPeerEntries_only _ _) (by decide))
  exact ranges_trans (ranges_ite (ranges_trans h1 (ranges_of_prewet (recompute_prewet _))) h1) (h _)

theorem takeFrame_ranges {k : FrameKind} {n : Nat} {payload : List Byte} {hand : State → State} (s : State)
    (h : ∀ s, rangesKept s (hand s)) : rangesKept s (takeFrame k n payload hand s) := by
  have h1 : rangesKept s (frameEnds s) := ranges_of_only (onLine_only s _) (by decide)
  exact ranges_ite h1
    (ranges_ite (ranges_trans h1 (ranges_of_prewet (takeDuplicate_prewet _))) (ranges_trans h1 (h _)))

theorem handClaimKind_ranges (k : FrameKind) (n : Nat) (s : State) : rangesKept s (handClaimKind k n s) :=
  ranges_of_only (handClaimKind_only k n s) (by decide)

theorem setPeerEntries_ranges (s : State) (ps : List Peer) : rangesKept s (s.setPeerEntries ps) :=
  ranges_of_only (setPeerEntries_only s ps) (by decide)

theorem handStatus_ranges (n : Nat) (payload : List Byte) (s : State) : rangesKept s (handStatus n payload s) := by
  unfold handStatus
  simp only
  split
  · exact handFrame_ranges s fun s => ranges_of_only (clearActed_only _ _ s) (by decide)
  · exact handFrame_ranges s ranges_refl

theorem handClaim_ranges (n : Nat) (payload : List Byte) (s : State) : rangesKept s (handClaim n payload s) := by
  unfold handClaim
  split
  · refine ranges_trans (handClaimKind_ranges .claim n s) ?_
    exact ranges_ite (ranges_trans (setPeerEntries_ranges _ _) (ranges_of_prewet (recompute_prewet _)))
      (ranges_ite (ranges_of_prewet (recompute_prewet _)) (ranges_refl _))
  · exact handFrame_ranges s ranges_refl

theorem handRelease_ranges (n : Nat) (payload : List Byte) (s : State) : rangesKept s (handRelease n payload s) := by
  have h1 := handClaimKind_ranges .release n s
  exact ranges_ite
    (ranges_trans h1 (ranges_trans (setPeerEntries_ranges _ _) (ranges_of_prewet (recompute_prewet _))))
    (ranges_ite (ranges_trans h1 (ranges_of_prewet (recompute_prewet _))) h1)

theorem takePlume_prewet (n : Nat) (m : PlumeMsg) (s : State) : prewetOnly s (takePlume n m s) :=
  prewet_ite
    (prewet_trans (prewet_of_only (setPeerEntries_only s _) (by decide))
      (prewet_trans (formAnswer_prewet _ _ _) (prewet_of_only (sendAnswer_only _ _) (by decide))))
    (prewet_refl s)

theorem handCover_ranges (n : Nat) (payload : List Byte) (s : State) : rangesKept s (handCover n payload s) := by
  unfold handCover
  split
  · exact handFrame_ranges s fun s => ranges_of_only (takeCoverFrame_only _ _ s) (by decide)
  · exact handFrame_ranges s ranges_refl

theorem takeDay_ranges (d a : Nat) (s : State) : rangesKept s (takeDay d a s) := by
  unfold takeDay
  simp only
  split
  · exact ranges_of_only (setAccount_only s _) (by decide)
  · exact ranges_ite (ranges_of_only (setAccount_only s _) (by decide)) (rollover_ranges _ _ s)

theorem recomputeOnCapacity_prewet (n : Nat) (s : State) : prewetOnly s (recomputeOnCapacity n s) :=
  prewet_ite (prewet_refl s) (recompute_prewet s)

theorem acceptSupply_ranges (m : SupplyMsg) (s : State) : rangesKept s (acceptSupply m s) :=
  ranges_trans (takeDay_ranges _ _ s)
    (ranges_trans (ranges_of_only (setClaim_only _ _) (by decide))
      (ranges_of_prewet (prewet_trans (gatingEffects_prewet _ _) (recomputeOnCapacity_prewet _ _))))

theorem handSupply_ranges (n : Nat) (payload : List Byte) (s : State) : rangesKept s (handSupply n payload s) := by
  unfold handSupply
  split
  · exact handFrame_ranges s fun s => ranges_ite (acceptSupply_ranges _ s) (ranges_refl s)
  · exact handFrame_ranges s ranges_refl

theorem handMachine_ranges (n : Nat) (payload : List Byte) (s : State) : rangesKept s (handMachine n payload s) := by
  unfold handMachine
  simp only
  split
  · exact handFrame_ranges s ranges_refl
  · exact handFrame_ranges s ranges_refl

theorem rollStale_ranges (s : State) : rangesKept s (rollStale s) :=
  ranges_ite (ranges_trans (rollover_ranges _ _ s) (ranges_of_prewet (gatingEffects_prewet _ _))) (ranges_refl s)

theorem takeSupplyStale_ranges (s : State) : rangesKept s (takeSupplyStale s) :=
  ranges_ite
    (ranges_trans (ranges_of_only (setClaim_only s _) (by decide))
      (ranges_trans (ranges_of_prewet (recomputeOnCapacity_prewet _ _)) (rollStale_ranges _)))
    (ranges_refl s)

theorem takeSweep_prewet (s : State) : prewetOnly s (takeSweep s) := by
  have h1 : ∀ v, prewetOnly s (s.setPeers v) := fun v => prewet_of_only (setPeers_only s v) (by decide)
  exact prewet_ite (prewet_ite (prewet_trans (h1 _) (recompute_prewet _)) (h1 _)) (prewet_refl s)

theorem respondToLock_prewet (s : State) : prewetOnly s (respondToLock s) := by
  unfold respondToLock
  split
  · exact prewet_of_only (lockCannon_only s) (by decide)
  · exact prewet_of_only (lockCannon_only s) (by decide)
  · exact prewet_ite (chainEnd_prewet _ s) (prewet_of_only (abandonPriming_only s) (by decide))
  · exact prewet_ite (chainEnd_prewet _ s) (prewet_of_only (setRequest_only s _) (by decide))
  · exact prewet_refl s
  · exact prewet_refl s
  · exact chainEnd_prewet _ s

theorem applyLock_prewet (code level : Nat) (s : State) : prewetOnly s (applyLock code level s).1 := by
  have hw : ∀ l, prewetOnly s (writeLocks l s) := fun l => prewet_of_only (writeLocks_only l s) (by decide)
  unfold applyLock
  split
  · exact prewet_refl s
  split
  · exact prewet_refl s
  split
  · exact prewet_refl s
  split
  · exact prewet_refl s
  · exact prewet_ite (hw _) (prewet_trans (hw _) (respondToLock_prewet _))

theorem testSprayWith_prewet (face volume : Nat) (s : State) : prewetOnly s (testSprayWith face volume s).1 := by
  unfold testSprayWith
  split
  · exact offerDemand_prewet _ s
  · exact prewet_refl s

theorem startListen_ranges (s : State) : rangesKept s (startListen s) := by
  have h2 : rangesKept s ((s.onStation fun t =>
      { t with mode := .listen, listen := .startAt s.now 60000, window := .stopped }).setWind
        { s.wind with acc := Accumulator.empty, minute := .startAt s.now 60000 }) := ranges_refl s
  refine ranges_trans (ranges_trans h2 (ranges_setFace_timer _ (.startAt s.now 60000))) ?_
  exact ranges_trans (ranges_of_only (onDust_only _ _) (by decide))
    (ranges_trans (ranges_of_only (onLine_only _ _) (by decide))
      (ranges_trans (ranges_of_only (startSweep_only _) (by decide))
        (ranges_of_only (startStandby_only _) (by decide))))

theorem clearBlocks_ranges (s : State) : rangesKept s (clearBlocks s) := by
  have h : rangesKept s
      ((noClaim (chainEnd .restart (clearQueue s))).onLine (Line.clear s.now)) :=
    ranges_trans (ranges_of_only (setQueue_only s _) (by decide))
      (ranges_trans (ranges_of_prewet (chainEnd_prewet _ _))
        (ranges_trans (ranges_of_only (setClaim_only _ _) (by decide))
          (ranges_of_only (onLine_only _ _) (by decide))))
  exact ranges_trans h
    (ranges_trans (ranges_of_only (setPeers_only _ _) (by decide))
      (ranges_trans (ranges_of_only (onDust_only _ _) (by decide))
        (ranges_trans (ranges_of_only (setWind_only _ _) (by decide)) (ranges_setFace_timer _ _))))

theorem takeRestart_ranges (s : State) : rangesKept s (takeRestart s) :=
  ranges_trans (clearBlocks_ranges s)
    (ranges_trans (ranges_of_only (onStation_only _ _) (by decide))
      (ranges_trans (startListen_ranges _)
        (ranges_trans (ranges_of_only (startFirstListen_only _) (by decide))
          (ranges_of_only (restartCannon_only _) (by decide)))))

theorem restartWith_ranges (s : State) : rangesKept s (restartWith s).1 := by
  unfold restartWith
  split
  · exact takeRestart_ranges s
  · exact ranges_refl s

theorem takeCommand_ranges {code : Nat} {work : State → State × PanelAnswer} (s : State)
    (hw : ∀ s, rangesKept s (work s).1) : rangesKept s (takeCommand code work s) := by
  rcases takeCommand_cases code work s with ⟨g, h⟩ | ⟨g, h⟩ <;> rw [h]
  · exact ranges_of_only (onPanel_only s g) (by decide)
  · exact ranges_trans (ranges_of_only (onPanel_only s _) (by decide))
      (ranges_trans (hw _) (ranges_of_only (onPanel_only _ g) (by decide)))

/-- Every ordinary command but EVALUATION and the two ends of commissioning keeps the ranges of the face records. -/
theorem effectOf_ranges {c : Instr} (hc : Instr.ordinary c) (he : c ≠ .evaluation)
    (hk : c ≠ .commissioningKeyRelease) (hw : c ≠ .commissioningWindowExpiry) (s : State) :
    rangesKept s (effectOf c s) := by
  by_cases ht : Field.face ∈ touched c
  case neg => exact ranges_of_only (effectOf_only hc s) ht
  cases c
  case evaluation => exact absurd rfl he
  case commissioningKeyRelease => exact absurd rfl hk
  case commissioningWindowExpiry => exact absurd rfl hw
  case minuteClose => exact ranges_of_prewet (takeMinuteClose_prewet s)
  case rainPulse => exact takeRainPulse_ranges s
  case flowPulse => exact takeFlowPulse_ranges s
  case dustReading => exact ranges_of_prewet (takeDustReading_prewet _ s)
  case secondStage =>
    exact ranges_of_prewet (prewet_ite
      (prewet_trans (prewet_of_only (setClaim_only s _) (by decide)) (chainEnd_prewet _ _)) (prewet_refl s))
  case statusFrame => exact takeFrame_ranges s (handStatus_ranges _ _)
  case claimFrame => exact takeFrame_ranges s (handClaim_ranges _ _)
  case releaseFrame => exact takeFrame_ranges s (handRelease_ranges _ _)
  case plumeFrame =>
    exact takeFrame_ranges s fun s => handFrame_ranges s fun s => ranges_of_prewet (takePlume_prewet _ _ s)
  case coverFrame => exact takeFrame_ranges s (handCover_ranges _ _)
  case windFrame => exact takeFrame_ranges s fun s => handFrame_ranges s ranges_refl
  case forecastFrame =>
    exact takeFrame_ranges s fun s =>
      handFrame_ranges s fun s => ranges_of_only (takeForecast_only _ _ s) (by decide)
  case supplyFrame => exact takeFrame_ranges s (handSupply_ranges _ _)
  case machineFrame => exact takeFrame_ranges s (handMachine_ranges _ _)
  case duplicate =>
    exact ranges_trans (ranges_of_only (onLine_only s _) (by decide)) (ranges_of_prewet (takeDuplicate_prewet _))
  case lock => exact takeCommand_ranges s fun s => ranges_of_prewet (applyLock_prewet _ _ s)
  case restart => exact takeCommand_ranges s restartWith_ranges
  case testSpray => exact takeCommand_ranges s fun s => ranges_of_prewet (testSprayWith_prewet _ _ s)
  case noFlowExpiry =>
    exact ranges_of_prewet (prewet_ite
      (prewet_trans (prewet_of_only (onCannon_only s _) (by decide)) (chainEnd_prewet _ _)) (prewet_refl s))
  case slewTimeout =>
    exact ranges_of_prewet (prewet_ite
      (prewet_trans (prewet_of_only (onCannon_only s _) (by decide)) (chainEnd_prewet _ _)) (prewet_refl s))
  case deadline => exact ranges_of_prewet (passDeadlines_prewet s)
  case supplyStaleExpiry => exact takeSupplyStale_ranges s
  case staleRollover => exact rollStale_ranges s
  case sweep => exact ranges_of_prewet (takeSweep_prewet s)
  all_goals exact absurd ht (by simp [touched, shallow])

/-! ### The face records of every step -/

/-- The face records within their ranges. -/
def recordsInv (s : State) : Prop := ∀ f r, s.face.records.get f = some r → recordInv r

/-- A stored configuration starts every face within its range (R182). -/
def storedStarts (s : State) : Prop := ∀ c, s.station.stored = some c → ∀ f, (c.faces.get f).mInit ≤ (c.faces.get f).msat

theorem recordsInv_of_ranges {s t : State} (h : rangesKept s t) (hs : recordsInv s) : recordsInv t := by
  intro f r hr
  obtain ⟨r0, h0, hd, hm, hi⟩ := h f r hr
  obtain ⟨hm0, hi0⟩ := hs f r0 h0
  exact ⟨hd ▸ hm ▸ hm0, hi ▸ hi0⟩

theorem recordsInv_changeRecord {f : FaceId} {g : FaceRecord → FaceRecord} {s : State} (hg : ∀ r, recordInv (g r))
    (hs : recordsInv s) : recordsInv (changeRecord f g s) := by
  intro h r hr
  rw [changeRecord_get] at hr
  split at hr
  · obtain ⟨r0, _, rfl⟩ := Option.map_eq_some_iff.1 hr
    exact hg r0
  · exact hs h r hr

/-- Steps 4 and 6 bring moisture and index into their ranges, whatever they were (R28, R30). -/
theorem evaluateRecord_inv (sec : Nat) (c : Configuration) (w : WindRecord) (contact : Bool)
    (machines : List (Nat × Nat)) (r : FaceRecord) : recordInv (evaluateRecord sec c w contact machines r).1 :=
  ⟨Nat.min_le_left _ _, Nat.min_le_left _ _⟩

theorem recordSizing_ranges (f : FaceId) (v : Option Nat) (o : SizingOutcome) (s : State) :
    rangesKept s (recordSizing f v o s) := ranges_changeRecord f s fun _ => ⟨rfl, rfl, rfl⟩

theorem stepSuppress_ranges (f : FaceId) (r : FaceRecord) (s : State) : rangesKept s (stepSuppress f r s) := by
  unfold stepSuppress
  split
  · refine ranges_ite (recordSizing_ranges _ _ _ s) ?_
    have ho := ranges_of_prewet (offerDemand_prewet
      { face := f, cls := .suppress
        volume := suppressVolume s.cfg r.desc (r.lastEval.map LastEval.weff |>.getD 0) r.m, origin := .localRisk
        deadline := none } s)
    refine ranges_ite (ranges_trans (ranges_of_only (setQueue_only s _) (by decide)) (recordSizing_ranges _ _ _ _)) ?_
    split <;> rename_i h <;> rw [h] at ho <;> exact ranges_trans ho (recordSizing_ranges _ _ _ _)
  · exact recordSizing_ranges _ _ _ s
  · unfold withdrawSuppress
    split
    · exact ranges_ite (ranges_trans (recordSizing_ranges _ _ _ s) (ranges_of_only (setFree_only _ _) (by decide)))
        (ranges_trans (ranges_of_prewet (removeEntry_prewet _ _ s)) (recordSizing_ranges _ _ _ _))
    · exact recordSizing_ranges _ _ _ s

theorem evaluateFace_recordsInv (s : State) (f : FaceId) (hs : recordsInv s) : recordsInv (evaluateFace s f) := by
  unfold evaluateFace
  split
  · refine recordsInv_of_ranges (ranges_trans (ranges_of_only (setAccount_only _ _) (by decide))
      (stepSuppress_ranges _ _ _)) ?_
    exact recordsInv_changeRecord (fun _ => evaluateRecord_inv _ _ _ _ _ _) hs
  · exact hs

theorem evaluateFaces_recordsInv {s : State} (hs : recordsInv s) : recordsInv (evaluateFaces s) := by
  have : ∀ (l : List FaceId) (s : State), recordsInv s → recordsInv (l.foldl evaluateFace s) := by
    intro l
    induction l with
    | nil => exact fun _ h => h
    | cons f l ih => exact fun s h => ih _ (evaluateFace_recordsInv s f h)
  exact this _ s hs

theorem offerPrewet_prewet (f : FaceId) (v d : Nat) (s : State) : prewetOnly s (offerPrewet f v d s).1 := by
  have ho := offerDemand_prewet
    { face := f, cls := .prewet, volume := v, origin := .lookahead, deadline := some d } s
  unfold offerPrewet
  split
  · exact prewet_refl s
  · split <;> rename_i h <;> rw [h] at ho <;> exact ho

theorem writeSummary_prewet (f : FaceId) (y : Summary) (s : State) : prewetOnly s (writeSummary f y s) :=
  prewet_of_only (setLook_only s _) (by decide)

theorem lookAheadFace_prewet (s : State) (f : FaceId) : prewetOnly s (lookAheadFace s f) := by
  unfold lookAheadFace
  split
  · exact prewet_refl s
  simp only
  split
  · exact writeSummary_prewet _ _ s
  split
  · exact writeSummary_prewet _ _ s
  · exact prewet_trans (offerPrewet_prewet _ _ _ s) (writeSummary_prewet _ _ _)

theorem lookAhead_prewet (s : State) : prewetOnly s (lookAhead s) :=
  prewet_ite (prewet_refl s) (prewet_foldl lookAheadFace_prewet _ s)

theorem takeEvaluation_recordsInv {s : State} (hs : recordsInv s) : recordsInv (takeEvaluation s) := by
  unfold takeEvaluation
  split
  · refine recordsInv_of_ranges (ranges_of_prewet (lookAhead_prewet _)) (evaluateFaces_recordsInv ?_)
    exact recordsInv_of_ranges (ranges_setFace_timer s _) hs
  · exact hs

/-- The records formed from a configuration that starts every face within its range (R20). -/
theorem formRecords_recordsInv {s : State} (h : ∀ f, (s.cfg.faces.get f).mInit ≤ (s.cfg.faces.get f).msat) :
    recordsInv (formRecords s) := by
  intro f r hr
  have hr : (s.cfg.faces.map formRecord).get f = some r := hr
  rw [PerFace.get_map] at hr
  unfold formRecord at hr
  split at hr
  · cases hr
    exact ⟨h f, Nat.zero_le _⟩
  · cases hr

theorem enterListenFresh_recordsInv {s : State} (hst : storedStarts s) (hv : s.station.stored.isSome = true) :
    recordsInv (enterListenFresh s) := by
  obtain ⟨c, hc⟩ := Option.isSome_iff_exists.1 hv
  have hcfg : (startListen (takeSettings s)).cfg = c := by
    unfold State.cfg
    rw [startListen_station]
    simp [takeSettings, State.onStation, hc]
  have hf : recordsInv (formRecords (startListen (takeSettings s))) :=
    formRecords_recordsInv fun f => by rw [hcfg]; exact hst c hc f
  refine recordsInv_of_ranges (ranges_of_only (startFirstListen_only _) (by decide)) ?_
  exact recordsInv_of_ranges (ranges_of_only (fallbackAtListen_only _) (by decide)) hf

theorem endCommission_recordsInv {s : State} (hst : storedStarts s) (hs : recordsInv s) :
    recordsInv (endCommission s) := by
  unfold endCommission
  split
  · exact enterListenFresh_recordsInv hst ‹_›
  · exact hs

theorem effectOf_recordsInv {c : Instr} (hc : Instr.ordinary c) {s : State} (hst : storedStarts s)
    (hs : recordsInv s) : recordsInv (effectOf c s) := by
  by_cases he : c = .evaluation
  · subst he
    exact takeEvaluation_recordsInv hs
  by_cases hk : c = .commissioningKeyRelease
  · subst hk
    show recordsInv (takeKeyRelease s)
    unfold takeKeyRelease
    split
    · exact endCommission_recordsInv (s := s.setPins { s.pins with key := false }) hst hs
    · exact hs
  by_cases hw : c = .commissioningWindowExpiry
  · subst hw
    show recordsInv (takeWindowExpiry s)
    unfold takeWindowExpiry
    split
    · split
      · exact endCommission_recordsInv hst hs
      · exact hs
    · exact hs
  exact recordsInv_of_ranges (effectOf_ranges hc he hk hw s) hs

/-! ### A stored configuration starts every face within its range (R182) -/

theorem blockChecks_of_passes {node : Nat} {b : List Byte} (h : firstFailing node b = none) :
    ∀ ok ∈ blockChecks node b, ok = true := by
  unfold firstFailing at h
  rw [Option.map_eq_none_iff, List.findIdx?_eq_none_iff] at h
  exact fun ok hm => by simpa using h ok hm

theorem readBlock_starts {node : Nat} {b : List Byte} (h : firstFailing node b = none) (f : FaceId) :
    ((readBlock b).faces.get f).mInit ≤ ((readBlock b).faces.get f).msat := by
  have hall := blockChecks_of_passes h
  have hface : ∀ k, (∀ ok ∈ faceChecks b (readBlock b) k, ok = true) → (readFace b k).mInit ≤ (readFace b k).msat := by
    intro k hk
    have := hk (within 0 (readFace b k).msat (readFace b k).mInit) (by simp [faceChecks])
    simp only [within, Bool.and_eq_true, decide_eq_true_eq] at this
    exact this.2
  match f with
  | 0 => exact hface 0 fun ok hok => hall ok (by simp only [blockChecks, List.mem_append]; simp [hok])
  | 1 => exact hface 1 fun ok hok => hall ok (by simp only [blockChecks, List.mem_append]; simp [hok])
  | 2 => exact hface 2 fun ok hok => hall ok (by simp only [blockChecks, List.mem_append]; simp [hok])
  | 3 => exact hface 3 fun ok hok => hall ok (by simp only [blockChecks, List.mem_append]; simp [hok])

theorem loadBlock_starts {node : Nat} {b : List Byte} {c : Configuration} (h : loadBlock node b = some c)
    (f : FaceId) : (c.faces.get f).mInit ≤ (c.faces.get f).msat := by
  unfold loadBlock at h
  split at h
  · unfold checkBlock at h
    split at h
    · cases h
      exact readBlock_starts (by assumption : _ ∧ _).2 f
    · cases h
  · cases h

theorem configureWith_starts {block : List Byte} {s : State} (h : storedStarts s) :
    storedStarts (configureWith block s).1 := by
  unfold configureWith
  split
  · exact h
  split
  · exact h
  split
  · exact h
  · rename_i hf
    intro c hc f
    cases hc
    exact readBlock_starts hf f

theorem effectOf_starts {c : Instr} (hc : Instr.ordinary c) {s : State} (h : storedStarts s) :
    storedStarts (effectOf c s) := by
  by_cases hb : ∃ block, c = .configure block
  · obtain ⟨block, rfl⟩ := hb
    exact takeCommand_keeps (P := storedStarts) (fun _ _ h => h) (fun _ => configureWith_starts) h
  · unfold storedStarts
    rw [(effectOf_station hc s).stored fun block he => hb ⟨block, he⟩]
    exact h

theorem faceInv_reads : readsOnly [.face, .station] faceInv := by
  intro s t h hs
  have hf : t.face = s.face := h .face (by decide)
  have hm : t.station = s.station := h .station (by decide)
  unfold faceInv at *
  rw [hf, hm]
  exact hs

theorem leaveStart_stored (m : Mode) (s : State) : (leaveStart m s).station.stored = s.station.stored := by
  unfold leaveStart
  split
  · rw [enterListenFresh_station]
  · rfl
  · rfl

theorem firstMode_listen {node : Nat} {key valid : Bool} (h : firstMode node key valid = .listen) :
    node ≠ 0 ∧ key = false ∧ valid = true := by
  unfold firstMode at h
  split at h
  · cases h
  split at h
  · cases h
  split at h
  · rename_i h0 hk hv
    exact ⟨h0, by simpa using hk, hv⟩
  · cases h

theorem takePowerOn_faceInv (straps : Nat) (key : Bool) (s : State) : faceInv (takePowerOn straps key s) := by
  have hstored : (powerUp straps key s).station.stored = loadBlock straps s.store.block := by rw [powerUp_eq]
  have hst : storedStarts (powerUp straps key s) := fun c hc f => loadBlock_starts (hstored ▸ hc) f
  have hrec : recordsInv (powerUp straps key s) := by
    intro f r hr
    rw [powerUp_eq] at hr
    match f with
    | 0 | 1 | 2 | 3 => cases hr
  refine ⟨?_, fun c hc => hst c (leaveStart_stored _ _ ▸ hc)⟩
  show recordsInv (leaveStart _ _)
  unfold leaveStart
  split
  · rename_i hm
    exact enterListenFresh_recordsInv hst (by rw [hstored]; exact (firstMode_listen hm).2.2)
  · exact hrec
  · exact hrec

/-- Settles O56. An evaluation brings moisture and index into their ranges, the records are formed from a checked
configuration, and nothing else changes either. -/
theorem facesAreKept : Obligations.FacesAreKept := by
  unfold Obligations.FacesAreKept
  intro s t
  exact step_keeps_of_reads faceInv_reads (by decide) (fun straps key s _ => takePowerOn_faceInv _ key s)
    fun c s hc _ _ h => ⟨effectOf_recordsInv hc h.2 h.1, effectOf_starts hc h.2⟩

end Sys2Proof.Machine
end

section
/-! PROOFS. What the operations of the Spray Queue, of the spray record log and of the transmit queue keep: the entries
and the rotation order (R54, R61, R63), the serials (R93), and the limits of the transmit queue (R149, R153, R160). -/

namespace Sys2Proof.Machine

/-! ### The entries of the Spray Queue (R54, R61) -/

/-- An entry short of its litres and under the attempt limit. -/
def entryOk (e : Entry) : Prop := e.delivered < e.requested ∧ e.requested ≤ 65535 ∧ e.attempts ≤ 2

/-- The entries of the Spray Queue within their limits. -/
def entriesInv (es : List Entry) : Prop :=
  es.length ≤ 8 ∧ (es.map fun e => (e.face, e.cls)).Nodup ∧ ∀ e ∈ es, entryOk e

theorem queueInv_iff (q : SprayQueue) :
    queueInv q ↔ entriesInv q.entries ∧ q.rotation.length = 4 ∧ q.rotation.Nodup := by
  simp only [queueInv, entriesInv, entryOk, and_assoc]

theorem Entry.isOf_iff {f : FaceId} {c : DemandClass} {e : Entry} : e.isOf f c = true ↔ e.face = f ∧ e.cls = c := by
  simp [Entry.isOf]

theorem Entry.isOf_self (e : Entry) : e.isOf e.face e.cls = true := Entry.isOf_iff.2 ⟨rfl, rfl⟩

theorem findEntry_some {f : FaceId} {c : DemandClass} {es : List Entry} {e : Entry} (h : findEntry f c es = some e) :
    e ∈ es ∧ e.face = f ∧ e.cls = c :=
  ⟨List.mem_of_find?_eq_some h, Entry.isOf_iff.1 (List.find?_some h)⟩

theorem findEntry_isNone {f : FaceId} {c : DemandClass} {es : List Entry} :
    (findEntry f c es).isSome = false ↔ ∀ e ∈ es, ¬(e.face = f ∧ e.cls = c) := by
  rw [findEntry, Option.isSome_eq_false_iff, Option.isNone_iff_eq_none, List.find?_eq_none]
  simp only [Entry.isOf_iff]

theorem runningEntry_some {f : FaceId} {c : DemandClass} {es : List Entry} {e : Entry}
    (h : runningEntry f c es = some e) : e ∈ es ∧ e.face = f ∧ e.cls = c ∧ e.running = true := by
  have hp := List.find?_some h
  simp only [Bool.and_eq_true, Entry.isOf_iff] at hp
  exact ⟨List.mem_of_find?_eq_some h, hp.1.1, hp.1.2, hp.2⟩

/-- An entry is known by its face and its class. -/
theorem entry_unique {es : List Entry} (h : entriesInv es) {a b : Entry} (ha : a ∈ es) (hb : b ∈ es)
    (hf : a.face = b.face) (hc : a.cls = b.cls) : a = b :=
  eq_of_nodup_map h.2.1 ha hb (Prod.ext hf hc)

theorem mem_changeEntry {f : FaceId} {c : DemandClass} {g : Entry → Entry} {es : List Entry} {x : Entry} :
    x ∈ changeEntry f c g es ↔
      (x ∈ es ∧ ¬(x.face = f ∧ x.cls = c)) ∨ ∃ e ∈ es, e.face = f ∧ e.cls = c ∧ g e = x := by
  simp only [changeEntry, List.mem_map]
  constructor
  · rintro ⟨e, he, rfl⟩
    split
    · rename_i h
      obtain ⟨hf, hc⟩ := Entry.isOf_iff.1 h
      exact .inr ⟨e, he, hf, hc, rfl⟩
    · rename_i h
      rw [Entry.isOf_iff] at h
      exact .inl ⟨he, h⟩
  · rintro (⟨hx, h⟩ | ⟨e, he, hf, hc, rfl⟩)
    · exact ⟨x, hx, by rw [if_neg (by rwa [Entry.isOf_iff])]⟩
    · exact ⟨e, he, by rw [if_pos (Entry.isOf_iff.2 ⟨hf, hc⟩)]⟩

theorem entriesInv_change {f : FaceId} {c : DemandClass} {g : Entry → Entry} {es : List Entry} (h : entriesInv es)
    (hk : ∀ e, (g e).face = e.face ∧ (g e).cls = e.cls)
    (hg : ∀ e ∈ es, e.face = f → e.cls = c → entryOk e → entryOk (g e)) : entriesInv (changeEntry f c g es) := by
  obtain ⟨hlen, hnd, hok⟩ := h
  refine ⟨by simpa [changeEntry] using hlen, ?_, fun x hx => ?_⟩
  · have : (changeEntry f c g es).map (fun e => (e.face, e.cls)) = es.map fun e => (e.face, e.cls) := by
      rw [changeEntry, List.map_map]
      refine List.map_congr_left fun e _ => ?_
      simp only [Function.comp_apply]
      split
      · rw [(hk e).1, (hk e).2]
      · rfl
    rw [this]
    exact hnd
  · rcases mem_changeEntry.1 hx with ⟨hx, _⟩ | ⟨e, he, hf, hc, rfl⟩
    · exact hok x hx
    · exact hg e he hf hc (hok e he)

theorem entriesInv_sublist {es fs : List Entry} (hs : fs.Sublist es) (h : entriesInv es) : entriesInv fs :=
  ⟨Nat.le_trans hs.length_le h.1, h.2.1.sublist (hs.map _), fun e he => h.2.2 e (hs.subset he)⟩

theorem entriesInv_add {es : List Entry} {e : Entry} (h : entriesInv es) (hroom : es.length < 8)
    (hnew : ∀ x ∈ es, ¬(x.face = e.face ∧ x.cls = e.cls)) (he : entryOk e) : entriesInv (es ++ [e]) := by
  obtain ⟨_, hnd, hok⟩ := h
  refine ⟨by simp only [List.length_append, List.length_singleton]; omega, ?_, fun x hx => ?_⟩
  · exact nodup_map_concat hnd fun x hx heq => hnew x hx (Prod.mk.injEq _ _ _ _ ▸ heq)
  · rcases List.mem_append.1 hx with hx | hx
    · exact hok x hx
    · rw [List.mem_singleton.1 hx]
      exact he

theorem Entry.merge_ok {o : Offer} {e : Entry} (h : entryOk e) : entryOk (e.merge o) := by
  obtain ⟨hd, hr, ha⟩ := h
  simp only [entryOk, Entry.merge, maxU16]
  omega

theorem Offer.entry_ok {o : Offer} {sec : Nat} (h : o.volume ≠ 0) : entryOk (o.entry sec) := by
  simp only [entryOk, Offer.entry, maxU16]
  omega

/-! ### The rotation order (R63) -/

/-- Four faces without a repeat are all the faces. -/
theorem mem_rotation {l : List FaceId} (hlen : l.length = 4) (hnd : l.Nodup) (f : FaceId) : f ∈ l := by
  match l, hlen with
  | [a, b, c, d], _ =>
    revert a b c d f
    decide

theorem rotation_kept {l : List FaceId} (hlen : l.length = 4) (hnd : l.Nodup) (f : FaceId) :
    (l.filter (fun g => decide (g ≠ f)) ++ [f]).length = 4 ∧ (l.filter (fun g => decide (g ≠ f)) ++ [f]).Nodup := by
  have he : l.filter (fun g => decide (g ≠ f)) = l.erase f := by
    rw [hnd.erase_eq_filter]
    refine List.filter_congr fun g _ => ?_
    by_cases h : g = f <;> simp [h]
  rw [he]
  refine ⟨?_, ?_⟩
  · rw [List.length_append, List.length_erase_of_mem (mem_rotation hlen hnd f), hlen]
    rfl
  · rw [List.nodup_append]
    refine ⟨hnd.erase f, List.pairwise_singleton _ f, fun a ha b hb heq => ?_⟩
    rw [List.mem_singleton.1 hb] at heq
    rw [heq] at ha
    exact hnd.not_mem_erase ha

/-! ### The spray record log (R93) -/

theorem logInv_iff (c : Cannon) :
    logInv c ↔ c.log.length ≤ 8 ∧ c.nextSerial < 256
      ∧ ∀ i (h : i < c.log.length), (c.log[i].serial + (c.log.length - i)) % 256 = c.nextSerial := by
  unfold logInv
  refine and_congr_right fun _ => and_congr_right fun _ => ⟨fun h i hi => ?_, fun h i r hr => ?_⟩
  · exact h i _ (List.getElem?_eq_getElem hi)
  · obtain ⟨hi, rfl⟩ := List.getElem?_eq_some_iff.1 hr
    exact h i hi

/-- The serials still follow one another after a record is added and the oldest of nine is dropped. -/
theorem Cannon.record_logInv {sec : Nat} {ch : Chain} {cause : Cause} {c : Cannon} (h : logInv c) :
    logInv (c.record sec ch cause) := by
  obtain ⟨hlen, hnext, hser⟩ := (logInv_iff c).1 h
  rw [logInv_iff]
  simp only [Cannon.record, List.length_drop, List.length_append, List.length_singleton]
  refine ⟨by omega, by omega, fun i hi => ?_⟩
  rw [List.getElem_drop]
  by_cases hl : c.log.length + 1 - 8 + i < c.log.length
  · rw [List.getElem_append_left hl]
    have := hser _ hl
    omega
  · rw [List.getElem_append_right (by omega), List.getElem_singleton]
    simp only
    omega

/-! ### The shape of the transmit queue (R153, R157, R160) -/

/-- What the limits of the transmit queue speak of: attempts and the mark of transmission, place by place. -/
def shapeOf (q : List TxFrame) : List (Nat × Bool) := q.map fun f => (f.attempts, f.inTx)

/-- The limits of the transmit queue on its shape. -/
def shapeInv (m : Mode) (a : Access) (q : List (Nat × Bool)) : Prop :=
  q.length ≤ 8 ∧ (m ≠ .run → q = []) ∧ (∀ x ∈ q, x.1 ≤ 7) ∧ (q.filter fun x => x.2).length ≤ 1
    ∧ (a ≠ .sending → q.filter (fun x => x.2) = [])

theorem lineInv_iff (s : State) : lineInv s ↔ shapeInv s.station.mode s.line.access (shapeOf s.line.queue) := by
  simp only [lineInv, shapeInv, shapeOf, List.length_map, List.map_eq_nil_iff, List.forall_mem_map, List.filter_map,
    Function.comp_def]

theorem shapeInv_sublist {m : Mode} {a b : Access} {q r : List (Nat × Bool)} (hs : r.Sublist q)
    (hab : b ≠ .sending → a ≠ .sending) (h : shapeInv m a q) : shapeInv m b r := by
  obtain ⟨hlen, hrun, hatt, htx, hsend⟩ := h
  refine ⟨Nat.le_trans hs.length_le hlen, fun hm => ?_, fun x hx => hatt x (hs.subset hx),
    Nat.le_trans (hs.filter _).length_le htx, fun hb => ?_⟩
  · rw [hrun hm] at hs
    exact List.eq_nil_of_sublist_nil hs
  · have := hs.filter (fun x => x.2)
    rw [hsend (hab hb)] at this
    exact List.eq_nil_of_sublist_nil this

theorem shapeInv_add {a b : Access} {q : List (Nat × Bool)} (hroom : q.length < 8)
    (hab : b ≠ .sending → a ≠ .sending) (h : shapeInv .run a q) : shapeInv .run b (q ++ [(0, false)]) := by
  obtain ⟨_, _, hatt, htx, hsend⟩ := h
  have hf : (q ++ [((0 : Nat), false)]).filter (fun x => x.2) = q.filter fun x => x.2 := by
    rw [List.filter_append]
    simp
  refine ⟨by simp only [List.length_append, List.length_singleton]; omega, fun hm => absurd rfl hm, fun x hx => ?_,
    by rwa [hf], fun hb => by rw [hf]; exact hsend (hab hb)⟩
  rcases List.mem_append.1 hx with hx | hx
  · exact hatt x hx
  · rw [List.mem_singleton.1 hx]
    exact Nat.zero_le _

theorem settleAccess_sending (l : Line) : l.settleAccess.access ≠ .sending ↔ l.access ≠ .sending := by
  unfold Line.settleAccess
  split
  · rfl
  · rfl
  · rename_i h _
    refine ⟨fun _ => h, fun _ => ?_⟩
    simp only
    split <;> exact nofun

theorem settleAccess_queue (l : Line) : l.settleAccess.queue = l.queue := by
  unfold Line.settleAccess
  split <;> rfl

theorem shapeOf_modify {q : List TxFrame} {i : Nat} {g : TxFrame → TxFrame}
    (hg : ∀ f, (g f).attempts = f.attempts ∧ (g f).inTx = f.inTx) : shapeOf (q.modify i g) = shapeOf q := by
  unfold shapeOf
  induction q generalizing i with
  | nil => simp
  | cons f q ih =>
    cases i with
    | zero => simp [hg]
    | succ i => simp [ih]

/-- An offer keeps the limits: it writes a content in its place, or it takes a free place, or that of a STATUS. -/
theorem offer_shapeInv {sec : Nat} {c : Content} {l : Line} (h : shapeInv .run l.access (shapeOf l.queue)) :
    shapeInv .run (l.offer sec c).1.access (shapeOf (l.offer sec c).1.queue) := by
  unfold Line.offer
  split
  · simp only
    rw [shapeOf_modify (g := TxFrame.replace c) fun _ => ⟨rfl, rfl⟩]
    exact h
  split
  · rename_i hroom
    simp only [settleAccess_queue]
    have := shapeInv_add (q := shapeOf l.queue) (by simpa [shapeOf] using hroom)
      (settleAccess_sending { l with queue := l.queue ++ [TxFrame.fresh sec c] }).1 h
    simpa [shapeOf, TxFrame.fresh] using this
  split
  · rename_i i _ hi
    have hlt : i < l.queue.length := (List.findIdx?_eq_some_iff_findIdx_eq.1 hi).1
    have hdrop : shapeInv .run l.access (shapeOf (l.queue.eraseIdx i)) :=
      shapeInv_sublist ((List.eraseIdx_sublist l.queue i).map _) id h
    have hlen : (shapeOf (l.queue.eraseIdx i)).length < 8 := by
      have := h.1
      simp only [shapeOf, List.length_map, List.length_eraseIdx, hlt, if_true] at this ⊢
      omega
    have := shapeInv_add hlen id hdrop
    simpa [shapeOf, TxFrame.fresh] using this
  · exact h

theorem withdraw_sublist (serial : Nat) (l : Line) : (shapeOf (l.withdraw serial).queue).Sublist (shapeOf l.queue) := by
  unfold Line.withdraw
  simp only [settleAccess_queue]
  have : shapeOf ((l.queue.filter fun f => !(f.isClaim serial) || f.inTx).map fun f =>
      if f.isClaim serial then { f with noRetry := true } else f)
      = shapeOf (l.queue.filter fun f => !(f.isClaim serial) || f.inTx) := by
    rw [shapeOf, List.map_map]
    refine List.map_congr_left fun f _ => ?_
    simp only [Function.comp_apply]
    split <;> rfl
  rw [this]
  exact List.filter_sublist.map _

theorem withdraw_access (serial : Nat) (l : Line) : (l.withdraw serial).access ≠ .sending ↔ l.access ≠ .sending :=
  settleAccess_sending _

/-! ### The three together -/

/-- What the operations of an arrival keep of the Spray Queue, of the log and of the transmit queue. -/
structure Kept (s t : State) : Prop where
  queue : queueInv s.queue → queueInv t.queue
  log : logInv s.cannon → logInv t.cannon
  line : lineInv s → lineInv t

theorem kept_refl (s : State) : Kept s s := ⟨id, id, id⟩

theorem kept_trans {s t u : State} (h : Kept s t) (k : Kept t u) : Kept s u :=
  ⟨k.queue ∘ h.queue, k.log ∘ h.log, k.line ∘ h.line⟩

theorem kept_ite {s t u : State} {p : Prop} [Decidable p] (ht : Kept s t) (hu : Kept s u) :
    Kept s (if p then t else u) := by
  split <;> assumption

theorem kept_foldl {α : Type} {g : State → α → State} (h : ∀ s a, Kept s (g s a)) (l : List α) (s : State) :
    Kept s (l.foldl g s) := by
  induction l generalizing s with
  | nil => exact kept_refl s
  | cons a l ih => exact kept_trans (h s a) (ih (g s a))

/-- What leaves the three, and the station state, alone. -/
theorem kept_of_only {fs : List Field} {s t : State} (h : onlyChanges fs s t)
    (hf : ∀ f ∈ [Field.queue, .cannon, .line, .station], f ∉ fs) : Kept s t := by
  have hq : t.queue = s.queue := h .queue (hf _ (by decide))
  have hc : t.cannon = s.cannon := h .cannon (hf _ (by decide))
  have hl : t.line = s.line := h .line (hf _ (by decide))
  have hm : t.station = s.station := h .station (hf _ (by decide))
  refine ⟨by rw [hq]; exact id, by rw [hc]; exact id, ?_⟩
  rw [lineInv_iff, lineInv_iff, hl, hm]
  exact id

theorem kept_onCannon (s : State) {g : Cannon → Cannon}
    (hg : (g s.cannon).log = s.cannon.log ∧ (g s.cannon).nextSerial = s.cannon.nextSerial) : Kept s (s.onCannon g) := by
  refine ⟨id, fun h => ?_, id⟩
  unfold logInv at *
  simpa [State.onCannon, hg.1, hg.2] using h

theorem kept_setQueue {s : State} {q : SprayQueue} (h : queueInv s.queue → queueInv q) : Kept s (s.setQueue q) :=
  ⟨h, id, id⟩

/-- A change of the holds, of the request or of the last removal. -/
theorem kept_setQueue_rest (s : State) {q : SprayQueue} (he : q.entries = s.queue.entries)
    (hr : q.rotation = s.queue.rotation) : Kept s (s.setQueue q) := by
  refine kept_setQueue fun h => ?_
  rw [queueInv_iff] at *
  rwa [he, hr]

theorem kept_setRequest (s : State) (b : Bool) : Kept s (s.setRequest b) := kept_setQueue_rest s rfl rfl

theorem kept_setEntries {s : State} {es : List Entry} (h : entriesInv s.queue.entries → entriesInv es) :
    Kept s (s.setEntries es) := by
  refine kept_setQueue fun hq => ?_
  rw [queueInv_iff] at *
  exact ⟨h hq.1, hq.2⟩

theorem kept_changeEntry (s : State) {f : FaceId} {c : DemandClass} {g : Entry → Entry}
    (hk : ∀ e, (g e).face = e.face ∧ (g e).cls = e.cls)
    (hg : entriesInv s.queue.entries →
      ∀ e ∈ s.queue.entries, e.face = f → e.cls = c → entryOk e → entryOk (g e)) :
    Kept s (s.setEntries (changeEntry f c g s.queue.entries)) :=
  kept_setEntries fun h => entriesInv_change h hk (hg h)

theorem kept_setLine {s : State} {l : Line}
    (h : lineInv s → shapeInv s.station.mode l.access (shapeOf l.queue)) : Kept s (s.setLine l) := by
  refine ⟨id, id, fun hs => ?_⟩
  rw [lineInv_iff]
  exact h hs

/-- A change of the line that leaves its queue and its access alone. -/
theorem kept_setLine_rest (s : State) {l : Line} (hq : l.queue = s.line.queue) (ha : l.access = s.line.access) :
    Kept s (s.setLine l) := by
  refine kept_setLine fun hs => ?_
  rw [hq, ha]
  exact (lineInv_iff s).1 hs

theorem lineOffer_kept (c : Content) (s : State) : Kept s (lineOffer c s).1 := by
  unfold lineOffer
  split
  · rename_i hr
    have hm : s.station.mode = .run := of_decide_eq_true hr
    refine kept_setLine fun hs => ?_
    rw [lineInv_iff, hm] at hs
    rw [hm]
    exact offer_shapeInv hs
  · exact kept_refl s

theorem setClaim_kept (s : State) (v : ClaimUnit) : Kept s (s.setClaim v) :=
  kept_of_only (setClaim_only s v) (by decide)

theorem setPeerEntries_kept (s : State) (ps : List Peer) : Kept s (s.setPeerEntries ps) :=
  kept_of_only (setPeerEntries_only s ps) (by decide)

theorem onDust_kept (s : State) (g : Dust → Dust) : Kept s (s.onDust g) := kept_of_only (onDust_only s g) (by decide)

theorem changeRecord_kept (f : FaceId) (g : FaceRecord → FaceRecord) (s : State) : Kept s (changeRecord f g s) :=
  kept_of_only (changeRecord_only f g s) (by decide)

theorem drawFree_kept (s : State) : Kept s s.drawFree := kept_of_only (setFree_only s _) (by decide)

/-! ### The claim -/

theorem announceClaim_kept (s : State) : Kept s (announceClaim s) :=
  kept_trans (lineOffer_kept _ s) (setClaim_kept _ _)

theorem takeDecision_kept (d : Decision) (s : State) : Kept s (takeDecision d s) :=
  kept_ite (setClaim_kept s _) (kept_trans (setClaim_kept s _) (announceClaim_kept _))

theorem askClaim_kept (c : DemandClass) (b : Nat) (s : State) : Kept s (askClaim c b s) :=
  kept_ite (kept_trans (setClaim_kept s _) (announceClaim_kept _)) (kept_refl s)

theorem withdrawClaim_kept (s : State) : Kept s (withdrawClaim s) := by
  have hw : Kept s (s.setLine (s.line.withdraw (s.claim.own.serial.getD 0))) := by
    refine kept_setLine fun hs => ?_
    exact shapeInv_sublist (withdraw_sublist _ s.line) (withdraw_access _ s.line).1 ((lineInv_iff s).1 hs)
  exact kept_ite (kept_trans hw (lineOffer_kept _ _)) hw

theorem releaseClaim_kept (s : State) : Kept s (releaseClaim s) :=
  kept_ite (kept_refl s) (kept_trans (withdrawClaim_kept s) (setClaim_kept _ _))

/-! ### The Spray Queue -/

theorem recordPrewet_kept (r : RemovalReason) (e : Entry) (s : State) : Kept s (recordPrewet r e s) :=
  kept_of_only (recordPrewet_only r e s) (by decide)

theorem removeEntry_kept (r : RemovalReason) (e : Entry) (s : State) : Kept s (removeEntry r e s) := by
  refine kept_trans (kept_setQueue fun h => ?_) (recordPrewet_kept r e _)
  rw [queueInv_iff] at *
  exact ⟨entriesInv_sublist List.filter_sublist h.1, h.2⟩

theorem removeEntry_queue (r : RemovalReason) (e : Entry) (s : State) :
    (removeEntry r e s).queue.entries = dropEntry e.face e.cls s.queue.entries := by
  have := recordPrewet_only r e (s.setQueue
      { s.queue with
        entries := dropEntry e.face e.cls s.queue.entries
        lastRemoval :=
          some
            { face := e.face, cls := e.cls, origin := e.origin, requested := e.requested, delivered := e.delivered
              deadline := e.deadline, time := s.sec, reason := r } }) .queue (by decide)
  exact congrArg SprayQueue.entries this

theorem addEntry_kept {o : Offer} {s : State} (hv : o.volume ≠ 0) (hroom : s.queue.entries.length < 8)
    (hnew : ∀ e ∈ s.queue.entries, ¬(e.face = o.face ∧ e.cls = o.cls)) : Kept s (addEntry o s) :=
  kept_setEntries fun h => entriesInv_add h hroom hnew (Offer.entry_ok hv)

theorem latestWaiting_mem {rank : Nat} {es : List Entry} {e : Entry} (h : latestWaiting rank es = some e) :
    e ∈ es ∧ e.cls.rank = rank ∧ e.running = false := by
  have hm := List.mem_of_getLast? h
  simp only [List.mem_filter, Bool.and_eq_true, beq_iff_eq, Bool.not_eq_true'] at hm
  exact ⟨hm.1, hm.2.1, hm.2.2⟩

theorem dropEntry_length {e : Entry} {es : List Entry} (h : e ∈ es) :
    (dropEntry e.face e.cls es).length < es.length := by
  refine List.length_filter_lt_length_iff_exists.2 ⟨e, h, ?_⟩
  simp [Entry.isOf_self]

/-- An entry leaves to make room for an offer. -/
theorem evict_kept {o : Offer} {e : Entry} {s : State} (hv : o.volume ≠ 0) (he : e ∈ s.queue.entries)
    (hnew : ∀ x ∈ s.queue.entries, ¬(x.face = o.face ∧ x.cls = o.cls)) :
    Kept s (addEntry o (removeEntry .evicted e s)) := by
  have hr := removeEntry_kept .evicted e s
  refine ⟨fun h => ?_, hr.log, hr.line⟩
  have hlen : s.queue.entries.length ≤ 8 := ((queueInv_iff _).1 h).1.1
  refine (addEntry_kept hv ?_ ?_).queue (hr.queue h) <;> rw [removeEntry_queue]
  · exact Nat.lt_of_lt_of_le (dropEntry_length he) hlen
  · exact fun x hx => hnew x ((List.mem_filter.1 hx).1)

theorem admitOffer_kept (o : Offer) (s : State) : Kept s (admitOffer o s).1 := by
  unfold admitOffer
  split
  · exact kept_refl s
  rename_i ht
  have hv : o.volume ≠ 0 := by
    simp only [State.takesOffer, Bool.not_eq_true, Bool.not_eq_false', Bool.and_eq_true, bne_iff_ne] at ht
    exact ht.2
  split
  · exact kept_changeEntry s (fun _ => ⟨rfl, rfl⟩) fun _ _ _ _ _ => Entry.merge_ok
  rename_i hn
  have hnew := findEntry_isNone.1 (Bool.not_eq_true _ ▸ hn)
  split
  · exact addEntry_kept hv ‹_› hnew
  split
  · split
    · rename_i hl
      exact evict_kept hv (latestWaiting_mem hl).1 hnew
    · exact kept_refl s
  · exact kept_refl s

theorem passDeadline_kept (e : Entry) (s : State) : Kept s (passDeadline e s) :=
  kept_ite (kept_changeEntry s (fun _ => ⟨rfl, rfl⟩) fun _ _ _ _ _ => id) (removeEntry_kept _ _ s)

theorem passDeadlines_kept (s : State) : Kept s (passDeadlines s) := kept_foldl (fun s e => passDeadline_kept e s) _ s

theorem stopRunning_kept (f : FaceId) (c : DemandClass) (s : State) : Kept s (stopRunning f c s) :=
  kept_changeEntry s (fun _ => ⟨rfl, rfl⟩) fun _ _ _ _ _ => id

theorem holdFace_kept (f : FaceId) (s : State) : Kept s (holdFace f s) := kept_setQueue_rest s rfl rfl

theorem countAttempt_kept (f : FaceId) (c : DemandClass) (s : State) : Kept s (countAttempt f c s) := by
  unfold countAttempt
  split
  · rename_i e he
    split
    · exact kept_trans (removeEntry_kept _ _ s) (holdFace_kept _ _)
    · rename_i hlt
      refine kept_changeEntry s (fun _ => ⟨rfl, rfl⟩) fun hinv x hx hf hc ⟨h1, h2, _⟩ => ⟨h1, h2, ?_⟩
      obtain ⟨hm, hef, hec⟩ := findEntry_some he
      rw [entry_unique hinv hx hm (hf.trans hef.symm) (hc.trans hec.symm)]
      simp only
      omega
  · exact kept_refl s

theorem dropReached_kept (f : FaceId) (c : DemandClass) (s : State) : Kept s (dropReached f c s) := by
  unfold dropReached
  split
  · exact kept_ite (removeEntry_kept _ _ s) (kept_refl s)
  · exact kept_refl s

theorem endEntry_kept (ch : Chain) (c : Cause) (s : State) : Kept s (endEntry ch c s) := by
  unfold endEntry
  split
  · exact kept_trans (stopRunning_kept _ _ s)
      (kept_trans (kept_ite (countAttempt_kept _ _ _) (kept_refl _)) (dropReached_kept _ _ _))
  · exact kept_refl s

/-- The entries after one entry of the completion reduction: it left, or it asks for less. -/
theorem reduceEntry_entries (n : Nat) (s : State) (e : Entry) :
    (reduceEntry n s e).queue.entries =
      if e.requested ≤ e.delivered + n then dropEntry e.face e.cls s.queue.entries
      else changeEntry e.face e.cls (fun e => { e with requested := e.requested - n }) s.queue.entries := by
  unfold reduceEntry
  split
  · split
    · exact removeEntry_queue _ _ s
    · exact removeEntry_queue _ _ s
  · rfl

theorem reduceEntry_kept {n : Nat} {s : State} {e : Entry} (he : e ∈ s.queue.entries) : Kept s (reduceEntry n s e) := by
  unfold reduceEntry
  split
  · exact kept_ite (removeEntry_kept _ _ s) (kept_trans (removeEntry_kept _ _ s) (drawFree_kept _))
  · rename_i hlt
    refine kept_changeEntry s (fun _ => ⟨rfl, rfl⟩) fun hinv x hx hf hc ⟨h1, h2, h3⟩ => ?_
    rw [entry_unique hinv hx he hf hc] at *
    simp only [entryOk]
    omega

/-- The reduction goes through entries of different faces or classes, so each is still there when its turn comes. -/
theorem reduceEntries_kept (n : Nat) (l : List Entry) (s : State)
    (hnd : (l.map fun e => (e.face, e.cls)).Nodup) (hl : ∀ e ∈ l, e ∈ s.queue.entries) :
    Kept s (l.foldl (reduceEntry n) s) := by
  induction l generalizing s with
  | nil => exact kept_refl s
  | cons e l ih =>
    rw [List.map_cons, List.nodup_cons] at hnd
    refine kept_trans (reduceEntry_kept (hl e List.mem_cons_self)) (ih _ hnd.2 fun x hx => ?_)
    have hxs := hl x (List.mem_cons_of_mem _ hx)
    have hne : ¬(x.face = e.face ∧ x.cls = e.cls) := fun h =>
      hnd.1 (List.mem_map.2 ⟨x, hx, Prod.ext h.1 h.2⟩)
    rw [reduceEntry_entries]
    split
    · refine List.mem_filter.2 ⟨hxs, ?_⟩
      rwa [Bool.not_eq_true', Bool.eq_false_iff, ne_eq, Entry.isOf_iff]
    · exact mem_changeEntry.2 (.inl ⟨hxs, hne⟩)

theorem completionReduction_kept (f : FaceId) (c : DemandClass) (n : Nat) (s : State) :
    Kept s (completionReduction f c n s) := by
  have h := completionReduction_only f c n s
  have hc : (completionReduction f c n s).cannon = s.cannon := h .cannon (by decide)
  have hl : (completionReduction f c n s).line = s.line := h .line (by decide)
  have hm : (completionReduction f c n s).station = s.station := h .station (by decide)
  refine ⟨fun hq => ?_, by rw [hc]; exact id, by rw [lineInv_iff, lineInv_iff, hl, hm]; exact id⟩
  unfold completionReduction
  split
  · exact hq
  · have hnd := ((queueInv_iff _).1 hq).1.2.1
    exact (reduceEntries_kept n _ s (hnd.sublist (List.filter_sublist.map _))
      fun e he => (List.mem_filter.1 he).1).queue hq

theorem rotate_kept (f : FaceId) (s : State) : Kept s (rotate f s) := by
  refine kept_setQueue fun h => ?_
  obtain ⟨he, hlen, hnd⟩ := (queueInv_iff _).1 h
  exact (queueInv_iff _).2 ⟨he, rotation_kept hlen hnd f⟩

theorem queueChainEnd_kept (ch : Chain) (c : Cause) (s : State) : Kept s (queueChainEnd ch c s) :=
  kept_trans (endEntry_kept ch c s) (kept_trans (completionReduction_kept _ _ _ _) (rotate_kept _ _))

theorem chargeEntry_kept (ch : Chain) (s : State) : Kept s (chargeEntry ch s) := by
  unfold chargeEntry
  split
  · rename_i e he
    split
    · exact removeEntry_kept _ _ s
    · rename_i hlt
      obtain ⟨hm, hef, hec, _⟩ := runningEntry_some he
      refine kept_changeEntry s (fun _ => ⟨rfl, rfl⟩) fun hinv x hx hf hc ⟨h1, h2, h3⟩ => ?_
      rw [entry_unique hinv hx hm (hf.trans hef.symm) (hc.trans hec.symm)] at *
      simp only [entryOk]
      omega
  · exact kept_refl s

/-! ### The Cannon Controller -/

theorem enterClaiming_kept (ch : Chain) (s : State) : Kept s (enterClaiming ch s) :=
  kept_ite (kept_onCannon s ⟨rfl, rfl⟩) (kept_trans (kept_onCannon s ⟨rfl, rfl⟩) (askClaim_kept _ _ _))

theorem enterSlewing_kept (ch : Chain) (s : State) : Kept s (enterSlewing ch s) :=
  kept_ite (enterClaiming_kept ch s) (kept_trans (kept_onCannon s ⟨rfl, rfl⟩) (drawFree_kept _))

theorem enterPriming_kept (s : State) : Kept s (enterPriming s) := kept_onCannon s ⟨rfl, rfl⟩

theorem startChain_kept (e : Entry) (s : State) : Kept s (startChain e s) := by
  have h : ∀ ch : Chain, Kept s
      (((s.setRequest false).setEntries
        (changeEntry e.face e.cls (fun e => { e with running := true }) s.queue.entries)).onCannon fun c =>
          { c with chain := some ch, chargeFace := some e.face, standby := .stopped }) := fun ch =>
    kept_trans (kept_setRequest s _)
      (kept_trans
        (kept_changeEntry (s.setRequest false) (g := fun e => { e with running := true }) (fun _ => ⟨rfl, rfl⟩)
          fun _ _ _ _ _ => id)
        (kept_onCannon _ ⟨rfl, rfl⟩))
  unfold startChain
  simp only
  split
  · exact kept_ite (kept_trans (h _) (enterSlewing_kept _ _)) (kept_trans (h _) (enterPriming_kept _))
  · exact kept_trans (h _) (enterPriming_kept _)
  · exact h _

theorem trySelection_kept (s : State) : Kept s (trySelection s) := by
  unfold trySelection
  refine kept_ite ?_ (kept_refl s)
  split
  · exact startChain_kept _ s
  · exact kept_refl s

theorem openRequest_kept (s : State) : Kept s (openRequest s) :=
  kept_ite (kept_refl s) (kept_trans (kept_setRequest s _) (trySelection_kept _))

theorem parkCannon_kept (s : State) : Kept s (parkCannon s) := kept_onCannon s ⟨rfl, rfl⟩

theorem enterParked_kept (s : State) : Kept s (enterParked s) := kept_trans (parkCannon_kept s) (openRequest_kept _)

theorem lockCannon_kept (s : State) : Kept s (lockCannon s) :=
  kept_trans (kept_setRequest s _) (kept_onCannon _ ⟨rfl, rfl⟩)

theorem abandonPriming_kept (s : State) : Kept s (abandonPriming s) :=
  kept_trans (kept_onCannon s ⟨rfl, rfl⟩) (lockCannon_kept _)

theorem drainCannon_kept (s : State) : Kept s (drainCannon s) := kept_onCannon s ⟨rfl, rfl⟩

theorem faultCannon_kept (s : State) : Kept s (faultCannon s) :=
  kept_trans (kept_setRequest s _) (kept_onCannon _ ⟨rfl, rfl⟩)

theorem endClaim_kept (c : Cause) (s : State) : Kept s (endClaim c s) := by
  unfold endClaim
  split
  · exact setClaim_kept s _
  · exact setClaim_kept s _
  · exact releaseClaim_kept s

theorem afterChain_kept (c : Cause) (ch : Chain) (s : State) : Kept s (afterChain c ch s) := by
  have hd : ∀ b, Kept s (drainCannon (s.setRequest b)) := fun b =>
    kept_trans (kept_setRequest s b) (drainCannon_kept _)
  unfold afterChain
  split
  · split
    · exact hd _
    · exact kept_ite (hd _) (lockCannon_kept s)
    · exact lockCannon_kept s
    · exact abandonPriming_kept s
    · exact kept_setRequest s _
  · exact faultCannon_kept s
  · exact kept_ite
      (kept_trans (kept_onCannon s ⟨rfl, rfl⟩) (kept_trans (parkCannon_kept _) (kept_setRequest _ _)))
      (faultCannon_kept s)
  · exact kept_setRequest s _
  · split
    · exact kept_setRequest s _
    · exact kept_setRequest s _
    · exact kept_ite (hd _) (kept_trans (parkCannon_kept s) (kept_setRequest _ _))

theorem recordChain_kept (sec : Nat) (ch : Chain) (cause : Cause) (s : State) :
    Kept s (s.onCannon fun c => { c.record sec ch cause with chain := none }) :=
  ⟨id, fun h => Cannon.record_logInv (sec := sec) (ch := ch) (cause := cause) h, id⟩

theorem chainEnd_kept (c : Cause) (s : State) : Kept s (chainEnd c s) := by
  unfold chainEnd
  split
  · exact kept_refl s
  · refine kept_trans ?_ (trySelection_kept _)
    refine kept_trans ?_ (queueChainEnd_kept _ c _)
    refine kept_trans ?_ (afterChain_kept c _ _)
    refine kept_trans ?_ (recordChain_kept _ _ _ _)
    refine kept_trans ?_ (endClaim_kept c _)
    exact kept_onCannon s ⟨rfl, rfl⟩

theorem preempt_kept (o : Offer) (s : State) : Kept s (preempt o s) := by
  unfold preempt
  split
  · exact kept_ite (chainEnd_kept _ s) (kept_refl s)
  · exact kept_refl s

theorem passOffered_kept (o : Offer) (s : State) : Kept s (passOffered o s) := by
  unfold passOffered
  split
  · exact passDeadline_kept _ s
  · exact kept_refl s

/-- An offer taken whole is its admission, and for one that is merged or added what follows it. -/
theorem offerDemand_cases (o : Offer) (s : State) :
    (((admitOffer o s).2 = .merged ∨ (admitOffer o s).2 = .added)
        ∧ offerDemand o s = (trySelection (preempt o (passOffered o (admitOffer o s).1)), (admitOffer o s).2))
      ∨ (((admitOffer o s).2 = .invalid ∨ (admitOffer o s).2 = .full) ∧ offerDemand o s = admitOffer o s) := by
  unfold offerDemand
  split
  · rename_i h
    rw [h]
    exact .inl ⟨.inl rfl, rfl⟩
  · rename_i h
    rw [h]
    exact .inl ⟨.inr rfl, rfl⟩
  · rename_i h1 h2
    refine .inr ⟨?_, rfl⟩
    cases ha : (admitOffer o s).2 with
    | merged => exact (h1 (admitOffer o s).1 (Prod.ext rfl ha)).elim
    | added => exact (h2 (admitOffer o s).1 (Prod.ext rfl ha)).elim
    | invalid => exact .inl rfl
    | full => exact .inr rfl

theorem offerDemand_kept (o : Offer) (s : State) : Kept s (offerDemand o s).1 := by
  rcases offerDemand_cases o s with ⟨_, h⟩ | ⟨_, h⟩ <;> rw [h]
  · exact kept_trans (admitOffer_kept o s)
      (kept_trans (passOffered_kept o _) (kept_trans (preempt_kept o _) (trySelection_kept _)))
  · exact admitOffer_kept o s

theorem enterSpraying_kept (t : Nat) (s : State) : Kept s (enterSpraying t s) := by
  unfold enterSpraying
  split
  · exact kept_trans (kept_onCannon s ⟨rfl, rfl⟩) (setClaim_kept _ _)
  · exact kept_refl s

theorem Cannon.applyOnTime_log (now t : Nat) (c : Cannon) :
    (c.applyOnTime now t).log = c.log ∧ (c.applyOnTime now t).nextSerial = c.nextSerial := by
  unfold Cannon.applyOnTime
  split
  · split <;> exact ⟨rfl, rfl⟩
  · exact ⟨rfl, rfl⟩

theorem changeOnTime_kept (t : Nat) (s : State) : Kept s (changeOnTime t s) :=
  kept_ite (kept_onCannon s (Cannon.applyOnTime_log _ _ _)) (kept_refl s)

theorem settleDecision_kept (d : Decision) (s : State) : Kept s (settleDecision d s) := by
  unfold settleDecision
  split
  · exact kept_trans (takeDecision_kept d s) (enterSpraying_kept _ _)
  · exact takeDecision_kept d s

theorem recompute_kept (s : State) : Kept s (recompute s) := by
  unfold recompute
  split
  · exact kept_refl s
  · exact kept_refl s
  · exact kept_ite (kept_refl s) (settleDecision_kept _ s)
  · split
    · exact kept_trans (takeDecision_kept _ s) (changeOnTime_kept _ _)
    · exact chainEnd_kept _ s

theorem gatingEffects_kept (g : Gate) (s : State) : Kept s (gatingEffects g s) := by
  unfold gatingEffects
  refine kept_ite (kept_refl s) (kept_trans (trySelection_kept s) ?_)
  simp only
  split
  · exact kept_ite (kept_refl _) (chainEnd_kept _ _)
  · exact kept_refl _

theorem respondToLock_kept (s : State) : Kept s (respondToLock s) := by
  unfold respondToLock
  split
  · exact lockCannon_kept s
  · exact lockCannon_kept s
  · exact kept_ite (chainEnd_kept _ s) (abandonPriming_kept s)
  · exact kept_ite (chainEnd_kept _ s) (kept_setRequest s _)
  · exact kept_refl s
  · exact kept_refl s
  · exact chainEnd_kept _ s

theorem parkOrLock_kept (s : State) : Kept s (parkOrLock s) := kept_ite (lockCannon_kept s) (enterParked_kept s)

theorem completeSegment_kept (ch : Chain) (s : State) : Kept s (completeSegment ch s) :=
  kept_ite
    (kept_trans (kept_onCannon s ⟨rfl, rfl⟩) (kept_trans (releaseClaim_kept _) (enterClaiming_kept _ _)))
    (kept_trans (kept_onCannon s ⟨rfl, rfl⟩) (chainEnd_kept _ _))

theorem Cannon.restartWatch_log (now n : Nat) (c : Cannon) :
    (c.restartWatch now n).log = c.log ∧ (c.restartWatch now n).nextSerial = c.nextSerial := by
  unfold Cannon.restartWatch
  split <;> exact ⟨rfl, rfl⟩

theorem chargeChain_kept (s : State) : Kept s (chargeChain s) := by
  unfold chargeChain
  split
  · refine kept_ite ?_ (kept_refl s)
    have h : ∀ ch : Chain, Kept s ((chargeEntry ch s).onCannon fun c =>
        { c.restartWatch s.now s.cfg.noFlowTime with chain := some ch.addLitre }) := fun ch =>
      kept_trans (chargeEntry_kept ch s) (kept_onCannon _ (Cannon.restartWatch_log _ _ _))
    exact kept_ite (kept_trans (h _) (completeSegment_kept _ _)) (h _)
  · exact kept_refl s

/-! ### The Face Model Unit and the Look-Ahead Unit -/

theorem offerSuppress_kept (f : FaceId) (v : Nat) (s : State) : Kept s (offerSuppress f v s) := by
  have ho := offerDemand_kept { face := f, cls := .suppress, volume := v, origin := .localRisk, deadline := none } s
  unfold offerSuppress
  split
  · refine kept_trans ?_ (changeRecord_kept _ _ _)
    refine kept_changeEntry s (fun _ => ⟨rfl, rfl⟩) fun _ e _ _ _ ⟨h1, h2, h3⟩ => ?_
    simp only [entryOk, maxU16]
    omega
  · split <;> rename_i h <;> rw [h] at ho <;> exact kept_trans ho (changeRecord_kept _ _ _)

theorem recordSizing_kept (f : FaceId) (v : Option Nat) (o : SizingOutcome) (s : State) :
    Kept s (recordSizing f v o s) := changeRecord_kept f _ s

theorem withdrawSuppress_kept (f : FaceId) (s : State) : Kept s (withdrawSuppress f s) := by
  unfold withdrawSuppress
  split
  · exact kept_ite (kept_trans (recordSizing_kept _ _ _ s) (drawFree_kept _))
      (kept_trans (removeEntry_kept _ _ s) (recordSizing_kept _ _ _ _))
  · exact recordSizing_kept _ _ _ s

theorem stepSuppress_kept (f : FaceId) (r : FaceRecord) (s : State) : Kept s (stepSuppress f r s) := by
  unfold stepSuppress
  split
  · exact kept_ite (recordSizing_kept _ _ _ s) (offerSuppress_kept _ _ s)
  · exact recordSizing_kept _ _ _ s
  · exact withdrawSuppress_kept f s

theorem evaluateFace_kept (s : State) (f : FaceId) : Kept s (evaluateFace s f) := by
  unfold evaluateFace
  split
  · exact kept_trans (changeRecord_kept _ _ s)
      (kept_trans (kept_of_only (setAccount_only _ _) (by decide)) (stepSuppress_kept _ _ _))
  · exact kept_refl s

theorem offerPrewet_kept (f : FaceId) (v d : Nat) (s : State) : Kept s (offerPrewet f v d s).1 := by
  have ho := offerDemand_kept { face := f, cls := .prewet, volume := v, origin := .lookahead, deadline := some d } s
  unfold offerPrewet
  split
  · exact kept_refl s
  · split <;> rename_i h <;> rw [h] at ho <;> exact ho

theorem writeSummary_kept (f : FaceId) (y : Summary) (s : State) : Kept s (writeSummary f y s) :=
  kept_of_only (setLook_only s _) (by decide)

theorem lookAheadFace_kept (s : State) (f : FaceId) : Kept s (lookAheadFace s f) := by
  unfold lookAheadFace
  split
  · exact kept_refl s
  simp only
  split
  · exact writeSummary_kept _ _ s
  split
  · exact writeSummary_kept _ _ s
  · exact kept_trans (offerPrewet_kept _ _ _ s) (writeSummary_kept _ _ _)

theorem takeEvaluation_kept (s : State) : Kept s (takeEvaluation s) :=
  kept_ite
    (kept_trans (kept_of_only (setFace_only s _) (by decide))
      (kept_trans (kept_foldl evaluateFace_kept _ _)
        (kept_ite (kept_refl _) (kept_foldl lookAheadFace_kept _ _))))
    (kept_refl s)

/-! ### The Dust Watch Unit -/

theorem offerKnockdowns_kept (theta node : Nat) (p : State × Nat) (f : FaceId) :
    Kept p.1 (offerKnockdowns theta node p f).1 := by
  unfold offerKnockdowns
  split
  · split
    · have ho := offerDemand_kept
        { face := f, cls := .knockdown, volume := p.1.cfg.vKnock, origin := .peerNotice node, deadline := none } p.1
      split <;> rename_i h <;> rw [h] at ho <;> exact ho
    · exact kept_refl _
  · exact kept_refl _

theorem formAnswer_kept (theta node : Nat) (s : State) : Kept s (formAnswer theta node s).1 := by
  have hfold : ∀ (l : List FaceId) (p : State × Nat), Kept p.1 (l.foldl (offerKnockdowns theta node) p).1 := by
    intro l
    induction l with
    | nil => exact fun p => kept_refl p.1
    | cons f l ih => exact fun p => kept_trans (offerKnockdowns_kept theta node p f) (ih _)
  unfold formAnswer
  split
  · exact kept_refl s
  split
  · exact kept_refl s
  split
  · exact kept_refl s
  · exact hfold allFaces (s, 0)

theorem sendAnswer_kept (a : PendingAnswer) (s : State) : Kept s (sendAnswer a s) := by
  unfold sendAnswer
  exact kept_trans (lineOffer_kept _ s) (onDust_kept _ _)

theorem announceNotice_kept (s : State) : Kept s (announceNotice s) := by
  unfold announceNotice
  exact kept_trans (lineOffer_kept _ s) (onDust_kept _ _)

theorem retryAnswer_kept (s : State) (a : PendingAnswer) : Kept s (retryAnswer s a) :=
  kept_ite (kept_trans (lineOffer_kept _ s) (onDust_kept _ _)) (lineOffer_kept _ s)

theorem retryNotice_kept (s : State) : Kept s (retryNotice s) := kept_ite (announceNotice_kept s) (kept_refl s)

theorem retryAnswers_kept (s : State) : Kept s (retryAnswers s) :=
  kept_ite (kept_foldl retryAnswer_kept _ s) (kept_refl s)

theorem retryDust_kept (s : State) : Kept s (retryDust s) := kept_trans (retryNotice_kept s) (retryAnswers_kept _)

theorem selfTest_kept (s : State) : Kept s (selfTest s) := kept_trans (formAnswer_kept _ _ s) (onDust_kept _ _)

theorem startNotice_kept (s : State) : Kept s (startNotice s) := by
  unfold startNotice
  exact kept_trans (onDust_kept s _) (kept_trans (selfTest_kept _) (kept_trans (announceNotice_kept _) (onDust_kept _ _)))

theorem returnToExceed_kept (s : State) : Kept s (returnToExceed s) := by
  unfold returnToExceed
  exact kept_trans (onDust_kept s _) (kept_trans (selfTest_kept _) (kept_trans (announceNotice_kept _) (onDust_kept _ _)))

theorem applyMean_kept (m : Nat) (s : State) : Kept s (applyMean m s) := by
  unfold applyMean
  simp only
  split
  · exact kept_ite (onDust_kept s _) (kept_refl s)
  · exact kept_ite (returnToExceed_kept s) (kept_ite (onDust_kept s _) (kept_refl s))
  · exact kept_ite (kept_trans (onDust_kept s _) (startNotice_kept _)) (onDust_kept s _)

theorem takeReading_kept (v : Nat) (s : State) : Kept s (takeReading v s) :=
  kept_ite (kept_trans (onDust_kept s _) (kept_trans (onDust_kept _ _) (applyMean_kept _ _))) (onDust_kept s _)

theorem takeDustReading_kept (v : Int) (s : State) : Kept s (takeDustReading v s) := by
  unfold takeDustReading
  refine kept_ite ?_ (kept_refl s)
  exact kept_trans (takeReading_kept _ s)
    (kept_trans (kept_ite (retryNotice_kept _) (kept_refl _)) (retryAnswers_kept _))

end Sys2Proof.Machine
end

section
/-! PROOFS. What every step keeps: the Spray Queue (R54, R61, R63), the transmit queue (R149, R153, R157, R160), and the
records (R3, R13, R14, R93, R110). -/

namespace Sys2Proof.Machine

/-! ### The line and the close of an arrival -/

theorem offerStatus_kept (s : State) : Kept s (offerStatus s) := by
  unfold offerStatus
  exact kept_ite (kept_trans (lineOffer_kept _ s) (kept_setLine_rest _ rfl rfl))
    (kept_trans (lineOffer_kept _ s) (kept_setLine_rest _ rfl rfl))

theorem closeStatus_kept (s0 s : State) : Kept s (closeStatus s0 s) := by
  have hc : ∀ s : State, Kept s (clearLeft s) := fun s => kept_setLine_rest s rfl rfl
  have ho : ∀ s : State, Kept s (statusOnChange s) := fun s =>
    kept_ite (kept_setLine_rest s rfl rfl) (offerStatus_kept s)
  have hr : ∀ s : State, Kept s (statusRetry s) := fun s => kept_ite (offerStatus_kept s) (kept_refl s)
  exact kept_ite (kept_trans (kept_ite (kept_refl s) (ho s)) (kept_trans (hr _) (hc _))) (hc s)

theorem closeArrival_kept (s0 s : State) : Kept s (closeArrival s0 s) :=
  kept_trans (kept_of_only (syncAlarms_only s) (by decide)) (closeStatus_kept s0 _)

theorem kept_onLine_rest (s : State) {g : Line → Line} (hq : (g s.line).queue = s.line.queue)
    (ha : (g s.line).access = s.line.access) : Kept s (s.onLine g) := kept_setLine_rest s hq ha

theorem frameEnds_kept (s : State) : Kept s (frameEnds s) := kept_onLine_rest s rfl rfl

theorem hearFrame_kept (s : State) : Kept s (hearFrame s) := kept_ite (kept_onLine_rest s rfl rfl) (kept_refl s)

theorem map_modify_comm {α β : Type} {f : α → β} {g : α → α} {g' : β → β} (h : ∀ x, f (g x) = g' (f x)) {i : Nat}
    {q : List α} : (q.modify i g).map f = (q.map f).modify i g' := by
  induction q generalizing i with
  | nil => simp
  | cons x q ih =>
    cases i with
    | zero => simp [h]
    | succ i => simp [ih]

/-- Where no place is marked, one marked place makes one. -/
theorem filter_modify_mark {q : List (Nat × Bool)} {i : Nat} (h : q.filter (fun x => x.2) = []) :
    ((q.modify i fun x => (x.1, true)).filter fun x => x.2).length ≤ 1 := by
  induction q generalizing i with
  | nil => simp
  | cons x q ih =>
    have hq : q.filter (fun x => x.2) = [] :=
      List.eq_nil_of_sublist_nil (h ▸ (List.sublist_cons_self x q).filter _)
    have hx : x.2 = false := by
      refine Bool.eq_false_iff.2 fun hx => ?_
      simp [hx] at h
    cases i with
    | zero => simp [hq]
    | succ i =>
      rw [List.modify_succ_cons, List.filter_cons_of_neg (by simp [hx])]
      exact ih hq

/-- The frame that starts is the only one in transmission (R157). -/
theorem takeAccessGap_kept (s : State) : Kept s (takeAccessGap s) := by
  unfold takeAccessGap
  split
  case isFalse => exact kept_refl s
  rename_i hg
  refine kept_setLine fun hs => ?_
  rw [lineInv_iff] at hs
  have hwait : s.line.access ≠ .sending := by
    rw [Bool.and_eq_true] at hg
    intro ha
    simp [Line.gapDue, ha] at hg
  unfold Line.startHead
  split
  case h_2 => exact hs
  rename_i i _
  obtain ⟨hlen, hrun, hatt, _, hsend⟩ := hs
  have hnone := hsend hwait
  have hshape : shapeOf (modifyAt s.line.queue i fun f => { f with inTx := true })
      = (shapeOf s.line.queue).modify i fun x => (x.1, true) := by
    unfold modifyAt shapeOf
    exact map_modify_comm (f := fun f : TxFrame => (f.attempts, f.inTx)) (g := fun f => { f with inTx := true })
      (g' := fun x => (x.1, true)) fun _ => rfl
  simp only [hshape]
  refine ⟨by simpa using hlen, fun hm => by simp [hrun hm], fun x hx => ?_, filter_modify_mark hnone,
    fun h => absurd rfl h⟩
  rw [List.mem_iff_getElem?] at hx
  obtain ⟨j, hj⟩ := hx
  rw [List.getElem?_modify] at hj
  obtain ⟨y, hy, rfl⟩ := Option.map_eq_some_iff.1 hj
  have := hatt y (List.mem_iff_getElem?.2 ⟨j, hy⟩)
  split <;> exact this

/-- The frame in transmission leaves, and no other is in transmission. -/
theorem filter_eraseIdx_findIdx {α : Type} {p : α → Bool} {q : List α} {i : Nat} (hi : q.findIdx? p = some i)
    (hone : (q.filter p).length ≤ 1) : (q.eraseIdx i).filter p = [] := by
  induction q generalizing i with
  | nil => simp at hi
  | cons x q ih =>
    rw [List.findIdx?_cons] at hi
    split at hi
    · rename_i hx
      cases hi
      rw [List.filter_cons_of_pos hx, List.length_cons] at hone
      exact List.eq_nil_of_length_eq_zero (by simpa using hone)
    · rename_i hx
      obtain ⟨j, hj, rfl⟩ := Option.map_eq_some_iff.1 hi
      rw [List.filter_cons_of_neg hx] at hone
      rw [List.eraseIdx_cons_succ, List.filter_cons_of_neg hx]
      exact ih hj hone

theorem shapeOf_filter_isEmpty {q : List TxFrame} :
    (shapeOf q).filter (fun x => x.2) = [] ↔ q.filter TxFrame.inTx = [] := by
  simp only [shapeOf, List.filter_map, List.map_eq_nil_iff]
  rfl

theorem dropTx_queue_sublist (now : Nat) (l : Line) : (l.dropTx now).queue.Sublist l.queue := by
  unfold Line.dropTx
  split
  · simp only [settleAccess_queue]
    exact List.eraseIdx_sublist _ _
  · simp only [settleAccess_queue]
    exact List.Sublist.refl _

theorem dropTx_shapeInv {now : Nat} {m : Mode} {l : Line} (h : shapeInv m l.access (shapeOf l.queue)) :
    shapeInv m (l.dropTx now).access (shapeOf (l.dropTx now).queue) := by
  have hs := dropTx_queue_sublist now l
  obtain ⟨hlen, hrun, hatt, htx, _⟩ := h
  have hnone : (l.dropTx now).queue.filter TxFrame.inTx = [] := by
    have hone : (l.queue.filter TxFrame.inTx).length ≤ 1 := by
      simpa [shapeOf, List.filter_map, Function.comp_def] using htx
    unfold Line.dropTx
    split
    · rename_i i hi
      rw [settleAccess_queue]
      exact filter_eraseIdx_findIdx hi hone
    · rename_i hi
      rw [settleAccess_queue, List.filter_eq_nil_iff]
      intro f hf
      rw [List.findIdx?_eq_none_iff.1 hi f hf]
      exact Bool.false_ne_true
  refine ⟨Nat.le_trans (hs.map _).length_le hlen, fun hm => ?_, fun x hx => hatt x ((hs.map _).subset hx), ?_,
    fun _ => shapeOf_filter_isEmpty.2 hnone⟩
  · have := hs.map fun f => (f.attempts, f.inTx)
    exact List.eq_nil_of_sublist_nil (hrun hm ▸ this)
  · rw [shapeOf_filter_isEmpty.2 hnone]
    exact Nat.zero_le 1

theorem kept_dropTx (s : State) : Kept s (s.onLine (Line.dropTx s.now)) :=
  kept_setLine fun hs => dropTx_shapeInv ((lineInv_iff s).1 hs)

theorem takeTransmission_kept (s : State) : Kept s (takeTransmission s) := by
  unfold takeTransmission
  split
  · exact kept_trans (kept_dropTx s) (kept_of_only (frameSent_only _ _) (by decide))
  · exact kept_refl s

/-- A collided frame that stays is under the retry limit, and nothing is in transmission (R159, R160). -/
theorem backOff_kept {s : State} {n : Nat} (hn : n ≤ 7) : Kept s (s.onLine (Line.backOff s.now s.station.node n)) := by
  refine kept_setLine fun hs => ?_
  obtain ⟨hlen, hrun, hatt, _, _⟩ := (lineInv_iff s).1 hs
  have hshape : shapeOf (Line.backOff s.now s.station.node n s.line).queue
      = (shapeOf s.line.queue).map fun x => if x.2 then (n, false) else x := by
    simp only [Line.backOff, shapeOf, List.map_map]
    refine List.map_congr_left fun f _ => ?_
    simp only [Function.comp_apply]
    split <;> simp_all
  have hnone : ((shapeOf s.line.queue).map fun x => if x.2 then (n, false) else x).filter (fun x => x.2) = [] := by
    rw [List.filter_eq_nil_iff]
    intro x hx
    obtain ⟨y, _, rfl⟩ := List.mem_map.1 hx
    split <;> simp_all
  rw [hshape]
  refine ⟨by simpa using hlen, fun hm => by simp [hrun hm], fun x hx => ?_, by simp [hnone], fun _ => hnone⟩
  obtain ⟨y, hy, rfl⟩ := List.mem_map.1 hx
  split
  · exact hn
  · exact hatt y hy

theorem takeCollision_kept (s : State) : Kept s (takeCollision s) := by
  unfold takeCollision
  split
  · split
    · exact kept_dropTx s
    split
    · exact kept_trans (kept_dropTx s) (kept_of_only (frameLost_only _ _) (by decide))
    · exact backOff_kept (by omega)
  · exact kept_refl s

theorem endBackoff_kept (s : State) : Kept s (s.onLine Line.endBackoff) := by
  refine kept_setLine fun hs => ?_
  have h := (lineInv_iff s).1 hs
  unfold Line.endBackoff
  split
  · rename_i ha
    rw [settleAccess_queue]
    refine shapeInv_sublist (List.Sublist.refl _) (fun _ => ?_) h
    rw [ha]
    exact nofun
  · exact h

theorem takeBackoff_kept (s : State) : Kept s (takeBackoff s) := kept_ite (endBackoff_kept s) (kept_refl s)

theorem takeStatusPeriod_kept (s : State) : Kept s (takeStatusPeriod s) :=
  kept_ite
    (kept_ite (kept_trans (kept_onLine_rest s rfl rfl) (offerStatus_kept _)) (kept_onLine_rest s rfl rfl))
    (kept_refl s)

theorem takeStatusDueMark_kept (s : State) : Kept s (takeStatusDueMark s) :=
  kept_ite
    (kept_ite (kept_trans (kept_onLine_rest s rfl rfl) (offerStatus_kept _)) (kept_onLine_rest s rfl rfl))
    (kept_refl s)

theorem Line.goQuiet_rest (now : Nat) (l : Line) :
    (l.goQuiet now).queue = l.queue ∧ (l.goQuiet now).access = l.access := by
  unfold Line.goQuiet
  split <;> exact ⟨rfl, rfl⟩

theorem takeFrameBroken_kept (s : State) : Kept s (takeFrameBroken s) :=
  kept_onLine_rest s (Line.goQuiet_rest _ _).1 (Line.goQuiet_rest _ _).2

/-! ### The commands of the blocks -/

theorem cutOutEffects_kept (b : Bool) (s : State) : Kept s (cutOutEffects b s) := by
  unfold cutOutEffects
  split
  · exact chainEnd_kept _ s
  · exact kept_ite (releaseClaim_kept s) (kept_refl s)
  · split
    · exact askClaim_kept _ _ s
    · exact kept_refl s
  · exact kept_refl s

theorem takeMinuteClose_kept (s : State) : Kept s (takeMinuteClose s) :=
  kept_ite (kept_trans (kept_of_only (setWind_only s _) (by decide)) (cutOutEffects_kept _ _)) (kept_refl s)

theorem takeFlowPulse_kept (s : State) : Kept s (takeFlowPulse s) :=
  kept_ite
    (kept_trans (kept_of_only (chargeFaceLitre_only s) (by decide))
      (kept_trans (kept_of_only (setAccount_only _ _) (by decide))
        (kept_trans (chargeChain_kept _) (gatingEffects_kept _ _))))
    (kept_refl s)

theorem takeEncoderReport_kept (b : Nat) (s : State) : Kept s (takeEncoderReport b s) := by
  have h1 : Kept s (s.onCannon fun c => { c with bearing := some b }) := kept_onCannon s ⟨rfl, rfl⟩
  unfold takeEncoderReport
  split
  · exact kept_ite (kept_trans h1 (enterClaiming_kept _ _)) h1
  · exact kept_ite (kept_trans h1 (kept_onCannon _ ⟨rfl, rfl⟩)) h1
  · exact h1

theorem takeReadingWatch_kept (s : State) : Kept s (takeReadingWatch s) :=
  kept_ite (kept_ite (kept_trans (onDust_kept s _) (retryDust_kept _)) (onDust_kept s _)) (kept_refl s)

theorem takePlumeRefresh_kept (s : State) : Kept s (takePlumeRefresh s) :=
  kept_ite (kept_ite (kept_trans (announceNotice_kept s) (onDust_kept _ _)) (onDust_kept s _)) (kept_refl s)

theorem takeFirstStage_kept (s : State) : Kept s (takeFirstStage s) :=
  kept_ite (kept_trans (setClaim_kept s _) (kept_trans (changeOnTime_kept _ _) (announceClaim_kept _))) (kept_refl s)

theorem takeSecondStage_kept (s : State) : Kept s (takeSecondStage s) :=
  kept_ite (kept_trans (setClaim_kept s _) (chainEnd_kept _ _)) (kept_refl s)

theorem takeNoFlow_kept (s : State) : Kept s (takeNoFlow s) :=
  kept_ite (kept_trans (kept_onCannon s ⟨rfl, rfl⟩) (chainEnd_kept _ _)) (kept_refl s)

theorem takeSlewTimeout_kept (s : State) : Kept s (takeSlewTimeout s) :=
  kept_ite (kept_trans (kept_onCannon s ⟨rfl, rfl⟩) (chainEnd_kept _ _)) (kept_refl s)

theorem startWaiting_kept (ch : Chain) (s : State) : Kept s (startWaiting ch s) :=
  kept_trans (kept_onCannon s ⟨rfl, rfl⟩) (enterSlewing_kept _ _)

theorem takePriming_kept (s : State) : Kept s (takePriming s) := by
  have h1 : Kept s (s.onCannon fun c => { c with priming := .stopped, primed := true }) := kept_onCannon s ⟨rfl, rfl⟩
  unfold takePriming
  refine kept_ite (kept_ite ?_ (kept_onCannon s ⟨rfl, rfl⟩)) (kept_refl s)
  simp only
  split
  · exact kept_trans h1 (startWaiting_kept _ _)
  · exact kept_trans h1 (enterParked_kept _)

theorem takeDrain_kept (s : State) : Kept s (takeDrain s) := by
  have h1 : Kept s (s.onCannon fun c => { c with drain := .stopped }) := kept_onCannon s ⟨rfl, rfl⟩
  unfold takeDrain
  refine kept_ite (kept_ite (kept_ite (kept_trans h1 (lockCannon_kept _)) ?_) h1) (kept_refl s)
  split
  · exact kept_trans h1 (startWaiting_kept _ _)
  · exact kept_trans h1 (enterParked_kept _)

theorem takeStandby_kept (s : State) : Kept s (takeStandby s) :=
  kept_ite
    (kept_ite
      (kept_trans (kept_onCannon s (g := fun c => { c with standby := .stopped }) ⟨rfl, rfl⟩)
        (kept_trans (kept_onCannon _ ⟨rfl, rfl⟩) (openRequest_kept _)))
      (kept_onCannon s ⟨rfl, rfl⟩))
    (kept_refl s)

theorem takePeriodTimer_kept (s : State) : Kept s (takePeriodTimer s) :=
  kept_ite (kept_ite (kept_onCannon s ⟨rfl, rfl⟩) (kept_onCannon s ⟨rfl, rfl⟩)) (kept_refl s)

theorem takeFaultHold_kept (f : FaceId) (s : State) : Kept s (takeFaultHold f s) :=
  kept_ite
    (kept_trans (kept_setQueue_rest s (q := { s.queue with holds := s.queue.holds.set f .stopped }) rfl rfl)
      (trySelection_kept _))
    (kept_refl s)

theorem takeSettle_kept (s : State) : Kept s (takeSettle s) :=
  kept_ite (kept_ite (settleDecision_kept _ s) (setClaim_kept s _)) (kept_refl s)

theorem takeClaimRefresh_kept (s : State) : Kept s (takeClaimRefresh s) :=
  kept_ite (kept_ite (setClaim_kept s _) (announceClaim_kept s)) (kept_refl s)

theorem recomputeOnCapacity_kept (n : Nat) (s : State) : Kept s (recomputeOnCapacity n s) :=
  kept_ite (kept_refl s) (recompute_kept s)

theorem rollStale_kept (s : State) : Kept s (rollStale s) :=
  kept_ite (kept_trans (kept_of_only (rollover_only _ _ s) (by decide)) (gatingEffects_kept _ _)) (kept_refl s)

theorem takeSupplyStale_kept (s : State) : Kept s (takeSupplyStale s) :=
  kept_ite
    (kept_trans (setClaim_kept s _) (kept_trans (recomputeOnCapacity_kept _ _) (rollStale_kept _)))
    (kept_refl s)

theorem takeSweep_kept (s : State) : Kept s (takeSweep s) := by
  have h1 : ∀ v, Kept s (s.setPeers v) := fun v => kept_of_only (setPeers_only s v) (by decide)
  exact kept_ite (kept_ite (kept_trans (h1 _) (recompute_kept _)) (h1 _)) (kept_refl s)

/-! ### Station Control -/

theorem kept_onStation (s : State) {g : Station → Station}
    (hg : (g s.station).mode = s.station.mode ∨ s.station.mode ≠ .run ∨ (g s.station).mode = .run) :
    Kept s (s.onStation g) := by
  refine ⟨id, id, fun hs => ?_⟩
  rw [lineInv_iff] at *
  obtain ⟨hlen, hrun, hrest⟩ := hs
  refine ⟨hlen, fun hm => ?_, hrest⟩
  have hm : (g s.station).mode ≠ .run := hm
  rcases hg with hg | hg | hg
  · exact hrun (hg ▸ hm)
  · exact hrun hg
  · exact absurd hg hm

/-- What leaves the queue, the log and the transmit queue alone, and enters or leaves no RUN but an empty line. -/
theorem kept_of_fields {s t : State} (hq : t.queue = s.queue) (hlog : t.cannon.log = s.cannon.log)
    (hser : t.cannon.nextSerial = s.cannon.nextSerial) (hl : t.line.queue = s.line.queue)
    (ha : t.line.access = s.line.access) (hm : t.station.mode = s.station.mode ∨ s.station.mode ≠ .run) : Kept s t := by
  refine ⟨by rw [hq]; exact id, by unfold logInv; rw [hlog, hser]; exact id, fun hs => ?_⟩
  rw [lineInv_iff] at *
  rw [hl, ha]
  rcases hm with hm | hm
  · rwa [hm]
  · obtain ⟨hlen, hrun, hrest⟩ := hs
    exact ⟨hlen, fun _ => hrun hm, hrest⟩

theorem startListen_kept {s : State} (h : s.station.mode ≠ .run) : Kept s (startListen s) := by
  have hlast : ∀ s : State, Kept s (startStandby (startSweep s)) := fun s =>
    kept_trans (kept_of_only (startSweep_only s) (by decide)) (kept_ite (kept_onCannon _ ⟨rfl, rfl⟩) (kept_refl _))
  refine kept_trans ?_ (hlast _)
  exact kept_of_fields rfl rfl rfl rfl rfl (.inr h)

theorem formRecords_kept (s : State) : Kept s (formRecords s) := kept_of_fields rfl rfl rfl rfl rfl (.inl rfl)

theorem startFirstListen_kept (s : State) : Kept s (startFirstListen s) :=
  kept_of_only (startFirstListen_only s) (by decide)

theorem enterListenFresh_kept {s : State} (h : s.station.mode ≠ .run) : Kept s (enterListenFresh s) := by
  have h1 : Kept s (takeSettings s) := kept_onStation s (.inl rfl)
  exact kept_trans h1
    (kept_trans (startListen_kept (s := takeSettings s) h)
      (kept_trans (formRecords_kept _)
        (kept_trans (kept_of_only (fallbackAtListen_only _) (by decide)) (startFirstListen_kept _))))

theorem endCommission_kept {s : State} (h : s.station.mode ≠ .run) : Kept s (endCommission s) :=
  kept_ite (enterListenFresh_kept h) (kept_onStation s (.inr (.inl h)))

theorem takeKeyRelease_kept (s : State) : Kept s (takeKeyRelease s) := by
  unfold takeKeyRelease
  split
  · rename_i h
    refine kept_trans (kept_of_only (setPins_only s _) (by decide)) (endCommission_kept ?_)
    rw [State.setPins_station, h]
    exact nofun
  · exact kept_refl s

theorem takeWindowExpiry_kept (s : State) : Kept s (takeWindowExpiry s) := by
  unfold takeWindowExpiry
  split
  · split
    · rename_i h
      exact endCommission_kept (by rw [h]; exact nofun)
    · exact kept_onStation s (.inl rfl)
  · exact kept_refl s

theorem enterRun_kept (s : State) : Kept s (enterRun s) := by
  have h1 : Kept s (s.onStation fun t => { t with mode := .run, listen := .stopped }) :=
    kept_onStation s (.inr (.inr rfl))
  exact kept_trans h1 (kept_trans (offerStatus_kept _) (kept_trans (retryDust_kept _) (trySelection_kept _)))

theorem takeListenTimer_kept (s : State) : Kept s (takeListenTimer s) :=
  kept_ite (kept_ite (enterRun_kept s) (kept_onStation s (.inl rfl))) (kept_refl s)

/-- The emptied line is within its limits in every station state. -/
theorem lineInv_clear {s : State} (now : Nat) : lineInv (s.onLine (Line.clear now)) := by
  simp [lineInv, State.onLine, Line.clear]

theorem enterMute_kept (s : State) : Kept s (enterMute s) := by
  have h := chainEnd_kept .duplicate (s.onStation fun t => { t with mode := .mute, listen := .stopped })
  exact ⟨h.queue, h.log, fun _ => lineInv_clear _⟩

theorem takeDuplicate_kept (s : State) : Kept s (takeDuplicate s) := by
  have hd : Kept s (s.onLine fun l => { l with duplicate := true }) := kept_onLine_rest s rfl rfl
  rcases takeDuplicate_cases s with h | h | ⟨_, h⟩ <;> rw [h]
  · exact kept_refl s
  · exact hd
  · exact kept_trans hd (enterMute_kept _)

theorem clearQueue_kept (s : State) : Kept s (clearQueue s) := by
  refine kept_setQueue fun h => ?_
  rw [queueInv_iff] at *
  exact ⟨⟨Nat.zero_le _, List.nodup_nil, fun e he => absurd he (List.not_mem_nil)⟩, h.2⟩

theorem clearBlocks_kept (s : State) : Kept s (clearBlocks s) := by
  have hq := kept_trans (clearQueue_kept s) (chainEnd_kept .restart _)
  have h1 : Kept s ((noClaim (chainEnd .restart (clearQueue s))).onLine (Line.clear s.now)) :=
    ⟨hq.queue, hq.log, fun _ => lineInv_clear _⟩
  exact kept_trans h1 (kept_of_fields rfl rfl rfl rfl rfl (.inl rfl))

theorem restartCannon_kept (s : State) : Kept s (restartCannon s) :=
  kept_trans (kept_onCannon s ⟨rfl, rfl⟩) (parkOrLock_kept _)

/-- The line stands empty through the LISTEN entry of a RESTART. -/
theorem takeRestart_kept (s : State) : Kept s (takeRestart s) := by
  have hb := clearBlocks_kept s
  have hc := restartCannon_kept
    (enterListenAgain ((clearBlocks s).onStation fun t => { t with cause := .restart, lastReset := s.sec }))
  have hk : Kept ((clearBlocks s).setStation
      { (clearBlocks s).station with mode := .listen, cause := .restart, lastReset := s.sec })
      (enterListenAgain ((clearBlocks s).onStation fun t => { t with cause := .restart, lastReset := s.sec })) := by
    refine kept_trans ?_ (startFirstListen_kept _)
    exact startListen_kept (s := ((clearBlocks s).setStation
      { (clearBlocks s).station with mode := .listen, cause := .restart, lastReset := s.sec })) nofun
  have he : (clearBlocks s).line.queue = [] := rfl
  have ha : (clearBlocks s).line.access = .idle := rfl
  refine ⟨fun h => hc.queue (hk.queue (hb.queue h)), fun h => hc.log (hk.log (hb.log h)), fun _ => ?_⟩
  refine hc.line (hk.line ?_)
  simp [lineInv, he]

theorem restartWith_kept (s : State) : Kept s (restartWith s).1 := by
  unfold restartWith
  split
  · exact takeRestart_kept s
  · exact kept_refl s

/-! ### Frames -/

theorem handFrame_kept {k : FrameKind} {n : Nat} {pos : Option (Nat × Nat)} {part : Peer → Peer}
    {handOn : State → State} (s : State) (h : ∀ s, Kept s (handOn s)) : Kept s (handFrame k n pos part handOn s) := by
  have h1 : Kept s ((hearFrame s).setPeerEntries
      (putPeer (part (refreshedPeer s.sec n k.member pos s.peers.entries)) s.peers.entries)) :=
    kept_trans (hearFrame_kept s) (setPeerEntries_kept _ _)
  exact kept_trans (kept_ite (kept_trans h1 (recompute_kept _)) h1) (h _)

theorem takeFrame_kept {k : FrameKind} {n : Nat} {payload : List Byte} {hand : State → State} (s : State)
    (h : ∀ s, Kept s (hand s)) : Kept s (takeFrame k n payload hand s) :=
  kept_ite (frameEnds_kept s)
    (kept_ite (kept_trans (frameEnds_kept s) (takeDuplicate_kept _)) (kept_trans (frameEnds_kept s) (h _)))

theorem handStatus_kept (n : Nat) (payload : List Byte) (s : State) : Kept s (handStatus n payload s) := by
  unfold handStatus
  simp only
  split
  · exact handFrame_kept s fun s => kept_of_only (clearActed_only _ _ s) (by decide)
  · exact handFrame_kept s kept_refl

theorem handClaimKind_kept (k : FrameKind) (n : Nat) (s : State) : Kept s (handClaimKind k n s) :=
  kept_trans (hearFrame_kept s) (setPeerEntries_kept _ _)

theorem handClaim_kept (n : Nat) (payload : List Byte) (s : State) : Kept s (handClaim n payload s) := by
  unfold handClaim
  split
  · refine kept_trans (handClaimKind_kept .claim n s) ?_
    exact kept_ite (kept_trans (setPeerEntries_kept _ _) (recompute_kept _))
      (kept_ite (recompute_kept _) (kept_refl _))
  · exact handFrame_kept s kept_refl

theorem handRelease_kept (n : Nat) (payload : List Byte) (s : State) : Kept s (handRelease n payload s) := by
  have h1 := handClaimKind_kept .release n s
  exact kept_ite (kept_trans h1 (kept_trans (setPeerEntries_kept _ _) (recompute_kept _)))
    (kept_ite (kept_trans h1 (recompute_kept _)) h1)

theorem takePlume_kept (n : Nat) (m : PlumeMsg) (s : State) : Kept s (takePlume n m s) :=
  kept_ite
    (kept_trans (setPeerEntries_kept s _) (kept_trans (formAnswer_kept _ _ _) (sendAnswer_kept _ _)))
    (kept_refl s)

theorem handCover_kept (n : Nat) (payload : List Byte) (s : State) : Kept s (handCover n payload s) := by
  unfold handCover
  split
  · exact handFrame_kept s fun s => kept_of_only (takeCoverFrame_only _ _ s) (by decide)
  · exact handFrame_kept s kept_refl

theorem acceptSupply_kept (m : SupplyMsg) (s : State) : Kept s (acceptSupply m s) :=
  kept_trans (kept_of_only (takeDay_only _ _ s) (by decide))
    (kept_trans (setClaim_kept _ _) (kept_trans (gatingEffects_kept _ _) (recomputeOnCapacity_kept _ _)))

theorem handSupply_kept (n : Nat) (payload : List Byte) (s : State) : Kept s (handSupply n payload s) := by
  unfold handSupply
  split
  · exact handFrame_kept s fun s => kept_ite (acceptSupply_kept _ s) (kept_refl s)
  · exact handFrame_kept s kept_refl

theorem handMachine_kept (n : Nat) (payload : List Byte) (s : State) : Kept s (handMachine n payload s) := by
  unfold handMachine
  simp only
  split
  · exact handFrame_kept s kept_refl
  · exact handFrame_kept s kept_refl

/-! ### The panel -/

theorem takeCommand_kept {code : Nat} {work : State → State × PanelAnswer} (s : State)
    (hw : ∀ s, Kept s (work s).1) : Kept s (takeCommand code work s) := by
  have hp : ∀ (s : State) g, Kept s (s.onPanel g) := fun s g => kept_of_only (onPanel_only s g) (by decide)
  rcases takeCommand_cases code work s with ⟨g, h⟩ | ⟨g, h⟩ <;> rw [h]
  · exact hp s g
  · exact kept_trans (hp s _) (kept_trans (hw _) (hp _ g))

theorem configureWith_kept (block : List Byte) (s : State) : Kept s (configureWith block s).1 := by
  unfold configureWith
  split
  · exact kept_refl s
  split
  · exact kept_refl s
  split
  · exact kept_refl s
  · exact kept_of_fields rfl rfl rfl rfl rfl (.inl rfl)

theorem writeLocks_kept (l : List Lock) (s : State) : Kept s (writeLocks l s) :=
  kept_of_only (writeLocks_only l s) (by decide)

theorem applyLock_kept (code level : Nat) (s : State) : Kept s (applyLock code level s).1 := by
  unfold applyLock
  split
  · exact kept_refl s
  split
  · exact kept_refl s
  split
  · exact kept_refl s
  split
  · exact kept_refl s
  · exact kept_ite (writeLocks_kept _ s) (kept_trans (writeLocks_kept _ s) (respondToLock_kept _))

theorem removeLocks_kept (l : List Lock) (s : State) : Kept s (removeLocks l s) :=
  kept_ite (kept_trans (writeLocks_kept l s) (kept_ite (enterParked_kept _) (kept_refl _))) (writeLocks_kept l s)

theorem applyUnlock_kept (code : Nat) (s : State) : Kept s (applyUnlock code s).1 := by
  unfold applyUnlock
  simp only
  split
  · exact kept_refl s
  split
  · exact kept_refl s
  split
  · exact kept_refl s
  split
  · exact removeLocks_kept _ s
  split
  · split
    · exact removeLocks_kept _ s
    · exact kept_refl s
  · exact kept_of_only (setLockout_only s _) (by decide)

theorem endHolds_kept (s : State) : Kept s (endHolds s) := by
  have h1 : Kept s (s.setQueue { s.queue with holds := ⟨.stopped, .stopped, .stopped, .stopped⟩ }) :=
    kept_setQueue_rest s rfl rfl
  exact kept_ite (kept_trans h1 (trySelection_kept _)) h1

theorem clearFaultWith_kept (s : State) : Kept s (clearFaultWith s).1 := by
  unfold clearFaultWith
  split
  · exact kept_trans (endHolds_kept s) (kept_trans (kept_onCannon _ ⟨rfl, rfl⟩) (parkOrLock_kept _))
  · exact endHolds_kept s

theorem testSprayWith_kept (face volume : Nat) (s : State) : Kept s (testSprayWith face volume s).1 := by
  unfold testSprayWith
  split
  · exact offerDemand_kept _ s
  · exact kept_refl s

/-! ### Every step -/

theorem effectOf_kept {c : Instr} (hc : Instr.ordinary c) (s : State) : Kept s (effectOf c s) := by
  by_cases ht : ∀ f ∈ [Field.queue, .cannon, .line, .station], f ∉ touched c
  case pos => exact kept_of_only (effectOf_only hc s) ht
  cases c
  case minuteClose => exact takeMinuteClose_kept s
  case evaluation => exact takeEvaluation_kept s
  case flowPulse => exact takeFlowPulse_kept s
  case encoderReport => exact takeEncoderReport_kept _ s
  case dustReading => exact takeDustReading_kept _ s
  case readingWatchExpiry => exact takeReadingWatch_kept s
  case firstStage => exact takeFirstStage_kept s
  case secondStage => exact takeSecondStage_kept s
  case commissioningKeyRelease => exact takeKeyRelease_kept s
  case commissioningWindowExpiry => exact takeWindowExpiry_kept s
  case listenTimerExpiry => exact takeListenTimer_kept s
  case statusFrame => exact takeFrame_kept s (handStatus_kept _ _)
  case claimFrame => exact takeFrame_kept s (handClaim_kept _ _)
  case releaseFrame => exact takeFrame_kept s (handRelease_kept _ _)
  case plumeFrame => exact takeFrame_kept s fun s => handFrame_kept s (takePlume_kept _ _)
  case coverFrame => exact takeFrame_kept s (handCover_kept _ _)
  case windFrame => exact takeFrame_kept s fun s => handFrame_kept s kept_refl
  case forecastFrame =>
    exact takeFrame_kept s fun s => handFrame_kept s fun s => kept_of_only (takeForecast_only _ _ s) (by decide)
  case supplyFrame => exact takeFrame_kept s (handSupply_kept _ _)
  case machineFrame => exact takeFrame_kept s (handMachine_kept _ _)
  case duplicate => exact kept_trans (frameEnds_kept s) (takeDuplicate_kept _)
  case frameBroken => exact takeFrameBroken_kept s
  case accessGap => exact takeAccessGap_kept s
  case collision => exact takeCollision_kept s
  case backoffExpiry => exact takeBackoff_kept s
  case transmissionCompletes => exact takeTransmission_kept s
  case configure => exact takeCommand_kept s (configureWith_kept _)
  case lock => exact takeCommand_kept s (applyLock_kept _ _)
  case unlock => exact takeCommand_kept s (applyUnlock_kept _)
  case clearFault => exact takeCommand_kept s clearFaultWith_kept
  case restart => exact takeCommand_kept s restartWith_kept
  case testSpray => exact takeCommand_kept s (testSprayWith_kept _ _)
  case settleExpiry => exact takeSettle_kept s
  case claimRefresh => exact takeClaimRefresh_kept s
  case onTimerExpiry => exact kept_ite (kept_onCannon s ⟨rfl, rfl⟩) (kept_refl s)
  case periodTimerExpiry => exact takePeriodTimer_kept s
  case noFlowExpiry => exact takeNoFlow_kept s
  case slewTimeout => exact takeSlewTimeout_kept s
  case primingExpiry => exact takePriming_kept s
  case drainExpiry => exact takeDrain_kept s
  case standbyExpiry => exact takeStandby_kept s
  case faultHoldExpiry => exact takeFaultHold_kept _ s
  case deadline => exact passDeadlines_kept s
  case supplyStaleExpiry => exact takeSupplyStale_kept s
  case staleRollover => exact rollStale_kept s
  case plumeRefresh => exact takePlumeRefresh_kept s
  case sweep => exact takeSweep_kept s
  case isolationExpiry => exact kept_ite (kept_onLine_rest s rfl rfl) (kept_refl s)
  case statusPeriod => exact takeStatusPeriod_kept s
  case statusDueMark => exact takeStatusDueMark_kept s
  case frameDiscarded => exact frameEnds_kept s
  all_goals exact absurd (by simp [touched]) ht

theorem leaveStart_kept {m : Mode} {s : State} (h : s.station.mode ≠ .run) : Kept s (leaveStart m s) := by
  unfold leaveStart
  split
  · exact enterListenFresh_kept h
  · exact kept_onStation s (.inr (.inl h))
  · exact kept_onStation s (.inr (.inl h))

theorem takePowerOn_kept (straps : Nat) (key : Bool) (s : State) :
    Kept (powerUp straps key s) (takePowerOn straps key s) :=
  leaveStart_kept (by rw [powerUp_eq]; exact nofun)

theorem idle_kept (s : State) : Kept s (idle s) := kept_of_only (idle_only s) (by decide)

theorem setPending_kept (s : State) (l : List Instr) : Kept s (s.setPending l) :=
  kept_of_only (setPending_only s l) (by decide)

/-- Settles O51. Each operation of the Spray Queue keeps its entries and its rotation order, and every command is made of
these operations. -/
theorem queueIsKept : Obligations.QueueIsKept := by
  unfold Obligations.QueueIsKept
  intro s t
  refine step_keeps (P := fun s => queueInv s.queue) (fun s => (idle_kept s).queue)
    (fun s l => (setPending_kept s l).queue) (fun s0 s => (closeArrival_kept s0 s).queue)
    (fun straps key s _ => (takePowerOn_kept _ key s).queue ?_) fun c s hc _ => (effectOf_kept hc s).queue
  rw [powerUp_eq, queueInv_iff]
  exact ⟨⟨Nat.zero_le _, List.nodup_nil, fun e he => absurd he List.not_mem_nil⟩, rfl,
    show [(0 : FaceId), 1, 2, 3].Nodup from by decide⟩

/-- Settles O53. Each operation of the transmit queue keeps its limits, and it is emptied where the station leaves RUN. -/
theorem lineIsKept : Obligations.LineIsKept := by
  unfold Obligations.LineIsKept
  intro s t
  refine step_keeps (P := lineInv) (fun s => (idle_kept s).line) (fun s l => (setPending_kept s l).line)
    (fun s0 s => (closeArrival_kept s0 s).line) (fun straps key s _ => (takePowerOn_kept _ key s).line ?_)
    fun c s hc _ => (effectOf_kept hc s).line
  rw [powerUp_eq]
  simp [lineInv, State.reset, Line.powerOn]

/-! ### The fresh ration (R110) -/

theorem charge_kept {src : WaterSource} {k : Bool} {r : DayRecord} (h : r.fresh ≤ r.allowance + r.knockdown) :
    (r.charge src k).fresh ≤ (r.charge src k).allowance + (r.charge src k).knockdown := by
  cases src with
  | reuse => exact h
  | fresh =>
    simp only [DayRecord.charge, satAdd]
    split
    · omega
    · rename_i hn
      simp only [Bool.or_eq_true, decide_eq_true_eq, not_or, Nat.not_le] at hn
      omega

theorem rollover_accountInv (day : Option Nat) (a : Nat) (s : State) : accountInv (rollover day a s).account :=
  Nat.zero_le _

theorem accountInv_reads : readsOnly [.account] fun s => accountInv s.account := by
  intro s t h hs
  have : t.account = s.account := h .account (by decide)
  simp only [this]
  exact hs

theorem takeDay_accountInv {d a : Nat} {s : State} (h : accountInv s.account) : accountInv (takeDay d a s).account := by
  unfold accountInv at *
  unfold takeDay
  simp only
  split
  · simp only [State.setAccount_account]
    omega
  split
  · simp only [State.setAccount_account]
    omega
  · exact rollover_accountInv _ _ s

theorem evaluateFace_accountInv {s : State} {f : FaceId} (h : accountInv s.account) :
    accountInv (evaluateFace s f).account := by
  unfold evaluateFace
  split
  · exact keeps_of_only accountInv_reads (stepSuppress_only _ _ _) (by decide) h
  · exact h

theorem takeEvaluation_accountInv {s : State} (h : accountInv s.account) : accountInv (takeEvaluation s).account := by
  have hf : ∀ (l : List FaceId) (s : State), accountInv s.account → accountInv (l.foldl evaluateFace s).account := by
    intro l
    induction l with
    | nil => exact fun _ h => h
    | cons f l ih => exact fun s h => ih _ (evaluateFace_accountInv h)
  unfold takeEvaluation
  split
  · exact keeps_of_only accountInv_reads (lookAhead_only _) (by decide) (hf allFaces _ h)
  · exact h

theorem takeFlowPulse_accountInv {s : State} (h : accountInv s.account) : accountInv (takeFlowPulse s).account := by
  unfold takeFlowPulse
  split
  · refine keeps_of_only accountInv_reads (gatingEffects_only _ _) (by decide) ?_
    refine keeps_of_only accountInv_reads (chargeChain_only _) (by decide) ?_
    refine charge_kept ?_
    rw [chargeFaceLitre_only s .account (by decide)]
    exact h
  · exact h

theorem rollStale_accountInv {s : State} (h : accountInv s.account) : accountInv (rollStale s).account := by
  unfold rollStale
  split
  · exact keeps_of_only accountInv_reads (gatingEffects_only _ _) (by decide) (rollover_accountInv _ _ s)
  · exact h

theorem acceptSupply_accountInv {m : SupplyMsg} {s : State} (h : accountInv s.account) :
    accountInv (acceptSupply m s).account := by
  refine keeps_of_only accountInv_reads (recomputeOnCapacity_only _ _) (by decide) ?_
  refine keeps_of_only accountInv_reads (gatingEffects_only _ _) (by decide) ?_
  exact takeDay_accountInv (d := m.day) (a := m.allowance) h

/-- What a frame keeps that neither the reception, the sender's entry, a recompute nor a duplicate touches. -/
theorem takeFrame_keeps {fs : List Field} {P : State → Prop} (hP : readsOnly fs P) (hd : ∀ f ∈ fs, f ∉ framed)
    {k : FrameKind} {n : Nat} {payload : List Byte} {hand : State → State} {s : State} (h : P s)
    (hh : ∀ s, P s → P (hand s)) : P (takeFrame k n payload hand s) := by
  have hf : ∀ gs : List Field, (∀ f ∈ gs, f ∈ framed) → ∀ f ∈ fs, f ∉ gs := fun gs hg f hm hn => hd f hm (hg f hn)
  have he : P (frameEnds s) := keeps_of_only hP (onLine_only s _) (hf _ (by decide)) h
  rcases takeFrame_cases k n payload hand s with hc | hc | ⟨_, _, _, hc⟩ <;> rw [hc]
  · exact he
  · exact keeps_of_only hP (takeDuplicate_only _) (hf _ (by decide)) he
  · exact hh _ he

theorem handFrame_keeps {fs : List Field} {P : State → Prop} (hP : readsOnly fs P) (hd : ∀ f ∈ fs, f ∉ handed)
    {k : FrameKind} {n : Nat} {pos : Option (Nat × Nat)} {part : Peer → Peer} {handOn : State → State} {s : State}
    (h : P s) (hh : ∀ s, P s → P (handOn s)) : P (handFrame k n pos part handOn s) := by
  have hf : ∀ gs : List Field, (∀ f ∈ gs, f ∈ handed) → ∀ f ∈ fs, f ∉ gs := fun gs hg f hm hn => hd f hm (hg f hn)
  have h1 : P ((hearFrame s).setPeerEntries
      (putPeer (part (refreshedPeer s.sec n k.member pos s.peers.entries)) s.peers.entries)) :=
    keeps_of_only hP (setPeerEntries_only _ _) (hf _ (by decide))
      (keeps_of_only hP (hearFrame_only s) (hf _ (by decide)) h)
  refine hh _ ?_
  split
  · exact keeps_of_only hP (recompute_only _) (hf _ (by decide)) h1
  · exact h1

theorem handSupply_accountInv {n : Nat} {payload : List Byte} {s : State} (h : accountInv s.account) :
    accountInv (handSupply n payload s).account := by
  unfold handSupply
  split
  · refine handFrame_keeps accountInv_reads (by decide) h fun s h => ?_
    unfold takeSupply
    split
    · exact acceptSupply_accountInv h
    · exact h
  · exact handFrame_keeps accountInv_reads (by decide) h fun _ h => h

theorem takeSupplyStale_accountInv {s : State} (h : accountInv s.account) :
    accountInv (takeSupplyStale s).account := by
  unfold takeSupplyStale
  split
  · exact rollStale_accountInv (keeps_of_only accountInv_reads (recomputeOnCapacity_only _ _) (by decide) h)
  · exact h

theorem accountIsKept {s t : State} (h : accountInv s.account) (ht : step s = .next t) : accountInv t.account := by
  refine step_keeps_of_reads accountInv_reads (by decide) (fun straps key s _ => ?power)
    (fun c s hc _ htouch h => ?eff) h ht
  case power =>
    rw [takePowerOn_only _ key s .account (by decide), powerUp_eq]
    exact Nat.zero_le _
  case eff =>
    cases c
    case evaluation => exact takeEvaluation_accountInv h
    case flowPulse => exact takeFlowPulse_accountInv h
    case supplyFrame => exact takeFrame_keeps accountInv_reads (by decide) h fun _ => handSupply_accountInv
    case supplyStaleExpiry => exact takeSupplyStale_accountInv h
    case staleRollover => exact rollStale_accountInv h
    all_goals exact absurd htouch (by simp [touched, deep, shallow])

/-! ### The Forecast Table (R13, R14) -/

theorem timedSlots_length (start : Nat) (ks : List CarriedSlot) : (timedSlots start ks).length = ks.length := by
  induction ks generalizing start with
  | nil => rfl
  | cons k ks ih => simp [timedSlots, ih]

theorem timedSlots_follow (start : Nat) (ks : List CarriedSlot) : slotsFollow (timedSlots start ks) := by
  induction ks generalizing start with
  | nil => trivial
  | cons k ks ih =>
    cases ks with
    | nil => rfl
    | cons l ks => exact ⟨rfl, rfl, ih (start + 30)⟩

theorem slotsFollow_tail {ks : List Slot} (h : slotsFollow ks) : slotsFollow ks.tail := by
  match ks with
  | [] => trivial
  | [_] => trivial
  | _ :: _ :: _ => exact h.2.2

theorem slotsInv_reads : readsOnly [.forecast] fun s => slotsInv s.forecast.slots := by
  intro s t h hs
  have : t.forecast = s.forecast := h .forecast (by decide)
  simp only [this]
  exact hs

theorem takeForecast_slotsInv {n : Nat} {m : ForecastMsg} {s : State} (h : slotsInv s.forecast.slots) :
    slotsInv (takeForecast n m s).forecast.slots := by
  unfold takeForecast
  split
  · rename_i ha
    simp only [Bool.and_eq_true, Forecast.accepts, ForecastMsg.sound, decide_eq_true_eq] at ha
    refine ⟨?_, timedSlots_follow _ _⟩
    rw [State.setForecast_forecast]
    show (timedSlots _ _).length ≤ 12
    rw [timedSlots_length]
    exact ha.2.1.1.1.2
  · exact h

theorem startFirstListen_slots (s : State) : (startFirstListen s).forecast.slots = s.forecast.slots := by
  unfold startFirstListen
  split
  · unfold startForecastStale
    split <;> rfl
  · rfl

theorem enterListenFresh_slots (s : State) : (enterListenFresh s).forecast.slots = s.forecast.slots := by
  refine (startFirstListen_slots _).trans (congrArg Forecast.slots ?_)
  exact (fallbackAtListen_only _ .forecast (by decide)).trans
    ((formRecords_only _ .forecast (by decide)).trans (startListen_only (takeSettings s) .forecast (by decide)))

theorem endCommission_slots (s : State) : (endCommission s).forecast.slots = s.forecast.slots := by
  unfold endCommission
  split
  · exact enterListenFresh_slots s
  · rfl

theorem takeRestart_slots (s : State) : (takeRestart s).forecast.slots = s.forecast.slots := by
  refine (congrArg Forecast.slots (restartCannon_only _ .forecast (by decide))).trans ?_
  refine (startFirstListen_slots _).trans (congrArg Forecast.slots ?_)
  exact (startListen_only _ .forecast (by decide)).trans (clearBlocks_only s .forecast (by decide))

theorem restartWith_slotsInv {s : State} (h : slotsInv s.forecast.slots) : slotsInv (restartWith s).1.forecast.slots := by
  unfold restartWith
  split
  · rw [takeRestart_slots]
    exact h
  · exact h

theorem slotsAreKept {s t : State} (h : slotsInv s.forecast.slots) (ht : step s = .next t) :
    slotsInv t.forecast.slots := by
  refine step_keeps_of_reads slotsInv_reads (by decide) (fun straps key s _ => ?power)
    (fun c s hc _ htouch h => ?eff) h ht
  case power =>
    have : (powerUp straps.val key s).forecast.slots = [] := by rw [powerUp_eq]; rfl
    unfold takePowerOn leaveStart
    split <;> simp only [enterListenFresh_slots, State.onStation, State.setStation_forecast, this] <;>
      exact ⟨Nat.zero_le _, trivial⟩
  case eff =>
    cases c
    case commissioningKeyRelease =>
      show slotsInv (takeKeyRelease s).forecast.slots
      unfold takeKeyRelease
      split
      · rw [endCommission_slots]
        exact h
      · exact h
    case commissioningWindowExpiry =>
      show slotsInv (takeWindowExpiry s).forecast.slots
      unfold takeWindowExpiry
      split
      · split
        · rw [endCommission_slots]
          exact h
        · exact h
      · exact h
    case forecastFrame =>
      exact takeFrame_keeps slotsInv_reads (by decide) h fun _ h =>
        handFrame_keeps slotsInv_reads (by decide) h fun _ => takeForecast_slotsInv
    case restart =>
      exact takeCommand_keeps (P := fun s => slotsInv s.forecast.slots) (fun _ _ h => h)
        (fun _ => restartWith_slotsInv) h
    case slotEnd =>
      show slotsInv (takeSlotEnd s).forecast.slots
      unfold takeSlotEnd
      split
      · exact ⟨Nat.le_trans (List.tail_sublist _).length_le h.1, slotsFollow_tail h.2⟩
      · exact h
    case forecastStaleExpiry =>
      show slotsInv (takeForecastStale s).forecast.slots
      unfold takeForecastStale
      split <;> exact h
    all_goals exact absurd htouch (by simp [touched, deep, shallow])

/-! ### The samples of a minute (R3, R9) -/

theorem windInv_reads : readsOnly [.wind] fun s => windInv s.wind := by
  intro s t h hs
  have : t.wind = s.wind := h .wind (by decide)
  simp only [this]
  exact hs

theorem offer_count {speed bearing : Int} {a : Accumulator} (h : a.count ≤ 60) :
    (a.offer speed bearing).count ≤ 60 := by
  unfold Accumulator.offer
  split
  · exact h
  · simp only [Accumulator.add]
    omega

theorem closeRecord_count {sec fallback : Nat} {a : Accumulator} {peer : Option PeerWind} {r : WindRecord} :
    (closeRecord sec fallback a peer r).sampleCount = a.count := by
  unfold closeRecord
  split
  · rfl
  · rfl
  · split <;> rfl

theorem takeMinuteClose_windInv {s : State} (h : windInv s.wind) : windInv (takeMinuteClose s).wind := by
  unfold takeMinuteClose
  split
  · refine keeps_of_only windInv_reads (cutOutEffects_only _ _) (by decide) ?_
    rw [State.setWind_wind]
    exact ⟨Nat.zero_le _, Nat.le_trans (Nat.le_of_eq closeRecord_count) h.1⟩
  · exact h

theorem startListen_wind (s : State) :
    (startListen s).wind = { s.wind with acc := Accumulator.empty, minute := .running (s.now + 60000) } :=
  (startStandby_only _ .wind (by decide)).trans (startSweep_only _ .wind (by decide))

theorem enterListenFresh_windInv {s : State} (h : s.wind.record.sampleCount ≤ 60) :
    windInv (enterListenFresh s).wind := by
  have hf : windInv (formRecords (startListen (takeSettings s))).wind := by
    rw [formRecords_only _ .wind (by decide), startListen_wind]
    exact ⟨Nat.zero_le _, h⟩
  refine keeps_of_only windInv_reads (startFirstListen_only _) (by decide) ?_
  unfold fallbackAtListen
  split <;> exact hf

theorem endCommission_windInv {s : State} (h : windInv s.wind) : windInv (endCommission s).wind := by
  unfold endCommission
  split
  · exact enterListenFresh_windInv h.2
  · exact h

theorem takeRestart_windInv {s : State} (h : windInv s.wind) : windInv (takeRestart s).wind := by
  refine keeps_of_only windInv_reads (restartCannon_only _) (by decide) ?_
  refine keeps_of_only windInv_reads (startFirstListen_only _) (by decide) ?_
  rw [startListen_wind]
  refine ⟨Nat.zero_le _, ?_⟩
  have hw : (chainEnd .restart (clearQueue s)).wind = s.wind :=
    chainEnd_only .restart (clearQueue s) .wind (by decide)
  have : (clearBlocks s).wind.record = s.wind.record := by
    simp [clearBlocks, State.onDust, State.onLine, noClaim, hw]
  simp only [State.onStation, State.setStation_wind, this]
  exact h.2

theorem restartWith_windInv {s : State} (h : windInv s.wind) : windInv (restartWith s).1.wind := by
  unfold restartWith
  split
  · exact takeRestart_windInv h
  · exact h

theorem windIsKept {s t : State} (h : windInv s.wind) (ht : step s = .next t) : windInv t.wind := by
  refine step_keeps_of_reads windInv_reads (by decide) (fun straps key s _ => ?power)
    (fun c s hc _ htouch h => ?eff) h ht
  case power =>
    have hu : windInv (powerUp straps.val key s).wind := by
      rw [powerUp_eq]
      exact ⟨Nat.zero_le _, Nat.zero_le _⟩
    unfold takePowerOn leaveStart
    split
    · exact enterListenFresh_windInv hu.2
    · exact hu
    · exact hu
  case eff =>
    cases c
    case anemometerSample speed bearing =>
      show windInv (takeSample speed bearing s).wind
      unfold takeSample
      split
      · exact ⟨offer_count h.1, h.2⟩
      · exact h
    case minuteClose => exact takeMinuteClose_windInv h
    case commissioningKeyRelease =>
      show windInv (takeKeyRelease s).wind
      unfold takeKeyRelease
      split
      · exact endCommission_windInv (s := s.setPins { s.pins with key := false }) h
      · exact h
    case commissioningWindowExpiry =>
      show windInv (takeWindowExpiry s).wind
      unfold takeWindowExpiry
      split
      · split
        · exact endCommission_windInv h
        · exact h
      · exact h
    case restart =>
      exact takeCommand_keeps (P := fun s => windInv s.wind) (fun _ _ h => h)
        (fun _ => restartWith_windInv) h
    all_goals exact absurd htouch (by simp [touched, deep, shallow])

theorem logIsKept {s t : State} (h : logInv s.cannon) (ht : step s = .next t) : logInv t.cannon := by
  refine step_keeps (P := fun s => logInv s.cannon) (fun s => (idle_kept s).log) (fun s l => (setPending_kept s l).log)
    (fun s0 s => (closeArrival_kept s0 s).log) (fun straps key s _ => (takePowerOn_kept _ key s).log ?_)
    (fun c s hc _ => (effectOf_kept hc s).log) h ht
  rw [powerUp_eq]
  simp only
  split <;> simp [logInv, Cannon.powerOn]

/-- Settles O58, part by part: the account, the log, the slots and the samples do not depend on one another. -/
theorem recordsAreKept : Obligations.RecordsAreKept := by
  unfold Obligations.RecordsAreKept
  intro s t ha hl hs hw ht
  exact ⟨accountIsKept ha ht, logIsKept hl ht, slotsAreKept hs ht, windIsKept hw ht⟩

end Sys2Proof.Machine
end

section
/-! PROOFS. What every step keeps: the alarm flags and the relay (R174, R177), and the Dust Watch Unit (R117, R119, R129,
R131). -/

namespace Sys2Proof.Machine

/-! ### The alarm flags and the relay -/

/-- The law of the flags between two arrivals, and of the relay. -/
def alarmsInv (s : State) : Prop := settled s ∧ relayInv s

theorem followAll_idem (sec : Nat) (c : PerFlag Bool) (f : PerFlag Flag) :
    followAll sec c (followAll sec c f) = followAll sec c f := by
  simp only [followAll, Flag.follow_same (Flag.follow_cond _ _ _).symm]

/-- Flags that have followed their conditions have nothing left to follow. -/
theorem syncAlarms_idem (s : State) : syncAlarms (syncAlarms s) = syncAlarms s := by
  show s.setAlarms
      { flags := followAll s.sec s.conditions (followAll s.sec s.conditions s.alarms.flags)
        relay := relayLevel s.relaySet
          (followAll s.sec s.conditions (followAll s.sec s.conditions s.alarms.flags)) } = _
  rw [followAll_idem]
  rfl

theorem closeStatus_left (s0 s : State) : (closeStatus s0 s).line.left = false := by
  unfold closeStatus
  split <;> rfl

theorem closeStatus_conditions (s0 s : State) : (closeStatus s0 s).conditions = s.conditions := by
  have ho := closeStatus_only s0 s
  obtain ⟨_, _, _, _, _, _, _, hiso, hdup⟩ := closeStatus_line s0 s
  have hc : (closeStatus s0 s).cannon = s.cannon := ho .cannon (by decide)
  have hcl : (closeStatus s0 s).claim = s.claim := ho .claim (by decide)
  have hac : (closeStatus s0 s).account = s.account := ho .account (by decide)
  have hw : (closeStatus s0 s).wind = s.wind := ho .wind (by decide)
  have hf : (closeStatus s0 s).forecast = s.forecast := ho .forecast (by decide)
  have hst : (closeStatus s0 s).station = s.station := ho .station (by decide)
  simp only [State.conditions, State.freshExhausted, State.windLost, State.configAbsent, State.validConfig, hc, hcl,
    hac, hw, hf, hst, hiso, hdup]

theorem relaySet_of_station {s t : State} (h : t.station = s.station) : t.relaySet = s.relaySet := by
  unfold State.relaySet State.validConfig
  rw [h]

/-- The end of an arrival establishes the law of the flags and of the relay, whatever the effect was. -/
theorem closeArrival_alarmsInv (s0 s : State) : alarmsInv (closeArrival s0 s) := by
  have ha : (closeArrival s0 s).alarms = (syncAlarms s).alarms := closeArrival_alarms s0 s
  have hst : (closeArrival s0 s).station = s.station := closeArrival_only s0 s .station (by decide)
  have hr : (closeArrival s0 s).relaySet = s.relaySet := relaySet_of_station hst
  refine ⟨⟨fun _ => ?_, closeStatus_left s0 _⟩, ?_⟩
  · exact syncAlarms_same (syncAlarms_idem s) ha (closeStatus_conditions s0 (syncAlarms s)) hr
  · unfold relayInv
    rw [ha, hr]
    rfl

/-- What the conditions, the flags, the relay choice and the mark of the arrival depend on is all that counts. -/
theorem alarmsInv_of_only {fs : List Field} {s t : State} (h : onlyChanges fs s t)
    (hd : ∀ f ∈ fs, f ∈ [Field.now, .pending, .free]) (hs : alarmsInv s) : alarmsInv t := by
  have ho : onlyChanges [.now, .pending, .free] s t := only_mono h hd
  have ha : t.alarms = s.alarms := ho .alarms (by decide)
  have hl : t.line = s.line := ho .line (by decide)
  have hst : t.station = s.station := ho .station (by decide)
  have hr : t.relaySet = s.relaySet := relaySet_of_station hst
  have hcn : t.cannon = s.cannon := ho .cannon (by decide)
  have hcl : t.claim = s.claim := ho .claim (by decide)
  have hac : t.account = s.account := ho .account (by decide)
  have hw : t.wind = s.wind := ho .wind (by decide)
  have hf : t.forecast = s.forecast := ho .forecast (by decide)
  have hc : t.conditions = s.conditions := by
    simp only [State.conditions, State.freshExhausted, State.windLost, State.configAbsent, State.validConfig, hcn,
      hcl, hac, hw, hf, hst, hl]
  obtain ⟨⟨hsync, hleft⟩, hrelay⟩ := hs
  refine ⟨⟨fun hm => syncAlarms_same (hsync (hst ▸ hm)) ha hc hr, by rw [hl]; exact hleft⟩, ?_⟩
  unfold relayInv at *
  rw [ha, hr]
  exact hrelay

/-- Settles O50. An arrival ends with the flags synchronised and the mark put back; the idle step touches nothing that
the law depends on. -/
theorem flagsFollow : Obligations.FlagsFollow := by
  unfold Obligations.FlagsFollow
  intro s t hs hr h
  have hpend : ∀ l, alarmsInv (s.setPending l) := fun l =>
    alarmsInv_of_only (setPending_only s l) (by decide) ⟨hs, hr⟩
  show alarmsInv t
  unfold step at h
  split at h
  case h_2 =>
    cases h
    exact alarmsInv_of_only (idle_only s) (by decide) ⟨hs, hr⟩
  case h_1 c rest _ =>
    by_cases hc : Instr.ordinary c
    · by_cases hm : (s.setPending rest).station.mode = .start
      · rw [exec_start hc hm] at h
        cases h
        exact hpend rest
      · rw [exec_started hc hm] at h
        cases h
        exact closeArrival_alarmsInv _ _
    · simp only [Instr.ordinary, Classical.not_forall, Classical.not_not] at hc
      obtain ⟨straps, key, rfl⟩ := hc
      cases h
      exact closeArrival_alarmsInv _ _

/-! ### The pending answers (R129) and the cover list (R131) -/

/-- The pending answers in the order of their times and then of their targets, one for a target. -/
def answersInv (l : List PendingAnswer) : Prop :=
  (l.map PendingAnswer.target).Nodup
    ∧ l.Pairwise fun a b => a.formed < b.formed ∨ (a.formed = b.formed ∧ a.target < b.target)

theorem insertAnswer_perm (a : PendingAnswer) (l : List PendingAnswer) : (insertAnswer a l).Perm (a :: l) := by
  induction l with
  | nil => exact List.Perm.refl _
  | cons b l ih =>
    unfold insertAnswer
    split
    · exact List.Perm.refl _
    · exact (ih.cons b).trans (List.Perm.swap a b l)

theorem answersInv_sublist {l m : List PendingAnswer} (h : answersInv l) (hs : m.Sublist l) : answersInv m :=
  ⟨h.1.sublist (hs.map _), h.2.sublist hs⟩

/-- An answer to a target that is not among them takes its place in the order. -/
theorem answersInv_insert {a : PendingAnswer} {l : List PendingAnswer} (h : answersInv l)
    (hn : ∀ b ∈ l, b.target ≠ a.target) : answersInv (insertAnswer a l) := by
  refine ⟨?_, ?_⟩
  · rw [((insertAnswer_perm a l).map _).nodup_iff, List.map_cons, List.nodup_cons, List.mem_map]
    exact ⟨fun ⟨b, hb, he⟩ => hn b hb he, h.1⟩
  · induction l with
    | nil => exact List.pairwise_singleton _ _
    | cons b l ih =>
      have hl : answersInv l := answersInv_sublist h (List.sublist_cons_self b l)
      obtain ⟨hb, hp⟩ := List.pairwise_cons.1 h.2
      unfold insertAnswer
      split
      · rename_i hab
        refine List.pairwise_cons.2 ⟨fun c hc => ?_, h.2⟩
        rcases List.mem_cons.1 hc with rfl | hc
        · exact hab
        · have := hb c hc
          omega
      · rename_i hab
        refine List.pairwise_cons.2 ⟨fun c hc => ?_, ih hl fun c hc => hn c (List.mem_cons_of_mem _ hc)⟩
        rcases List.mem_cons.1 ((insertAnswer_perm a l).subset hc) with rfl | hc
        · have := hn b List.mem_cons_self
          omega
        · exact hb c hc

theorem dropAnswer_ne {n : Nat} {l : List PendingAnswer} {b : PendingAnswer} (h : b ∈ dropAnswer n l) :
    b.target ≠ n := by
  have := (List.mem_filter.1 h).2
  simpa using this

theorem answersInv_drop {l : List PendingAnswer} (n : Nat) (h : answersInv l) : answersInv (dropAnswer n l) :=
  answersInv_sublist h List.filter_sublist

/-- At most 8 cover entries, one for a responder. -/
def coverInv (cs : List CoverEntry) : Prop := cs.length ≤ 8 ∧ (cs.map CoverEntry.responder).Nodup

theorem putCover_inv {e : CoverEntry} {cs : List CoverEntry} (h : coverInv cs) : coverInv (putCover e cs) := by
  obtain ⟨hlen, hnd⟩ := h
  unfold putCover
  split
  · refine ⟨by simpa using hlen, ?_⟩
    have : (cs.map fun c => if c.responder = e.responder then e else c).map CoverEntry.responder
        = cs.map CoverEntry.responder := by
      rw [List.map_map]
      refine List.map_congr_left fun c _ => ?_
      simp only [Function.comp_apply]
      split
      · rename_i hr
        exact hr.symm
      · rfl
    rw [this]
    exact hnd
  rename_i hany
  split
  · simp only [List.any_eq_true, decide_eq_true_eq, not_exists, not_and] at hany
    exact ⟨by simp only [List.length_append, List.length_singleton]; omega, nodup_map_concat hnd hany⟩
  · exact ⟨hlen, hnd⟩

/-! ### The Dust Watch Unit -/

/-- The limits of the Dust Watch Unit but that of the exceedance count, which passes 2 while a notice begins. -/
def dustRest (d : Dust) : Prop := d.window.length ≤ 6 ∧ coverInv d.cover ∧ answersInv d.answers

theorem dustInv_iff (d : Dust) : dustInv d ↔ d.count ≤ 2 ∧ dustRest d := by
  simp only [dustInv, dustRest, coverInv, answersInv]
  exact ⟨fun ⟨h1, h2, h3, h4, h5, h6⟩ => ⟨h2, h1, ⟨h3, h4⟩, h5, h6⟩, fun ⟨h2, h1, ⟨h3, h4⟩, h5, h6⟩ =>
    ⟨h1, h2, h3, h4, h5, h6⟩⟩

theorem dustInv_reads : readsOnly [.dust] fun s => dustInv s.dust := by
  intro s t h hs
  have : t.dust = s.dust := h .dust (by decide)
  simp only [this]
  exact hs

/-- The Dust Watch Unit keeps its limits, and its exceedance count is not raised. -/
def dustKept (d e : Dust) : Prop := e.count ≤ d.count ∧ (dustRest d → dustRest e)

theorem dustKept_refl (d : Dust) : dustKept d d := ⟨Nat.le_refl _, id⟩

theorem dustKept_trans {d e f : Dust} (h : dustKept d e) (k : dustKept e f) : dustKept d f :=
  ⟨Nat.le_trans k.1 h.1, k.2 ∘ h.2⟩

theorem dustInv_of_kept {d e : Dust} (h : dustKept d e) (hd : dustInv d) : dustInv e := by
  rw [dustInv_iff] at *
  exact ⟨Nat.le_trans h.1 hd.1, h.2 hd.2⟩

theorem dust_of_lineOffer (c : Content) (s : State) : (lineOffer c s).1.dust = s.dust :=
  lineOffer_only c s .dust (by decide)

theorem sendAnswer_dustKept (a : PendingAnswer) (s : State) : dustKept s.dust (sendAnswer a s).dust := by
  have hl := dust_of_lineOffer a.content s
  unfold sendAnswer
  simp only [State.onDust, State.setDust_dust, hl]
  refine ⟨Nat.le_refl _, fun ⟨hw, hc, ha⟩ => ⟨hw, hc, ?_⟩⟩
  simp only
  split
  · exact answersInv_drop _ ha
  · exact answersInv_insert (answersInv_drop _ ha) fun b hb => dropAnswer_ne hb

theorem retryAnswer_dustKept (s : State) (a : PendingAnswer) : dustKept s.dust (retryAnswer s a).dust := by
  have hl := dust_of_lineOffer a.content s
  unfold retryAnswer
  simp only
  split
  · simp only [State.onDust, State.setDust_dust, hl]
    exact ⟨Nat.le_refl _, fun ⟨hw, hc, ha⟩ => ⟨hw, hc, answersInv_drop _ ha⟩⟩
  · rw [hl]
    exact dustKept_refl _

theorem retryAnswers_dustKept (s : State) : dustKept s.dust (retryAnswers s).dust := by
  have hf : ∀ (l : List PendingAnswer) (s : State), dustKept s.dust (l.foldl retryAnswer s).dust := by
    intro l
    induction l with
    | nil => exact fun s => dustKept_refl s.dust
    | cons a l ih => exact fun s => dustKept_trans (retryAnswer_dustKept s a) (ih _)
  unfold retryAnswers
  split
  · exact hf _ s
  · exact dustKept_refl _

theorem announceNotice_dustKept (s : State) : dustKept s.dust (announceNotice s).dust := by
  have hl := dust_of_lineOffer s.plumeContent s
  unfold announceNotice
  simp only [State.onDust, State.setDust_dust, hl]
  exact ⟨Nat.le_refl _, id⟩

theorem retryNotice_dustKept (s : State) : dustKept s.dust (retryNotice s).dust := by
  unfold retryNotice
  split
  · exact announceNotice_dustKept s
  · exact dustKept_refl _

theorem retryDust_dustKept (s : State) : dustKept s.dust (retryDust s).dust :=
  dustKept_trans (retryNotice_dustKept s) (retryAnswers_dustKept _)

theorem Dust.takeCover_kept (sec : Nat) (e : CoverEntry) (d : Dust) : dustKept d (d.takeCover sec e) := by
  unfold Dust.takeCover
  simp only
  split <;> exact ⟨Nat.le_refl _, fun ⟨hw, hc, ha⟩ => ⟨hw, putCover_inv hc, ha⟩⟩

theorem selfTest_dustKept (s : State) : dustKept s.dust (selfTest s).dust := by
  have hd : (formAnswer s.wind.record.bearing s.station.node s).1.dust = s.dust :=
    formAnswer_only _ _ s .dust (by decide)
  unfold selfTest
  simp only [State.onDust, State.setDust_dust, hd]
  exact Dust.takeCover_kept _ _ _

/-- What follows the first change at the beginning of a notice: the self-test and the announcement. -/
theorem announced_dustKept (s : State) : dustKept s.dust (announceNotice (selfTest s)).dust :=
  dustKept_trans (selfTest_dustKept s) (announceNotice_dustKept _)

/-- A notice begins with the count at 0, whatever it was (R120). -/
theorem startNotice_dustInv {s : State} (h : dustRest s.dust) : dustInv (startNotice s).dust := by
  obtain ⟨hw, _, ha⟩ := h
  rw [dustInv_iff]
  unfold startNotice
  refine ⟨Nat.zero_le _, ?_⟩
  exact (announced_dustKept _).2 ⟨hw, ⟨Nat.zero_le _, List.nodup_nil⟩, ha⟩

theorem returnToExceed_dustKept (s : State) : dustKept s.dust (returnToExceed s).dust := by
  unfold returnToExceed
  exact announced_dustKept (s.onDust fun d => { d with level := .exceed, recovery := .stopped })

theorem applyMean_dustInv {m : Nat} {s : State} (h : dustInv s.dust) : dustInv (applyMean m s).dust := by
  obtain ⟨hcount, hrest⟩ := (dustInv_iff _).1 h
  unfold applyMean
  simp only
  split
  · split
    · exact h
    · exact h
  · split
    · exact dustInv_of_kept (returnToExceed_dustKept s) h
    split
    · exact h
    · exact h
  · split
    · exact startNotice_dustInv hrest
    · exact (dustInv_iff _).2 ⟨by simp only [State.onDust, State.setDust_dust]; omega, hrest⟩

theorem takeReading_dustInv {v : Nat} {s : State} (h : dustInv s.dust) : dustInv (takeReading v s).dust := by
  obtain ⟨hcount, _, hc, ha⟩ := (dustInv_iff _).1 h
  have hw : (pushReading v s.dust.window).length ≤ 6 := by
    simp only [pushReading, List.length_drop, List.length_append, List.length_singleton]
    omega
  have h1 : ∀ g : Dust → Dust, (∀ d, (g d).window = pushReading v s.dust.window ∧ (g d).count = d.count
      ∧ (g d).cover = d.cover ∧ (g d).answers = d.answers) → dustInv (g s.dust) := by
    intro g hg
    obtain ⟨e1, e2, e3, e4⟩ := hg s.dust
    rw [dustInv_iff, dustRest, e1, e2, e3, e4]
    exact ⟨hcount, hw, hc, ha⟩
  unfold takeReading
  simp only
  split
  · refine applyMean_dustInv ?_
    exact h1 (fun d => { d with window := pushReading v s.dust.window, silent := false, watch := .startAt s.now 40000
                                mean := some _, recovery := d.recovery.resume s.now }) fun _ => ⟨rfl, rfl, rfl, rfl⟩
  · exact h1 (fun d => { d with window := pushReading v s.dust.window, silent := false, watch := .startAt s.now 40000 })
      fun _ => ⟨rfl, rfl, rfl, rfl⟩

theorem takeDustReading_dustInv {v : Int} {s : State} (h : dustInv s.dust) : dustInv (takeDustReading v s).dust := by
  unfold takeDustReading
  split
  · refine dustInv_of_kept (retryAnswers_dustKept _) ?_
    split
    · exact dustInv_of_kept (retryNotice_dustKept _) (takeReading_dustInv h)
    · exact takeReading_dustInv h
  · exact h

theorem takeReadingWatch_dustInv {s : State} (h : dustInv s.dust) : dustInv (takeReadingWatch s).dust := by
  obtain ⟨_, hrest⟩ := (dustInv_iff _).1 h
  unfold takeReadingWatch
  split
  · split
    · exact dustInv_of_kept (retryDust_dustKept _) h
    · exact (dustInv_iff _).2 ⟨Nat.zero_le _, Nat.zero_le _, hrest.2⟩
  · exact h

theorem takePlumeRefresh_dustInv {s : State} (h : dustInv s.dust) : dustInv (takePlumeRefresh s).dust := by
  unfold takePlumeRefresh
  split
  · split
    · exact dustInv_of_kept (announceNotice_dustKept s) h
    · exact h
  · exact h

theorem takeRecovery_dustInv {s : State} (h : dustInv s.dust) : dustInv (takeRecovery s).dust := by
  obtain ⟨_, hrest⟩ := (dustInv_iff _).1 h
  unfold takeRecovery
  split
  · split
    · exact (dustInv_iff _).2 ⟨Nat.zero_le _, hrest⟩
    · exact h
  · exact h

theorem takeResponseWindow_dustInv {s : State} (h : dustInv s.dust) : dustInv (takeResponseWindow s).dust := by
  unfold takeResponseWindow
  split
  · split <;> exact h
  · exact h

theorem takePendingAnswer_dustInv {n : Nat} {s : State} (h : dustInv s.dust) :
    dustInv (takePendingAnswer n s).dust := by
  obtain ⟨hcount, hw, hc, ha⟩ := (dustInv_iff _).1 h
  exact (dustInv_iff _).2 ⟨hcount, hw, hc, answersInv_sublist ha List.filter_sublist⟩

theorem returnAnswer_dustKept (a : PendingAnswer) (s : State) : dustKept s.dust (returnAnswer a s).dust := by
  unfold returnAnswer
  split
  · exact dustKept_refl _
  · rename_i hany
    simp only [List.any_eq_true, decide_eq_true_eq, not_exists, not_and] at hany
    exact ⟨Nat.le_refl _, fun ⟨hw, hc, ha⟩ => ⟨hw, hc, answersInv_insert ha hany⟩⟩

theorem takeCollision_dustInv {s : State} (h : dustInv s.dust) : dustInv (takeCollision s).dust := by
  unfold takeCollision
  split
  · split
    · exact h
    split
    · unfold frameLost
      split
      · exact dustInv_of_kept (returnAnswer_dustKept _ _) h
      · exact h
    · exact h
  · exact h

theorem takePlume_dustInv {n : Nat} {m : PlumeMsg} {s : State} (h : dustInv s.dust) :
    dustInv (takePlume n m s).dust := by
  unfold takePlume
  split
  · exact dustInv_of_kept (sendAnswer_dustKept _ _)
      (keeps_of_only dustInv_reads (formAnswer_only _ _ _) (by decide) h)
  · exact h

theorem takeCoverFrame_dustInv {n : Nat} {m : CoverMsg} {s : State} (h : dustInv s.dust) :
    dustInv (takeCoverFrame n m s).dust := by
  unfold takeCoverFrame
  split
  · exact dustInv_of_kept (Dust.takeCover_kept _ _ _) h
  · exact h

theorem handCover_dustInv {n : Nat} {payload : List Byte} {s : State} (h : dustInv s.dust) :
    dustInv (handCover n payload s).dust := by
  unfold handCover
  split
  · exact handFrame_keeps dustInv_reads (by decide) h fun _ => takeCoverFrame_dustInv
  · exact handFrame_keeps dustInv_reads (by decide) h fun _ h => h

theorem startListen_dust (s : State) : (startListen s).dust = { s.dust with watch := .running (s.now + 40000) } :=
  (startStandby_only _ .dust (by decide)).trans (startSweep_only _ .dust (by decide))

theorem enterListenFresh_dustInv {s : State} (h : dustInv s.dust) : dustInv (enterListenFresh s).dust := by
  refine keeps_of_only dustInv_reads (startFirstListen_only _) (by decide) ?_
  refine keeps_of_only dustInv_reads (fallbackAtListen_only _) (by decide) ?_
  refine keeps_of_only dustInv_reads (formRecords_only _) (by decide) ?_
  rw [startListen_dust]
  exact h

theorem endCommission_dustInv {s : State} (h : dustInv s.dust) : dustInv (endCommission s).dust := by
  unfold endCommission
  split
  · exact enterListenFresh_dustInv h
  · exact h

theorem enterRun_dustInv {s : State} (h : dustInv s.dust) : dustInv (enterRun s).dust := by
  refine keeps_of_only dustInv_reads (trySelection_only _) (by decide) ?_
  refine dustInv_of_kept (retryDust_dustKept _) ?_
  exact keeps_of_only dustInv_reads (offerStatus_only _) (by decide) h

theorem restart_dustInv (d : Dust) : dustInv d.restart := by
  simp [dustInv, Dust.restart]

theorem clearBlocks_dust (s : State) : (clearBlocks s).dust = (chainEnd .restart (clearQueue s)).dust.restart := by
  simp [clearBlocks, State.onDust, State.onLine, noClaim]

theorem takeRestart_dustInv (s : State) : dustInv (takeRestart s).dust := by
  refine keeps_of_only dustInv_reads (restartCannon_only _) (by decide) ?_
  refine keeps_of_only dustInv_reads (startFirstListen_only _) (by decide) ?_
  have hc : dustInv (clearBlocks s).dust := by
    rw [clearBlocks_dust]
    exact restart_dustInv _
  rw [startListen_dust]
  exact hc

theorem restartWith_dustInv {s : State} (h : dustInv s.dust) : dustInv (restartWith s).1.dust := by
  unfold restartWith
  split
  · exact takeRestart_dustInv s
  · exact h

theorem effectOf_dustInv {c : Instr} (hc : Instr.ordinary c) {s : State} (h : dustInv s.dust) :
    dustInv (effectOf c s).dust := by
  by_cases ht : Field.dust ∈ touched c
  case neg => rwa [effectOf_only hc s .dust ht]
  cases c
  case dustReading => exact takeDustReading_dustInv h
  case readingWatchExpiry => exact takeReadingWatch_dustInv h
  case commissioningKeyRelease =>
    show dustInv (takeKeyRelease s).dust
    unfold takeKeyRelease
    split
    · exact endCommission_dustInv (s := s.setPins { s.pins with key := false }) h
    · exact h
  case commissioningWindowExpiry =>
    show dustInv (takeWindowExpiry s).dust
    unfold takeWindowExpiry
    split
    · split
      · exact endCommission_dustInv h
      · exact h
    · exact h
  case listenTimerExpiry =>
    show dustInv (takeListenTimer s).dust
    unfold takeListenTimer
    split
    · split
      · exact enterRun_dustInv h
      · exact h
    · exact h
  case plumeFrame =>
    exact takeFrame_keeps dustInv_reads (by decide) h fun _ h =>
      handFrame_keeps dustInv_reads (by decide) h fun _ => takePlume_dustInv
  case coverFrame => exact takeFrame_keeps dustInv_reads (by decide) h fun _ => handCover_dustInv
  case collision => exact takeCollision_dustInv h
  case restart =>
    exact takeCommand_keeps (P := fun s => dustInv s.dust) (fun _ _ h => h) (fun _ => restartWith_dustInv) h
  case plumeRefresh => exact takePlumeRefresh_dustInv h
  case recoveryExpiry => exact takeRecovery_dustInv h
  case responseWindowExpiry => exact takeResponseWindow_dustInv h
  case pendingAnswerExpiry => exact takePendingAnswer_dustInv h
  all_goals exact absurd ht (by simp [touched, deep, shallow])

/-- Settles O57. Readings, answers and cover entries each keep their own limit; the count that reaches 3 begins a notice,
which puts it back to 0. -/
theorem dustIsKept : Obligations.DustIsKept := by
  unfold Obligations.DustIsKept
  intro s t
  refine step_keeps_of_reads dustInv_reads (by decide) (fun straps key s _ => ?_) fun c s hc _ _ h =>
    effectOf_dustInv hc h
  have hu : dustInv (powerUp straps.val key s).dust := by
    rw [powerUp_eq]
    simp [dustInv, State.reset, Dust.powerOn]
  unfold takePowerOn leaveStart
  split
  · exact enterListenFresh_dustInv hu
  · exact hu
  · exact hu

end Sys2Proof.Machine
end


section
/-! PROOFS. O52: the law of the valve, the drive, the claim and the chain, kept by every command. -/

namespace Sys2Proof.Machine

/-! ### What `cannonInv` reads -/

/-- The cannon works at a chain's segment: it moves towards it, claims for it or sprays. -/
def CannonState.serves : CannonState → Bool
  | .slewing => true
  | .claiming => true
  | .spraying => true
  | _ => false

theorem CannonState.serves_iff (c : CannonState) : c.serves = true ↔ c = .slewing ∨ c = .claiming ∨ c = .spraying := by
  cases c <;> simp [serves]

theorem CannonState.idle_of_not_serves {c : CannonState} (h : c.serves = false) :
    c ≠ .slewing ∧ c ≠ .claiming ∧ c ≠ .spraying := by
  cases c <;> simp_all [serves]

/-- The cannon stands without a chain, its valve closed, its drive still and its claim NONE. -/
structure AtRest (s : State) : Prop where
  chain : s.cannon.chain = none
  valve : s.cannon.valveOpen = false
  drive : s.cannon.drive = none
  claim : s.claim.own.state = .none

/-- A chain stands as it may: in RUN, without locks, and with the request answered. -/
structure ChainActive (s : State) : Prop where
  chain : s.cannon.chain.isSome = true
  run : s.station.mode = .run
  locks : s.lockout.locks = []
  request : s.queue.request = false

/-- A chain may go on from here to its next segment: the valve is closed, the drive still and the claim NONE. -/
structure ChainReady (s : State) : Prop extends ChainActive s where
  valve : s.cannon.valveOpen = false
  drive : s.cannon.drive = none
  claim : s.claim.own.state = .none

theorem cannonInv_of_rest {s : State} (h : AtRest s) (hs : s.cannon.state.serves = false) : cannonInv s := by
  obtain ⟨hc, hv, hd, ho⟩ := h
  obtain ⟨h1, h2, h3⟩ := CannonState.idle_of_not_serves hs
  simp [cannonInv, hc, hv, hd, ho, h1, h2, h3]

theorem atRest_of_inv {s : State} (h : cannonInv s) (hc : s.cannon.chain = none) :
    AtRest s ∧ s.cannon.state.serves = false := by
  obtain ⟨hvalve, hdrive, -, hclaim, -, -, -, hserve⟩ := h
  have hs : s.cannon.state.serves = false := by
    rw [← Bool.not_eq_true, CannonState.serves_iff]
    exact fun hs => by simp [hc] at hserve; simp_all
  obtain ⟨h1, h2, h3⟩ := CannonState.idle_of_not_serves hs
  refine ⟨⟨hc, ?_, ?_, ?_⟩, hs⟩
  · exact Bool.eq_false_iff.mpr fun hv => h3 (hvalve hv)
  · exact Classical.not_not.mp fun hd => (hdrive hd).elim h1 h3
  · exact Classical.not_not.mp fun ho => (hclaim ho).elim h2 h3

theorem active_of_inv {s : State} (h : cannonInv s) (hc : s.cannon.chain.isSome = true) : ChainActive s := by
  obtain ⟨-, -, -, -, hchain, hreq, -, -⟩ := h
  obtain ⟨hrun, hlock⟩ := hchain hc
  exact ⟨hc, hrun, hlock, Bool.eq_false_iff.mpr fun hr => by simp [hreq hr] at hc⟩

theorem chain_none_of_not_run {s : State} (h : cannonInv s) (hm : s.station.mode ≠ .run) : s.cannon.chain = none := by
  obtain ⟨-, -, -, -, hchain, -, -, -⟩ := h
  exact Option.not_isSome_iff_eq_none.mp fun hc => hm (hchain hc).1

theorem chain_none_of_locked {s : State} (h : cannonInv s) (hl : s.lockout.locks ≠ []) : s.cannon.chain = none := by
  obtain ⟨-, -, -, -, hchain, -, -, -⟩ := h
  exact Option.not_isSome_iff_eq_none.mp fun hc => hl (hchain hc).2

/-- A state of the same cannon, claim state, request, mode and locks. -/
structure SameCannon (s t : State) : Prop where
  cannon : t.cannon = s.cannon
  claim : t.claim.own.state = s.claim.own.state
  request : t.queue.request = s.queue.request
  mode : t.station.mode = s.station.mode
  locks : t.lockout.locks = s.lockout.locks

/-- What the operations of an arrival keep of `cannonInv`. -/
def Sound (s t : State) : Prop := cannonInv s → cannonInv t

theorem sound_refl (s : State) : Sound s s := id

theorem sound_trans {s t u : State} (h : Sound s t) (k : Sound t u) : Sound s u := k ∘ h

theorem sound_ite {s t u : State} {p : Prop} [Decidable p] (ht : Sound s t) (hu : Sound s u) :
    Sound s (if p then t else u) := by
  split <;> assumption

theorem sound_foldl {α : Type} {g : State → α → State} (h : ∀ s a, Sound s (g s a)) (l : List α) (s : State) :
    Sound s (l.foldl g s) := by
  induction l generalizing s with
  | nil => exact sound_refl s
  | cons a l ih => exact sound_trans (h s a) (ih (g s a))

theorem SameCannon.sound {s t : State} (h : SameCannon s t) : Sound s t := by
  obtain ⟨hc, ho, hr, hm, hl⟩ := h
  unfold Sound cannonInv
  rw [hc, ho, hr, hm, hl]
  exact id

/-- What leaves the cannon, the claim, the station and the locks alone, and the open request. -/
theorem sameCannon_of_only {fs : List Field} {s t : State} (h : onlyChanges fs s t)
    (hf : ∀ f ∈ [Field.cannon, .claim, .station, .lockout], f ∉ fs) (hr : t.queue.request = s.queue.request) :
    SameCannon s t := by
  have hc : t.cannon = s.cannon := h .cannon (hf _ (by decide))
  have ho : t.claim = s.claim := h .claim (hf _ (by decide))
  have hm : t.station = s.station := h .station (hf _ (by decide))
  have hl : t.lockout = s.lockout := h .lockout (hf _ (by decide))
  exact ⟨hc, by rw [ho], hr, by rw [hm], by rw [hl]⟩

theorem sound_of_only {fs : List Field} {s t : State} (h : onlyChanges fs s t)
    (hf : ∀ f ∈ [Field.cannon, .claim, .station, .lockout, .queue], f ∉ fs) : Sound s t := by
  have hq : t.queue = s.queue := h .queue (hf _ (by decide))
  refine (sameCannon_of_only h (fun f hm => hf f ?_) (by rw [hq])).sound
  exact List.mem_append_left [Field.queue] hm

/-- A change of the cannon that leaves its valve no more open, its drive, its state and its chain. -/
theorem sound_onCannon (s : State) {g : Cannon → Cannon}
    (hv : (g s.cannon).valveOpen = true → s.cannon.valveOpen = true) (hd : (g s.cannon).drive = s.cannon.drive)
    (hs : (g s.cannon).state = s.cannon.state) (hc : (g s.cannon).chain.isSome = s.cannon.chain.isSome) :
    Sound s (s.onCannon g) := by
  have hn : (g s.cannon).chain = none ↔ s.cannon.chain = none := by
    rw [← Option.isNone_iff_eq_none, ← Option.isNone_iff_eq_none, ← Option.not_isSome, ← Option.not_isSome, hc]
  rintro ⟨h1, h2, h3, h4, h5, h6, h7, h8⟩
  simp only [cannonInv, State.onCannon, State.setCannon_cannon, State.setCannon_claim, State.setCannon_station,
    State.setCannon_lockout, State.setCannon_queue, hs, hd, hc, hn]
  exact ⟨fun hg => h1 (hv hg), h2, h3, h4, h5, h6, h7, h8⟩

/-! ### The request is left alone by the queue's own operations -/

@[simp] theorem setEntries_request (s : State) (es : List Entry) :
    (s.setEntries es).queue.request = s.queue.request := rfl

@[simp] theorem setRequest_request (s : State) (b : Bool) : (s.setRequest b).queue.request = b := rfl

/-- The Spray Queue after a removal: the entry is gone and the last removal tells of it (R70). -/
theorem removeEntry_spray (r : RemovalReason) (e : Entry) (s : State) :
    (removeEntry r e s).queue =
      { s.queue with
        entries := dropEntry e.face e.cls s.queue.entries
        lastRemoval :=
          some
            { face := e.face, cls := e.cls, origin := e.origin, requested := e.requested, delivered := e.delivered
              deadline := e.deadline, time := s.sec, reason := r } } :=
  recordPrewet_only r e _ .queue (by decide)

@[simp] theorem removeEntry_request (r : RemovalReason) (e : Entry) (s : State) :
    (removeEntry r e s).queue.request = s.queue.request := by
  rw [removeEntry_spray]

theorem setEntries_sameCannon (s : State) (es : List Entry) : SameCannon s (s.setEntries es) := ⟨rfl, rfl, rfl, rfl, rfl⟩

theorem removeEntry_sameCannon (r : RemovalReason) (e : Entry) (s : State) : SameCannon s (removeEntry r e s) :=
  sameCannon_of_only (removeEntry_only r e s) (by decide) (removeEntry_request r e s)

@[simp] theorem admitOffer_request (o : Offer) (s : State) : (admitOffer o s).1.queue.request = s.queue.request := by
  unfold admitOffer
  split
  · rfl
  split
  · rfl
  split
  · rfl
  split
  · split
    · exact removeEntry_request .evicted _ s
    · rfl
  · rfl

@[simp] theorem passDeadline_request (e : Entry) (s : State) : (passDeadline e s).queue.request = s.queue.request := by
  unfold passDeadline
  split
  · rfl
  · exact removeEntry_request _ e s

@[simp] theorem passOffered_request (o : Offer) (s : State) : (passOffered o s).queue.request = s.queue.request := by
  unfold passOffered
  split
  · exact passDeadline_request _ s
  · rfl

@[simp] theorem countAttempt_request (f : FaceId) (c : DemandClass) (s : State) :
    (countAttempt f c s).queue.request = s.queue.request := by
  unfold countAttempt
  split
  · split
    · exact removeEntry_request _ _ s
    · rfl
  · rfl

@[simp] theorem dropReached_request (f : FaceId) (c : DemandClass) (s : State) :
    (dropReached f c s).queue.request = s.queue.request := by
  unfold dropReached
  split
  · split
    · exact removeEntry_request _ _ s
    · rfl
  · rfl

@[simp] theorem endEntry_request (ch : Chain) (c : Cause) (s : State) :
    (endEntry ch c s).queue.request = s.queue.request := by
  unfold endEntry
  split
  · simp only [dropReached_request]
    split
    · exact countAttempt_request _ _ _
    · rfl
  · rfl

@[simp] theorem reduceEntry_request (n : Nat) (s : State) (e : Entry) :
    (reduceEntry n s e).queue.request = s.queue.request := by
  unfold reduceEntry
  split
  · split
    · exact removeEntry_request _ _ s
    · exact removeEntry_request _ _ s
  · rfl

@[simp] theorem completionReduction_request (f : FaceId) (c : DemandClass) (n : Nat) (s : State) :
    (completionReduction f c n s).queue.request = s.queue.request := by
  have hf : ∀ (l : List Entry) (s : State), (l.foldl (reduceEntry n) s).queue.request = s.queue.request := by
    intro l
    induction l with
    | nil => exact fun _ => rfl
    | cons e l ih => exact fun s => (ih _).trans (reduceEntry_request n s e)
  unfold completionReduction
  split
  · rfl
  · exact hf _ s

@[simp] theorem queueChainEnd_request (ch : Chain) (c : Cause) (s : State) :
    (queueChainEnd ch c s).queue.request = s.queue.request :=
  (completionReduction_request _ _ _ _).trans (endEntry_request ch c s)

@[simp] theorem chargeEntry_request (ch : Chain) (s : State) : (chargeEntry ch s).queue.request = s.queue.request := by
  unfold chargeEntry
  split
  · split
    · exact removeEntry_request _ _ s
    · rfl
  · rfl

theorem queueChainEnd_sameCannon (ch : Chain) (c : Cause) (s : State) : SameCannon s (queueChainEnd ch c s) :=
  sameCannon_of_only (queueChainEnd_only ch c s) (by decide) (queueChainEnd_request ch c s)

theorem passDeadlines_sound (s : State) : Sound s (passDeadlines s) :=
  sound_foldl (fun s e =>
    (sameCannon_of_only (passDeadline_only e s) (by decide) (passDeadline_request e s)).sound) _ s

/-! ### The claim's state after the claim's own operations -/

theorem announceClaim_claim (s : State) :
    (announceClaim s).claim =
      { s.claim with own := { s.claim.own with lastAnnounce := some s.sec, refresh := .running (s.now + 30000) } } := by
  have hl := lineOffer_only s.claimContent s
  have hc : (lineOffer s.claimContent s).1.claim = s.claim := hl .claim (by decide)
  have hn : (lineOffer s.claimContent s).1.now = s.now := hl .now (by decide)
  simp only [announceClaim, State.setOwn, State.setClaim_claim, hc, State.sec, hn, Timer.startAt]

@[simp] theorem announceClaim_state (s : State) : (announceClaim s).claim.own.state = s.claim.own.state := by
  rw [announceClaim_claim]

theorem announceClaim_sameCannon (s : State) : SameCannon s (announceClaim s) := by
  have h := announceClaim_only s
  have hq : (announceClaim s).queue = s.queue := h .queue (by decide)
  have hm : (announceClaim s).station = s.station := h .station (by decide)
  have hl : (announceClaim s).lockout = s.lockout := h .lockout (by decide)
  exact ⟨h .cannon (by decide), announceClaim_state s, by rw [hq], by rw [hm], by rw [hl]⟩

@[simp] theorem takeDecision_state (d : Decision) (s : State) : (takeDecision d s).claim.own.state = d.state := by
  unfold takeDecision
  simp only
  split
  · rfl
  · exact announceClaim_state _

@[simp] theorem noClaim_state (s : State) : (noClaim s).claim.own.state = .none := rfl

@[simp] theorem releaseClaim_state (s : State) : (releaseClaim s).claim.own.state = .none := by
  unfold releaseClaim
  split
  · assumption
  · rfl

@[simp] theorem endClaim_state (c : Cause) (s : State) : (endClaim c s).claim.own.state = .none := by
  unfold endClaim
  split
  · rfl
  · rfl
  · exact releaseClaim_state s

theorem askClaim_state (c : DemandClass) (b : Nat) (s : State) :
    (askClaim c b s).claim.own.state = .settling ∨ (askClaim c b s).claim.own.state = s.claim.own.state := by
  unfold askClaim
  split
  · exact .inl (announceClaim_state _)
  · exact .inr rfl

/-! ### The chain's way on -/

theorem enterClaiming_cannonInv (ch : Chain) {s : State} (h : ChainActive s) : cannonInv (enterClaiming ch s) := by
  obtain ⟨hc, hm, hl, hr⟩ := h
  have hs := enterClaiming_only ch s
  have hq : (enterClaiming ch s).queue = s.queue := hs .queue (by decide)
  have hst : (enterClaiming ch s).station = s.station := hs .station (by decide)
  have hlk : (enterClaiming ch s).lockout = s.lockout := hs .lockout (by decide)
  have hcn : (enterClaiming ch s).cannon = { s.cannon.haltSegment s.now with state := .claiming } := by
    unfold enterClaiming
    simp only
    split
    · rfl
    · exact askClaim_only _ _ _ .cannon (by decide)
  have hch : (s.cannon.haltSegment s.now).chain.isSome = true := hc
  simp [cannonInv, hcn, hq, hst, hlk, hm, hl, hr, hc]

theorem enterSlewing_cannonInv (ch : Chain) {s : State} (h : ChainReady s) : cannonInv (enterSlewing ch s) := by
  unfold enterSlewing
  simp only
  split
  · exact enterClaiming_cannonInv ch h.toChainActive
  · obtain ⟨⟨hc, hm, hl, hr⟩, hv, hd, ho⟩ := h
    simp [cannonInv, State.onCannon, State.drawFree, hc, hv, ho, hm, hl, hr]

theorem enterPriming_cannonInv {s : State} (h : ChainReady s) : cannonInv (enterPriming s) := by
  obtain ⟨⟨hc, hm, hl, hr⟩, hv, hd, ho⟩ := h
  simp [cannonInv, enterPriming, State.onCannon, hc, hv, hd, ho, hm, hl, hr]

theorem startChain_cannonInv (e : Entry) {s : State} (h : AtRest s) (hs : s.cannon.selectable = true)
    (hm : s.station.mode = .run) (hl : s.lockout.locks = []) : cannonInv (startChain e s) := by
  obtain ⟨-, hv, hd, ho⟩ := h
  unfold startChain
  simp only
  split
  · split
    · exact enterSlewing_cannonInv _ ⟨⟨rfl, hm, hl, rfl⟩, hv, hd, ho⟩
    · exact enterPriming_cannonInv ⟨⟨rfl, hm, hl, rfl⟩, hv, hd, ho⟩
  · exact enterPriming_cannonInv ⟨⟨rfl, hm, hl, rfl⟩, hv, hd, ho⟩
  · rename_i hp hsb
    have hst : s.cannon.state = .draining ∨ s.cannon.state = .priming := by
      simp only [Cannon.selectable, Bool.and_eq_true, Bool.or_eq_true, decide_eq_true_eq] at hs
      obtain ⟨-, ((h | h) | h) | h⟩ := hs
      · exact absurd h hp
      · exact absurd h hsb
      · exact .inl h
      · exact .inr h
    rcases hst with hst | hst <;>
      simp [cannonInv, State.onCannon, State.setEntries, State.setRequest, hv, hd, ho, hm, hl, hst]

theorem selectable_chain {c : Cannon} (h : c.selectable = true) : c.chain = none := by
  simp only [Cannon.selectable, Bool.and_eq_true, Option.isNone_iff_eq_none] at h
  exact h.1

theorem locked_iff (s : State) : s.locked = true ↔ s.lockout.locks ≠ [] := by
  simp [State.locked]

theorem trySelection_sound (s : State) : Sound s (trySelection s) := by
  intro h
  unfold trySelection
  split
  · rename_i hc
    simp only [Bool.and_eq_true, Bool.not_eq_true', ← Bool.not_eq_true, locked_iff, Classical.not_not] at hc
    obtain ⟨⟨⟨-, hrun⟩, hsel⟩, hlock⟩ := hc
    split
    · exact startChain_cannonInv _ (atRest_of_inv h (selectable_chain hsel)).1 hsel (by simpa [State.inRun] using hrun) hlock
    · exact h
  · exact h

end Sys2Proof.Machine
end


section
/-! PROOFS. O52, continued: the chain's end, the claim's decisions and every command. -/

namespace Sys2Proof.Machine

/-! ### Rest after a chain's end (R83, R84) -/

theorem sameCannon_rest {s t : State} (h : SameCannon s t) (hs : AtRest s) : AtRest t := by
  obtain ⟨hc, hv, hd, ho⟩ := hs
  exact ⟨by rw [h.cannon, hc], by rw [h.cannon, hv], by rw [h.cannon, hd], by rw [h.claim, ho]⟩

/-- A change of the cannon that opens no valve, moves no drive and forms no chain. -/
theorem AtRest.onCannon {s : State} (h : AtRest s) {g : Cannon → Cannon}
    (hg : (g s.cannon).chain = s.cannon.chain ∧ (g s.cannon).valveOpen = s.cannon.valveOpen
      ∧ (g s.cannon).drive = s.cannon.drive) : AtRest (s.onCannon g) := by
  obtain ⟨hc, hv, hd, ho⟩ := h
  obtain ⟨gc, gv, gd⟩ := hg
  exact ⟨gc.trans hc, gv.trans hv, gd.trans hd, ho⟩

theorem AtRest.setRequest {s : State} (h : AtRest s) (b : Bool) : AtRest (s.setRequest b) :=
  ⟨h.chain, h.valve, h.drive, h.claim⟩

section Rest

variable {s : State} (h : AtRest s)

include h

theorem parkCannon_rest : AtRest (parkCannon s) := h.onCannon ⟨rfl, rfl, rfl⟩

theorem lockCannon_rest : AtRest (lockCannon s) := (h.setRequest false).onCannon ⟨rfl, rfl, rfl⟩

theorem drainCannon_rest : AtRest (drainCannon s) := h.onCannon ⟨rfl, rfl, rfl⟩

theorem faultCannon_rest : AtRest (faultCannon s) := (h.setRequest false).onCannon ⟨rfl, rfl, rfl⟩

theorem abandonPriming_rest : AtRest (abandonPriming s) := lockCannon_rest (h.onCannon ⟨rfl, rfl, rfl⟩)

theorem afterChain_rest (c : Cause) (ch : Chain) : AtRest (afterChain c ch s) := by
  unfold afterChain
  split
  · split
    · exact drainCannon_rest (h.setRequest false)
    · split
      · exact drainCannon_rest (h.setRequest false)
      · exact lockCannon_rest h
    · exact lockCannon_rest h
    · exact abandonPriming_rest h
    · exact h.setRequest false
  · exact faultCannon_rest h
  · split
    · exact (parkCannon_rest (h.onCannon ⟨rfl, rfl, rfl⟩)).setRequest true
    · exact faultCannon_rest h
  · exact h.setRequest false
  · split
    · exact h.setRequest true
    · exact h.setRequest true
    · split
      · exact drainCannon_rest (h.setRequest true)
      · exact (parkCannon_rest h).setRequest true

theorem lockCannon_cannonInv : cannonInv (lockCannon s) := cannonInv_of_rest (lockCannon_rest h) rfl

theorem abandonPriming_cannonInv : cannonInv (abandonPriming s) := cannonInv_of_rest (abandonPriming_rest h) rfl

end Rest

/-- Only a RESTART leaves the cannon in a state that serves a chain. -/
theorem afterChain_serves {c : Cause} (hc : c ≠ .restart) (ch : Chain) (s : State) :
    (afterChain c ch s).cannon.state.serves = false := by
  unfold afterChain
  split
  · split
    · rfl
    · split <;> rfl
    · rfl
    · rfl
    · rename_i h1 h2 h3 h4
      show s.cannon.state.serves = false
      cases hst : s.cannon.state <;> simp_all [CannonState.serves]
  · rfl
  · split <;> rfl
  · exact absurd rfl hc
  · split
    · rename_i hst
      exact congrArg CannonState.serves hst
    · rename_i hst
      exact congrArg CannonState.serves hst
    · split <;> rfl

/-- The state in which a chain's end is reported: the cannon halted, the claim ended, the chain recorded and gone. -/
def chainGone (c : Cause) (ch : Chain) (s : State) : State :=
  (endClaim c (s.onCannon Cannon.halt)).onCannon fun d => { d.record s.sec ch c with chain := none }

theorem chainEnd_of_some {c : Cause} {ch : Chain} {s : State} (h : s.cannon.chain = some ch) :
    chainEnd c s = trySelection (queueChainEnd ch c (afterChain c ch (chainGone c ch s))) := by
  unfold chainEnd
  rw [h]
  rfl

theorem chainEnd_of_none {c : Cause} {s : State} (h : s.cannon.chain = none) : chainEnd c s = s := by
  unfold chainEnd
  rw [h]

theorem chainGone_cannon (c : Cause) (ch : Chain) (s : State) :
    (chainGone c ch s).cannon = { s.cannon.halt.record s.sec ch c with chain := none } := by
  have h : (endClaim c (s.onCannon Cannon.halt)).cannon = s.cannon.halt := endClaim_only c _ .cannon (by decide)
  unfold chainGone State.onCannon at *
  rw [State.setCannon_cannon, h]

theorem chainGone_rest (c : Cause) (ch : Chain) (s : State) : AtRest (chainGone c ch s) := by
  have hc := chainGone_cannon c ch s
  exact ⟨by rw [hc], by rw [hc]; rfl, by rw [hc]; rfl, endClaim_state c _⟩

/-- A chain's end leaves the cannon lawful, whatever it was before. -/
theorem chainEnd_cannonInv {c : Cause} (hc : c ≠ .restart) {ch : Chain} {s : State} (h : s.cannon.chain = some ch) :
    cannonInv (chainEnd c s) := by
  rw [chainEnd_of_some h]
  have hq := queueChainEnd_sameCannon ch c (afterChain c ch (chainGone c ch s))
  refine trySelection_sound _ (cannonInv_of_rest (sameCannon_rest hq (afterChain_rest (chainGone_rest c ch s) c ch)) ?_)
  rw [hq.cannon]
  exact afterChain_serves hc ch _

theorem chainEnd_sound {c : Cause} (hc : c ≠ .restart) (s : State) : Sound s (chainEnd c s) := by
  intro h
  cases hch : s.cannon.chain with
  | none => rwa [chainEnd_of_none hch]
  | some ch => exact chainEnd_cannonInv hc hch

/-! ### Requests and offers -/

theorem openRequest_cannonInv {s : State} (h : AtRest s) (hs : s.cannon.state.serves = false) :
    cannonInv (openRequest s) := by
  unfold openRequest
  split
  · exact cannonInv_of_rest h hs
  · exact trySelection_sound _ (cannonInv_of_rest (h.setRequest true) hs)

theorem enterParked_cannonInv {s : State} (h : AtRest s) : cannonInv (enterParked s) :=
  openRequest_cannonInv (parkCannon_rest h) rfl

theorem parkOrLock_cannonInv {s : State} (h : AtRest s) : cannonInv (parkOrLock s) := by
  unfold parkOrLock
  split
  · exact lockCannon_cannonInv h
  · exact enterParked_cannonInv h

theorem preempt_sound (o : Offer) (s : State) : Sound s (preempt o s) := by
  unfold preempt
  split
  · exact sound_ite (chainEnd_sound (by decide) s) (sound_refl s)
  · exact sound_refl s

theorem admitOffer_sound (o : Offer) (s : State) : Sound s (admitOffer o s).1 :=
  (sameCannon_of_only (admitOffer_only o s) (by decide) (admitOffer_request o s)).sound

theorem takenOffer_sound (o : Offer) (s : State) : Sound s (trySelection (preempt o (passOffered o s))) :=
  sound_trans (sameCannon_of_only (passOffered_only o s) (by decide) (passOffered_request o s)).sound
    (sound_trans (preempt_sound o _) (trySelection_sound _))

theorem offerDemand_sound (o : Offer) (s : State) : Sound s (offerDemand o s).1 := by
  have ha := admitOffer_sound o s
  unfold offerDemand
  split
  · rename_i s1 h
    rw [h] at ha
    exact sound_trans ha (takenOffer_sound o s1)
  · rename_i s1 h
    rw [h] at ha
    exact sound_trans ha (takenOffer_sound o s1)
  · exact ha

/-! ### The claim's decisions (R102 to R105) -/

theorem changeOnTime_sound (t : Nat) (s : State) : Sound s (changeOnTime t s) := by
  refine sound_ite (sound_onCannon s ?_ ?_ ?_ ?_) (sound_refl s)
  all_goals
    unfold Cannon.applyOnTime
    split
    · split <;> simp [Cannon.closeValve]
    · simp

section Decide

variable {c : Configuration} {room : Int}

theorem decideClaim_grants (h : Int.ofNat (flowOf c c.tOn) ≤ room) :
    decideClaim c room = { state := .granted, tHeld := some c.tOn, qg := flowOf c c.tOn } := if_pos h

theorem decideClaim_throttles (h : ¬ Int.ofNat (flowOf c c.tOn) ≤ room) (hm : Int.ofNat (flowOf c c.tOnMin) ≤ room) :
    decideClaim c room =
      { state := .throttled, tHeld := some (max c.tOnMin (room.toNat * c.period / c.nozzle))
        qg := flowOf c (max c.tOnMin (room.toNat * c.period / c.nozzle)) } := (if_neg h).trans (if_pos hm)

theorem decideClaim_defers (h : ¬ Int.ofNat (flowOf c c.tOn) ≤ room) (hm : ¬ Int.ofNat (flowOf c c.tOnMin) ≤ room) :
    decideClaim c room = { state := .deferred, tHeld := none, qg := 0 } := (if_neg h).trans (if_neg hm)

end Decide

/-- A decision holds flow exactly where it gives an on-time. -/
theorem decideClaim_holds (c : Configuration) (room : Int) :
    (decideClaim c room).tHeld.isSome = (decideClaim c room).state.holdsFlow := by
  unfold decideClaim
  split
  · rfl
  · split <;> rfl

theorem decideClaim_deferred {c : Configuration} {room : Int} (h : (decideClaim c room).tHeld = none) :
    (decideClaim c room).state = .deferred := by
  by_cases hq : Int.ofNat (flowOf c c.tOn) ≤ room
  · rw [decideClaim_grants hq] at h
    cases h
  by_cases hm : Int.ofNat (flowOf c c.tOnMin) ≤ room
  · rw [decideClaim_throttles hq hm] at h
    cases h
  · rw [decideClaim_defers hq hm]

theorem decision_holds (s : State) : s.decision.tHeld.isSome = s.decision.state.holdsFlow := by
  have h := decideClaim_holds s.cfg s.room
  unfold State.decision Decision.limit
  split
  · rfl
  · exact h

theorem decision_deferred {s : State} (h : s.decision.tHeld = none) : s.decision.state = .deferred := by
  unfold State.decision Decision.limit at *
  split at h
  · cases h
  · exact decideClaim_deferred h

/-- A claim that waits in CLAIMING takes a decision (R77, R102). -/
theorem settleDecision_cannonInv {s : State} (h : cannonInv s) (hst : s.cannon.state = .claiming) :
    cannonInv (settleDecision s.decision s) := by
  obtain ⟨hvalve, hdrive, -, -, hchain, hreq, -, hserve⟩ := h
  have htd := takeDecision_only s.decision s
  have hc : (takeDecision s.decision s).cannon = s.cannon := htd .cannon (by decide)
  have hq : (takeDecision s.decision s).queue = s.queue := htd .queue (by decide)
  have hm : (takeDecision s.decision s).station = s.station := htd .station (by decide)
  have hl : (takeDecision s.decision s).lockout = s.lockout := htd .lockout (by decide)
  have ho := takeDecision_state s.decision s
  have hsome : s.cannon.chain.isSome = true := hserve (by simp [hst])
  obtain ⟨ch, hch⟩ := Option.isSome_iff_exists.mp hsome
  obtain ⟨hrun, hlock⟩ := hchain hsome
  have hreq' : s.queue.request = false := Bool.eq_false_iff.mpr fun hr => by simp [hreq hr] at hsome
  have hv : s.cannon.valveOpen = false := Bool.eq_false_iff.mpr fun hv => by simp [hst] at hvalve; simp [hvalve] at hv
  have hd : s.cannon.drive = none := Classical.not_not.mp fun hd => by simpa [hst] using hdrive hd
  unfold settleDecision
  split
  · rename_i t ht
    have hold : s.decision.state.holdsFlow = true := by
      rw [← decision_holds, ht]
      rfl
    unfold enterSpraying
    rw [hc, hch, hst]
    simp [cannonInv, State.onCannon, Cannon.openValve, hq, hm, hl, hrun, hlock, hreq', hold]
  · rename_i ht
    simp [cannonInv, hc, hq, hm, hl, hrun, hlock, hreq', hst, hv, hd, hsome]

theorem recompute_sound (s : State) : Sound s (recompute s) := by
  intro h
  have hserve := h.2.2.2.1
  unfold recompute
  split
  · exact h
  · exact h
  · rename_i hdef
    split
    · exact h
    refine settleDecision_cannonInv h ((hserve (by simp [hdef])).resolve_right fun hsp => ?_)
    obtain ⟨-, -, hflow, -⟩ := h
    have := hflow hsp
    simp [hdef, ClaimState.holdsFlow] at this
  · rename_i h1 h2 h3
    split
    · rename_i t ht
      refine changeOnTime_sound t _ ?_
      have hold : s.decision.state.holdsFlow = true := by
        rw [← decision_holds, ht]
        rfl
      have htd := takeDecision_only s.decision s
      have hc : (takeDecision s.decision s).cannon = s.cannon := htd .cannon (by decide)
      have hq : (takeDecision s.decision s).queue = s.queue := htd .queue (by decide)
      have hm : (takeDecision s.decision s).station = s.station := htd .station (by decide)
      have hl : (takeDecision s.decision s).lockout = s.lockout := htd .lockout (by decide)
      obtain ⟨hvalve, hdrive, -, hclaim, hchain, hreq, hnone, hsome⟩ := h
      simp only [cannonInv, hc, hq, hm, hl, takeDecision_state]
      exact ⟨hvalve, hdrive, fun _ => hold, fun _ => hclaim (by simpa using h1), hchain, hreq, hnone, hsome⟩
    · exact chainEnd_sound (by decide) s h

theorem recomputeOnCapacity_sound (before : Nat) (s : State) : Sound s (recomputeOnCapacity before s) :=
  sound_ite (sound_refl s) (recompute_sound s)

/-! ### The gating (R97) -/

theorem gatingEffects_sound (before : Gate) (s : State) : Sound s (gatingEffects before s) := by
  refine sound_ite (sound_refl s) ?_
  simp only
  split
  · exact sound_trans (trySelection_sound s) (sound_ite (sound_refl _) (chainEnd_sound (by decide) _))
  · exact trySelection_sound s

theorem rollStale_sound (s : State) : Sound s (rollStale s) :=
  sound_ite (sound_trans (sound_of_only (rollover_only _ _ s) (by decide)) (gatingEffects_sound _ _)) (sound_refl s)

end Sys2Proof.Machine
end


section
/-! PROOFS. O52, concluded: every command keeps the cannon lawful. -/

namespace Sys2Proof.Machine

/-! ### Litres (R81, R82) -/

theorem trySelection_of_closed {s : State} (h : s.queue.request = false) : trySelection s = s := by
  simp [trySelection, h]

theorem releaseClaim_cannon (s : State) : (releaseClaim s).cannon = s.cannon := releaseClaim_only s .cannon (by decide)

/-- A segment's end makes the chain ready for its next segment. -/
theorem completeSegment_cannonInv (ch : Chain) {s : State} (h : cannonInv s) (hc : s.cannon.chain.isSome = true) :
    cannonInv (completeSegment ch s) := by
  obtain ⟨-, hrun, hlock, hopen⟩ := active_of_inv h hc
  unfold completeSegment
  simp only
  split
  · have hr := releaseClaim_only (s.onCannon fun c =>
      { c.haltSegment s.now with
        noFlowCount := 0
        chain := some { ch with completed := ch.completed + 1, index := ch.index + 1, segment := 0 } })
    have hcn := hr .cannon (by decide)
    have hq := hr .queue (by decide)
    have hst := hr .station (by decide)
    have hlk := hr .lockout (by decide)
    simp only [Field.agrees] at hcn hq hst hlk
    exact enterClaiming_cannonInv _
      ⟨by rw [hcn]; rfl, by rw [hst]; exact hrun, by rw [hlk]; exact hlock, by rw [hq]; exact hopen⟩
  · exact chainEnd_cannonInv (by decide) rfl

theorem restartWatch_fields (now n : Nat) (c : Cannon) :
    (c.restartWatch now n).valveOpen = c.valveOpen ∧ (c.restartWatch now n).drive = c.drive
      ∧ (c.restartWatch now n).state = c.state := by
  unfold Cannon.restartWatch
  split <;> exact ⟨rfl, rfl, rfl⟩

theorem chargeChain_sound (s : State) : Sound s (chargeChain s) := by
  unfold chargeChain
  split
  · rename_i ch hch
    refine sound_ite ?_ (sound_refl s)
    have he := sameCannon_of_only (chargeEntry_only ch s) (by decide) (chargeEntry_request ch s)
    obtain ⟨hv, hd, hst⟩ := restartWatch_fields s.now s.cfg.noFlowTime (chargeEntry ch s).cannon
    have h2 : Sound s ((chargeEntry ch s).onCannon fun c =>
        { c.restartWatch s.now s.cfg.noFlowTime with chain := some ch.addLitre }) :=
      sound_trans he.sound (sound_onCannon _ (fun h => hv ▸ h) hd hst (by rw [he.cannon, hch]; rfl))
    simp only
    split
    · exact fun h => completeSegment_cannonInv _ (h2 h) rfl
    · exact h2
  · exact sound_refl s

theorem takeFlowPulse_sound (s : State) : Sound s (takeFlowPulse s) := by
  refine sound_ite ?_ (sound_refl s)
  exact sound_trans (sound_of_only (chargeFaceLitre_only s) (by decide))
    (sound_trans (sound_of_only (setAccount_only _ _) (by decide))
      (sound_trans (chargeChain_sound _) (gatingEffects_sound _ _)))

/-! ### The encoder and the cannon's timers -/

/-- A chain that may go on from a state of the cannon which serves none. -/
theorem chainReady_of_inv {s : State} (h : cannonInv s) (hc : s.cannon.chain.isSome = true)
    (hs : s.cannon.state.serves = false) : ChainReady s := by
  have ha := active_of_inv h hc
  obtain ⟨hvalve, hdrive, -, hclaim, -⟩ := h
  obtain ⟨h1, h2, h3⟩ := CannonState.idle_of_not_serves hs
  exact ⟨ha, Bool.eq_false_iff.mpr fun hv => h3 (hvalve hv),
    Classical.not_not.mp fun hd => (hdrive hd).elim h1 h3, Classical.not_not.mp fun ho => (hclaim ho).elim h2 h3⟩

theorem takeEncoderReport_sound (b : Nat) (s : State) : Sound s (takeEncoderReport b s) := by
  have h1 : Sound s (s.onCannon fun c => { c with bearing := some b }) := sound_onCannon s id rfl rfl rfl
  unfold takeEncoderReport
  simp only
  split
  · rename_i ch hch _
    refine sound_ite (fun h => enterClaiming_cannonInv ch ?_) h1
    exact active_of_inv (h1 h) (by simp [State.onCannon, hch])
  · rename_i ch dir hch hst hdir
    refine sound_ite (fun h => ?_) h1
    obtain ⟨hvalve, hdrive, hflow, hclaim, hchain, hreq, hnone, hserve⟩ := h
    rw [hch] at hchain hreq hnone
    simp_all [cannonInv, State.onCannon]
  · exact h1

theorem startWaiting_cannonInv (ch : Chain) {s : State} (h : ChainReady s) : cannonInv (startWaiting ch s) := by
  obtain ⟨⟨hc, hm, hl, hr⟩, hv, hd, ho⟩ := h
  exact enterSlewing_cannonInv _ ⟨⟨rfl, hm, hl, hr⟩, hv, hd, ho⟩

theorem takeOnTimer_sound (s : State) : Sound s (takeOnTimer s) :=
  sound_ite (sound_onCannon s nofun rfl rfl rfl) (sound_refl s)

theorem takePeriodTimer_sound (s : State) : Sound s (takePeriodTimer s) := by
  unfold takePeriodTimer
  refine sound_ite ?_ (sound_refl s)
  split
  · rename_i hst
    rintro ⟨-, hdrive, hflow, hclaim, hchain, hreq, hnone, hserve⟩
    simp_all [cannonInv, State.onCannon, Cannon.openValve]
  · exact sound_onCannon s id rfl rfl rfl

theorem takeNoFlow_sound (s : State) : Sound s (takeNoFlow s) :=
  sound_ite (sound_trans (sound_onCannon s id rfl rfl rfl) (chainEnd_sound (by decide) _)) (sound_refl s)

theorem takeSlewTimeout_sound (s : State) : Sound s (takeSlewTimeout s) :=
  sound_ite (sound_trans (sound_onCannon s id rfl rfl rfl) (chainEnd_sound (by decide) _)) (sound_refl s)

theorem takePriming_sound (s : State) : Sound s (takePriming s) := by
  unfold takePriming
  refine sound_ite ?_ (sound_refl s)
  split
  · rename_i hst
    have h1 : Sound s (s.onCannon fun c => { c with priming := .stopped, primed := true }) :=
      sound_onCannon s id rfl rfl rfl
    have hs : s.cannon.state.serves = false := by rw [hst]; rfl
    intro h
    simp only
    split
    · rename_i ch hch
      exact startWaiting_cannonInv ch (chainReady_of_inv (h1 h) (by simp [State.onCannon, hch]) hs)
    · rename_i hch
      exact enterParked_cannonInv (atRest_of_inv (h1 h) hch).1
  · exact sound_onCannon s id rfl rfl rfl

theorem takeDrain_sound (s : State) : Sound s (takeDrain s) := by
  unfold takeDrain
  refine sound_ite ?_ (sound_refl s)
  have h1 : Sound s (s.onCannon fun c => { c with drain := .stopped }) := sound_onCannon s id rfl rfl rfl
  simp only
  split
  · rename_i hst
    have hs : s.cannon.state.serves = false := by rw [hst]; rfl
    intro h
    split
    · rename_i hl
      exact lockCannon_cannonInv (atRest_of_inv (h1 h) (chain_none_of_locked h ((locked_iff s).mp hl))).1
    split
    · rename_i ch hch
      exact startWaiting_cannonInv ch (chainReady_of_inv (h1 h) (by simp [State.onCannon, hch]) hs)
    · rename_i hch
      exact enterParked_cannonInv (atRest_of_inv (h1 h) hch).1
  · exact h1

theorem takeStandby_sound (s : State) : Sound s (takeStandby s) := by
  unfold takeStandby
  refine sound_ite ?_ (sound_refl s)
  have h1 : Sound s (s.onCannon fun c => { c with standby := .stopped }) := sound_onCannon s id rfl rfl rfl
  simp only
  split
  · rename_i hst
    intro h
    have hnone : s.cannon.chain = none := h.2.2.2.2.2.2.1 (.inl hst)
    exact openRequest_cannonInv ((atRest_of_inv (h1 h) hnone).1.onCannon ⟨rfl, rfl, rfl⟩) rfl
  · exact h1

theorem setQueue_sound {s : State} {q : SprayQueue} (h : q.request = s.queue.request) : Sound s (s.setQueue q) :=
  SameCannon.sound ⟨rfl, rfl, h, rfl, rfl⟩

theorem setClaim_sound {s : State} {c : ClaimUnit} (h : c.own.state = s.claim.own.state) : Sound s (s.setClaim c) :=
  SameCannon.sound ⟨rfl, h, rfl, rfl, rfl⟩

theorem Sound.after {s t u : State} (k : Sound t u) (h : Sound s t) : Sound s u := k ∘ h

theorem takeFaultHold_sound (f : FaceId) (s : State) : Sound s (takeFaultHold f s) :=
  sound_ite ((trySelection_sound _).after (setQueue_sound rfl)) (sound_refl s)

/-! ### The claim's commands -/

theorem setOwn_sound {s : State} {o : OwnClaim} (h : o.state = s.claim.own.state) : Sound s (s.setOwn o) :=
  SameCannon.sound ⟨rfl, h, rfl, rfl, rfl⟩

theorem takeSettle_sound (s : State) : Sound s (takeSettle s) := by
  unfold takeSettle
  refine sound_ite ?_ (sound_refl s)
  split
  · rename_i hset
    intro h
    obtain ⟨-, -, hflow, hclaim, -⟩ := id h
    refine settleDecision_cannonInv h ((hclaim (by simp [hset])).resolve_right fun hsp => ?_)
    have := hflow hsp
    simp [hset, ClaimState.holdsFlow] at this
  · exact setOwn_sound rfl

theorem takeClaimRefresh_sound (s : State) : Sound s (takeClaimRefresh s) :=
  sound_ite (sound_ite (setOwn_sound rfl) (announceClaim_sameCannon s).sound) (sound_refl s)

theorem takePressure_sound (p : Nat) (s : State) : Sound s (takePressure p s) :=
  sound_ite (sound_ite (setClaim_sound rfl) (setClaim_sound rfl))
    (setClaim_sound rfl)

theorem takeFirstStage_sound (s : State) : Sound s (takeFirstStage s) := by
  unfold takeFirstStage
  split
  · rename_i hdue
    simp only [State.firstStageDue, Bool.and_eq_true, decide_eq_true_eq] at hdue
    obtain ⟨⟨⟨⟨hsp, -⟩, -⟩, -⟩, -⟩ := hdue
    refine sound_trans (sound_trans ?_ (changeOnTime_sound _ _)) (announceClaim_sameCannon _).sound
    rintro ⟨hvalve, hdrive, hflow, hclaim, hchain, hreq, hnone, hserve⟩
    exact ⟨hvalve, hdrive, fun _ => rfl, fun _ => .inr hsp, hchain, hreq, hnone, hserve⟩
  · exact sound_refl s

theorem takeSecondStage_sound (s : State) : Sound s (takeSecondStage s) :=
  sound_ite ((chainEnd_sound (c := .pressure) (by decide) _).after (setClaim_sound rfl)) (sound_refl s)

theorem takeSupplyStale_sound (s : State) : Sound s (takeSupplyStale s) :=
  sound_ite (((rollStale_sound _).after (recomputeOnCapacity_sound _ _)).after (setClaim_sound rfl)) (sound_refl s)

/-- A claim is given up, or asked for, in CLAIMING alone (R77, R86). -/
theorem cutOutEffects_sound (before : Bool) (s : State) : Sound s (cutOutEffects before s) := by
  unfold cutOutEffects
  split
  · exact chainEnd_sound (by decide) s
  · rename_i hst
    split
    · rintro ⟨hvalve, hdrive, hflow, hclaim, hchain, hreq, hnone, hserve⟩
      have hr := releaseClaim_only s
      have hq : (releaseClaim s).queue = s.queue := hr .queue (by decide)
      have hm : (releaseClaim s).station = s.station := hr .station (by decide)
      have hl : (releaseClaim s).lockout = s.lockout := hr .lockout (by decide)
      simp only [cannonInv, releaseClaim_cannon, hq, hm, hl, releaseClaim_state]
      exact ⟨hvalve, hdrive, by simp [hst], by simp, hchain, hreq, hnone, hserve⟩
    · exact sound_refl s
  · rename_i hst
    split
    · rename_i ch hch
      rintro ⟨hvalve, hdrive, hflow, hclaim, hchain, hreq, hnone, hserve⟩
      have ha := askClaim_only ch.cls ch.basis s
      have hc : (askClaim ch.cls ch.basis s).cannon = s.cannon := ha .cannon (by decide)
      have hq : (askClaim ch.cls ch.basis s).queue = s.queue := ha .queue (by decide)
      have hm : (askClaim ch.cls ch.basis s).station = s.station := ha .station (by decide)
      have hl : (askClaim ch.cls ch.basis s).lockout = s.lockout := ha .lockout (by decide)
      simp only [cannonInv, hc, hq, hm, hl]
      exact ⟨hvalve, hdrive, by simp [hst], fun _ => .inl hst, hchain, hreq, hnone, hserve⟩
    · exact sound_refl s
  · exact sound_refl s

theorem takeMinuteClose_sound (s : State) : Sound s (takeMinuteClose s) :=
  sound_ite (sound_trans (sound_of_only (setWind_only s _) (by decide)) (cutOutEffects_sound _ _)) (sound_refl s)

/-! ### Evaluation -/

theorem offerSuppress_sound (f : FaceId) (v : Nat) (s : State) : Sound s (offerSuppress f v s) := by
  have hr : ∀ (s : State) (v : Option Nat) (o : SizingOutcome), Sound s (recordSizing f v o s) := fun s _ _ =>
    sound_of_only (changeRecord_only _ _ s) (by decide)
  have ho := offerDemand_sound { face := f, cls := .suppress, volume := v, origin := .localRisk, deadline := none } s
  unfold offerSuppress
  split
  · exact sound_trans (setEntries_sameCannon s _).sound (hr _ _ _)
  · split <;> rename_i h <;> rw [h] at ho <;> exact sound_trans ho (hr _ _ _)

theorem withdrawSuppress_sound (f : FaceId) (s : State) : Sound s (withdrawSuppress f s) := by
  have hr : ∀ (s : State) (v : Option Nat) (o : SizingOutcome), Sound s (recordSizing f v o s) := fun s _ _ =>
    sound_of_only (changeRecord_only _ _ s) (by decide)
  unfold withdrawSuppress
  split
  · exact sound_ite (sound_trans (hr s _ _) (sound_of_only (setFree_only _ _) (by decide)))
      (sound_trans (removeEntry_sameCannon _ _ s).sound (hr _ _ _))
  · exact hr s _ _

theorem stepSuppress_sound (f : FaceId) (r : FaceRecord) (s : State) : Sound s (stepSuppress f r s) := by
  unfold stepSuppress
  split
  · exact sound_ite (sound_of_only (changeRecord_only _ _ s) (by decide)) (offerSuppress_sound _ _ s)
  · exact sound_of_only (changeRecord_only _ _ s) (by decide)
  · exact withdrawSuppress_sound f s

theorem evaluateFace_sound (s : State) (f : FaceId) : Sound s (evaluateFace s f) := by
  unfold evaluateFace
  split
  · exact sound_trans (sound_of_only (changeRecord_only _ _ s) (by decide))
      (sound_trans (sound_of_only (setAccount_only _ _) (by decide)) (stepSuppress_sound _ _ _))
  · exact sound_refl s

theorem offerPrewet_sound (f : FaceId) (v d : Nat) (s : State) : Sound s (offerPrewet f v d s).1 := by
  have ho := offerDemand_sound { face := f, cls := .prewet, volume := v, origin := .lookahead, deadline := some d } s
  unfold offerPrewet
  split
  · exact sound_refl s
  · split <;> rename_i h <;> rw [h] at ho <;> exact ho

theorem lookAheadFace_sound (s : State) (f : FaceId) : Sound s (lookAheadFace s f) := by
  have hw : ∀ (s : State) (y : Summary), Sound s (writeSummary f y s) := fun s y =>
    sound_of_only (setLook_only s _) (by decide)
  unfold lookAheadFace
  split
  · exact sound_refl s
  simp only
  split
  · exact hw s _
  split
  · exact hw s _
  · exact sound_trans (offerPrewet_sound _ _ _ s) (hw _ _)

theorem takeEvaluation_sound (s : State) : Sound s (takeEvaluation s) :=
  sound_ite
    (sound_trans (sound_of_only (setFace_only s _) (by decide))
      (sound_trans (sound_foldl evaluateFace_sound _ _)
        (sound_ite (sound_refl _) (sound_foldl lookAheadFace_sound _ _))))
    (sound_refl s)

end Sys2Proof.Machine
end


section
/-! PROOFS. O52, concluded: the Dust Watch Unit, Station Control, frames and the panel keep the cannon lawful. -/

namespace Sys2Proof.Machine

/-! ### The Dust Watch Unit -/

theorem offerKnockdowns_sound (theta node : Nat) (p : State × Nat) (f : FaceId) :
    Sound p.1 (offerKnockdowns theta node p f).1 := by
  unfold offerKnockdowns
  split
  · split
    · have ho := offerDemand_sound
        { face := f, cls := .knockdown, volume := p.1.cfg.vKnock, origin := .peerNotice node, deadline := none } p.1
      split <;> rename_i h <;> rw [h] at ho <;> exact ho
    · exact sound_refl _
  · exact sound_refl _

theorem formAnswer_sound (theta node : Nat) (s : State) : Sound s (formAnswer theta node s).1 := by
  have hfold : ∀ (l : List FaceId) (p : State × Nat), Sound p.1 (l.foldl (offerKnockdowns theta node) p).1 := by
    intro l
    induction l with
    | nil => exact fun p => sound_refl p.1
    | cons f l ih => exact fun p => sound_trans (offerKnockdowns_sound theta node p f) (ih _)
  unfold formAnswer
  split
  · exact sound_refl s
  split
  · exact sound_refl s
  split
  · exact sound_refl s
  · exact hfold allFaces (s, 0)

theorem onDust_sound (s : State) (g : Dust → Dust) : Sound s (s.onDust g) := sound_of_only (onDust_only s g) (by decide)

theorem onLine_sound (s : State) (g : Line → Line) : Sound s (s.onLine g) := sound_of_only (onLine_only s g) (by decide)

theorem announceNotice_sound (s : State) : Sound s (announceNotice s) :=
  sound_of_only (announceNotice_only s) (by decide)

theorem selfTest_sound (s : State) : Sound s (selfTest s) :=
  (onDust_sound _ _).after (formAnswer_sound _ _ s)

theorem startNotice_sound (s : State) : Sound s (startNotice s) := by
  unfold startNotice
  exact (((onDust_sound _ _).after (announceNotice_sound _)).after (selfTest_sound _)).after (onDust_sound s _)

theorem returnToExceed_sound (s : State) : Sound s (returnToExceed s) := by
  unfold returnToExceed
  exact (((onDust_sound _ _).after (announceNotice_sound _)).after (selfTest_sound _)).after (onDust_sound s _)

theorem applyMean_sound (m : Nat) (s : State) : Sound s (applyMean m s) := by
  unfold applyMean
  simp only
  split
  · exact sound_ite (onDust_sound s _) (sound_refl s)
  · exact sound_ite (returnToExceed_sound s) (sound_ite (onDust_sound s _) (sound_refl s))
  · exact sound_ite ((startNotice_sound _).after (onDust_sound s _)) (onDust_sound s _)

theorem takeReading_sound (v : Nat) (s : State) : Sound s (takeReading v s) :=
  sound_ite (((applyMean_sound _ _).after (onDust_sound _ _)).after (onDust_sound s _)) (onDust_sound s _)

theorem takeDustReading_sound (v : Int) (s : State) : Sound s (takeDustReading v s) := by
  unfold takeDustReading
  refine sound_ite ?_ (sound_refl s)
  exact ((sound_of_only (retryAnswers_only _) (by decide)).after
    (sound_ite (sound_of_only (retryNotice_only _) (by decide)) (sound_refl _))).after (takeReading_sound _ s)

/-! ### Station Control -/

/-- The cannon stands with the same valve, drive, state and chain, and the same claim state. -/
structure StandsAs (s t : State) : Prop where
  chain : t.cannon.chain = s.cannon.chain
  valve : t.cannon.valveOpen = s.cannon.valveOpen
  drive : t.cannon.drive = s.cannon.drive
  state : t.cannon.state = s.cannon.state
  claim : t.claim.own.state = s.claim.own.state

theorem StandsAs.trans {s t u : State} (h : StandsAs s t) (k : StandsAs t u) : StandsAs s u :=
  ⟨k.chain.trans h.chain, k.valve.trans h.valve, k.drive.trans h.drive, k.state.trans h.state, k.claim.trans h.claim⟩

theorem StandsAs.rest {s t : State} (h : StandsAs s t) (hs : AtRest s) : AtRest t :=
  ⟨h.chain.trans hs.chain, h.valve.trans hs.valve, h.drive.trans hs.drive, h.claim.trans hs.claim⟩

/-- Outside RUN the cannon is at rest, and what leaves it so is lawful in any station state. -/
theorem StandsAs.sound {s t : State} (h : StandsAs s t) (hm : s.station.mode ≠ .run) : Sound s t := by
  intro hs
  obtain ⟨hr, hst⟩ := atRest_of_inv hs (chain_none_of_not_run hs hm)
  exact cannonInv_of_rest (h.rest hr) (by rw [h.state]; exact hst)

theorem standsAs_of_only {fs : List Field} {s t : State} (h : onlyChanges fs s t)
    (hf : ∀ f ∈ [Field.cannon, .claim], f ∉ fs) : StandsAs s t := by
  have hc : t.cannon = s.cannon := h .cannon (hf _ (by decide))
  have ho : t.claim = s.claim := h .claim (hf _ (by decide))
  exact ⟨by rw [hc], by rw [hc], by rw [hc], by rw [hc], by rw [ho]⟩

theorem startStandby_standsAs (s : State) : StandsAs s (startStandby s) := by
  unfold startStandby
  split <;> exact ⟨rfl, rfl, rfl, rfl, rfl⟩

theorem startFirstListen_standsAs (s : State) : StandsAs s (startFirstListen s) := by
  unfold startFirstListen
  split
  · have h := standsAs_of_only (startForecastStale_only
      (s.setClaim { s.claim with supply := { s.claim.supply with staleTimer := .startAt s.now 300000 } })) (by decide)
    exact ⟨h.chain, h.valve, h.drive, h.state, h.claim⟩
  · exact ⟨rfl, rfl, rfl, rfl, rfl⟩

theorem startListen_standsAs (s : State) : StandsAs s (startListen s) := by
  have h := (standsAs_of_only (startSweep_only ((((s.onStation fun t =>
    { t with mode := .listen, listen := .startAt s.now 60000, window := .stopped }).setWind
      { s.wind with acc := Accumulator.empty, minute := .startAt s.now 60000 }).setFace
        { s.face with timer := .startAt s.now 60000 }).onDust (fun d => { d with watch := .startAt s.now 40000 })
          |>.onLine fun l => { l with isolation := .startAt s.now 300000, duplicate := false })) (by decide)).trans
    (startStandby_standsAs _)
  exact ⟨h.chain, h.valve, h.drive, h.state, h.claim⟩

theorem enterListenFresh_standsAs (s : State) : StandsAs s (enterListenFresh s) := by
  have h1 := startListen_standsAs (takeSettings s)
  have h2 : StandsAs (startListen (takeSettings s)) (formRecords (startListen (takeSettings s))) :=
    ⟨rfl, rfl, rfl, rfl, rfl⟩
  have h3 := ((h1.trans h2).trans (standsAs_of_only (fallbackAtListen_only _) (by decide))).trans
    (startFirstListen_standsAs _)
  exact ⟨h3.chain, h3.valve, h3.drive, h3.state, h3.claim⟩

theorem endCommission_sound {s : State} (hm : s.station.mode ≠ .run) : Sound s (endCommission s) := by
  unfold endCommission
  split
  · exact (enterListenFresh_standsAs s).sound hm
  · exact StandsAs.sound ⟨rfl, rfl, rfl, rfl, rfl⟩ hm

theorem takeKeyRelease_sound (s : State) : Sound s (takeKeyRelease s) := by
  unfold takeKeyRelease
  split
  · rename_i h
    exact (endCommission_sound (s := s.setPins { s.pins with key := false }) (h ▸ nofun)).after
      (sound_of_only (setPins_only s _) (by decide))
  · exact sound_refl s

/-- A change of the station that leaves its state. -/
theorem onStation_sound {s : State} {g : Station → Station} (h : (g s.station).mode = s.station.mode) :
    Sound s (s.onStation g) := SameCannon.sound ⟨rfl, rfl, rfl, h, rfl⟩

theorem takeWindowExpiry_sound (s : State) : Sound s (takeWindowExpiry s) := by
  unfold takeWindowExpiry
  refine sound_ite ?_ (sound_refl s)
  split
  · rename_i h
    exact endCommission_sound (h ▸ nofun)
  · exact onStation_sound rfl

theorem takeListenTimer_sound (s : State) : Sound s (takeListenTimer s) := by
  unfold takeListenTimer
  refine sound_ite ?_ (sound_refl s)
  split
  · rename_i h
    have h1 : Sound s (s.onStation fun t => { t with mode := .run, listen := .stopped }) :=
      StandsAs.sound ⟨rfl, rfl, rfl, rfl, rfl⟩ (h ▸ nofun)
    exact (((trySelection_sound _).after (sound_of_only (retryDust_only _) (by decide))).after
      (sound_of_only (offerStatus_only _) (by decide))).after h1
  · exact onStation_sound rfl

/-- In MUTE the chain has ended, and the claim with it. -/
theorem enterMute_sound (s : State) : Sound s (enterMute s) := by
  intro h
  let muted := s.onStation fun t => { t with mode := .mute, listen := .stopped }
  have hend : cannonInv (chainEnd .duplicate muted) := by
    cases hc : s.cannon.chain with
    | some ch => exact chainEnd_cannonInv (s := muted) (by decide) hc
    | none =>
      rw [chainEnd_of_none (s := muted) hc]
      obtain ⟨hr, hst⟩ := atRest_of_inv h hc
      exact cannonInv_of_rest ⟨hr.chain, hr.valve, hr.drive, hr.claim⟩ hst
  have hmode : (chainEnd .duplicate muted).station = muted.station := chainEnd_only _ muted .station (by decide)
  obtain ⟨hr, hst⟩ := atRest_of_inv hend (chain_none_of_not_run hend (by rw [hmode]; exact nofun))
  exact cannonInv_of_rest ⟨hr.chain, hr.valve, hr.drive, rfl⟩ hst

theorem takeDuplicate_sound (s : State) : Sound s (takeDuplicate s) := by
  rcases takeDuplicate_cases s with h | h | ⟨-, h⟩ <;> rw [h]
  · exact sound_refl s
  · exact onLine_sound s _
  · exact (enterMute_sound _).after (onLine_sound s _)

/-! ### RESTART (R186) -/

theorem chainEnd_restart_rest {s : State} (h : cannonInv s) : AtRest (chainEnd .restart (clearQueue s)) := by
  cases hc : s.cannon.chain with
  | none =>
    have hr := (atRest_of_inv h hc).1
    rw [chainEnd_of_none (s := clearQueue s) hc]
    exact ⟨hr.chain, hr.valve, hr.drive, hr.claim⟩
  | some ch =>
    rw [chainEnd_of_some (s := clearQueue s) hc]
    have hq := queueChainEnd_sameCannon ch .restart (afterChain .restart ch (chainGone .restart ch (clearQueue s)))
    rw [trySelection_of_closed (by rw [hq.request]; rfl)]
    exact sameCannon_rest hq (afterChain_rest (chainGone_rest _ ch _) _ ch)

theorem clearBlocks_rest {s : State} (h : cannonInv s) : AtRest (clearBlocks s) := by
  have hr := chainEnd_restart_rest h
  have hc : (clearBlocks s).cannon = (chainEnd .restart (clearQueue s)).cannon := by
    simp [clearBlocks, State.onDust, State.onLine, noClaim]
  have ho : (clearBlocks s).claim.own.state = .none := by
    simp [clearBlocks, State.onDust, State.onLine, noClaim]
  exact ⟨by rw [hc, hr.chain], by rw [hc, hr.valve], by rw [hc, hr.drive], ho⟩

theorem takeRestart_cannonInv {s : State} (h : cannonInv s) : cannonInv (takeRestart s) := by
  have hb := clearBlocks_rest h
  have hs : AtRest ((clearBlocks s).onStation fun t => { t with cause := .restart, lastReset := s.sec }) :=
    ⟨hb.chain, hb.valve, hb.drive, hb.claim⟩
  have hl := ((startListen_standsAs _).trans (startFirstListen_standsAs _)).rest hs
  refine parkOrLock_cannonInv (hl.onCannon ⟨rfl, ?_, ?_⟩)
  · exact hl.valve.symm
  · exact hl.drive.symm

/-! ### Frames -/

theorem setPeerEntries_sound (s : State) (ps : List Peer) : Sound s (s.setPeerEntries ps) :=
  sound_of_only (setPeerEntries_only s ps) (by decide)

theorem hearFrame_sound (s : State) : Sound s (hearFrame s) := sound_of_only (hearFrame_only s) (by decide)

theorem handFrame_sound {k : FrameKind} {n : Nat} {pos : Option (Nat × Nat)} {part : Peer → Peer}
    {handOn : State → State} (s : State) (h : ∀ s, Sound s (handOn s)) :
    Sound s (handFrame k n pos part handOn s) := by
  have h1 : Sound s ((hearFrame s).setPeerEntries
      (putPeer (part (refreshedPeer s.sec n k.member pos s.peers.entries)) s.peers.entries)) :=
    (setPeerEntries_sound _ _).after (hearFrame_sound s)
  exact (h _).after (sound_ite ((recompute_sound _).after h1) h1)

theorem takeFrame_sound {k : FrameKind} {n : Nat} {payload : List Byte} {hand : State → State} (s : State)
    (h : ∀ s, Sound s (hand s)) : Sound s (takeFrame k n payload hand s) := by
  have he : Sound s (frameEnds s) := onLine_sound s _
  exact sound_ite he (sound_ite ((takeDuplicate_sound _).after he) ((h _).after he))

theorem handStatus_sound (n : Nat) (payload : List Byte) (s : State) : Sound s (handStatus n payload s) := by
  unfold handStatus
  simp only
  split
  · exact handFrame_sound s fun s => sound_of_only (clearActed_only _ _ s) (by decide)
  · exact handFrame_sound s sound_refl

theorem handClaimKind_sound (k : FrameKind) (n : Nat) (s : State) : Sound s (handClaimKind k n s) :=
  (setPeerEntries_sound _ _).after (hearFrame_sound s)

theorem handClaim_sound (n : Nat) (payload : List Byte) (s : State) : Sound s (handClaim n payload s) := by
  unfold handClaim
  split
  · refine sound_trans (handClaimKind_sound .claim n s) ?_
    exact sound_ite ((recompute_sound _).after (setPeerEntries_sound _ _))
      (sound_ite (recompute_sound _) (sound_refl _))
  · exact handFrame_sound s sound_refl

theorem handRelease_sound (n : Nat) (payload : List Byte) (s : State) : Sound s (handRelease n payload s) := by
  have h1 := handClaimKind_sound .release n s
  exact sound_ite (((recompute_sound _).after (setPeerEntries_sound _ _)).after h1)
    (sound_ite ((recompute_sound _).after h1) h1)

theorem takePlume_sound (n : Nat) (m : PlumeMsg) (s : State) : Sound s (takePlume n m s) :=
  sound_ite
    (((sound_of_only (sendAnswer_only _ _) (by decide)).after (formAnswer_sound _ _ _)).after
      (setPeerEntries_sound s _))
    (sound_refl s)

theorem handCover_sound (n : Nat) (payload : List Byte) (s : State) : Sound s (handCover n payload s) := by
  unfold handCover
  split
  · exact handFrame_sound s fun s => sound_of_only (takeCoverFrame_only _ _ s) (by decide)
  · exact handFrame_sound s sound_refl

theorem acceptSupply_sound (m : SupplyMsg) (s : State) : Sound s (acceptSupply m s) := by
  have h1 : Sound s (takeSupplyState m (takeDay m.day m.allowance s)) :=
    (setClaim_sound (s := takeDay m.day m.allowance s) rfl).after (sound_of_only (takeDay_only _ _ s) (by decide))
  exact ((recomputeOnCapacity_sound _ _).after (gatingEffects_sound _ _)).after h1

theorem handSupply_sound (n : Nat) (payload : List Byte) (s : State) : Sound s (handSupply n payload s) := by
  unfold handSupply
  split
  · exact handFrame_sound s fun s => sound_ite (acceptSupply_sound _ s) (sound_refl s)
  · exact handFrame_sound s sound_refl

theorem handMachine_sound (n : Nat) (payload : List Byte) (s : State) : Sound s (handMachine n payload s) := by
  unfold handMachine
  simp only
  split
  · exact handFrame_sound s sound_refl
  · exact handFrame_sound s sound_refl

theorem takeSweep_sound (s : State) : Sound s (takeSweep s) := by
  have h1 : ∀ p, Sound s (s.setPeers p) := fun p => sound_of_only (setPeers_only s p) (by decide)
  exact sound_ite (sound_ite ((recompute_sound _).after (h1 _)) (h1 _)) (sound_refl s)

theorem claimSent_sound (serial : Nat) (s : State) : Sound s (claimSent serial s) :=
  sound_ite (setOwn_sound rfl) (sound_refl s)

theorem takeTransmission_sound (s : State) : Sound s (takeTransmission s) := by
  have hsent : ∀ f s, Sound s (frameSent f s) := by
    intro f s
    unfold frameSent
    split
    · exact claimSent_sound _ s
    · exact sound_refl s
  unfold takeTransmission
  split
  · exact (hsent _ _).after (onLine_sound s _)
  · exact sound_refl s

/-! ### The panel -/

theorem takeCommand_sound {code : Nat} {work : State → State × PanelAnswer} (s : State)
    (hw : ∀ s, Sound s (work s).1) : Sound s (takeCommand code work s) := by
  have hp : ∀ (s : State) g, Sound s (s.onPanel g) := fun s g => sound_of_only (onPanel_only s g) (by decide)
  rcases takeCommand_cases code work s with ⟨g, h⟩ | ⟨g, h⟩ <;> rw [h]
  · exact hp s g
  · exact ((hp _ g).after (hw _)).after (hp s _)

theorem configureWith_sound (block : List Byte) (s : State) : Sound s (configureWith block s).1 := by
  unfold configureWith
  split
  · exact sound_refl s
  split
  · exact sound_refl s
  split
  · exact sound_refl s
  · exact (onStation_sound rfl).after (sound_of_only (setStore_only s _) (by decide))

/-- A LOCK that finds a chain ends it, and stops a cannon without one (R88). -/
theorem respondToLock_cannonInv {s t : State} (h : cannonInv s) (hst : t.cannon = s.cannon) (hcl : t.claim = s.claim) :
    cannonInv (respondToLock t) := by
  cases hc : s.cannon.chain with
  | some ch =>
    obtain ⟨-, -, -, -, -, -, hnone, -⟩ := h
    have hch : t.cannon.chain = some ch := by rw [hst, hc]
    have hend : cannonInv (chainEnd .lockout t) := chainEnd_cannonInv (by decide) hch
    have hsome : t.cannon.chain.isSome = true := by rw [hch]; rfl
    rw [← hst, hch] at hnone
    unfold respondToLock
    split
    case h_1 hs => exact absurd (hnone (.inl hs)) nofun
    case h_2 hs => exact absurd (hnone (.inr (.inl hs))) nofun
    case h_3 => rwa [if_pos hsome]
    case h_4 => rwa [if_pos hsome]
    case h_5 hs => exact absurd (hnone (.inr (.inr (.inl hs)))) nofun
    case h_6 hs => exact absurd (hnone (.inr (.inr (.inr hs)))) nofun
    case h_7 => exact hend
  | none =>
    obtain ⟨hr, hserve⟩ := atRest_of_inv h hc
    have hrt : AtRest t := ⟨by rw [hst, hr.chain], by rw [hst, hr.valve], by rw [hst, hr.drive], by rw [hcl, hr.claim]⟩
    rw [← hst] at hserve
    have hinv := cannonInv_of_rest hrt hserve
    unfold respondToLock
    rw [hrt.chain]
    split
    case h_1 => exact lockCannon_cannonInv hrt
    case h_2 => exact lockCannon_cannonInv hrt
    case h_3 => exact abandonPriming_cannonInv hrt
    case h_4 => exact cannonInv_of_rest (hrt.setRequest false) hserve
    case h_5 => exact hinv
    case h_6 => exact hinv
    case h_7 => exact chainEnd_sound (by decide) t hinv

/-- A cannon without a chain is lawful with any lock list. -/
theorem writeLocks_cannonInv {s : State} (l : List Lock) (h : cannonInv s) (hc : s.cannon.chain = none) :
    cannonInv (writeLocks l s) ∧ AtRest (writeLocks l s) := by
  obtain ⟨hr, hs⟩ := atRest_of_inv h hc
  have ht : AtRest (writeLocks l s) := ⟨hr.chain, hr.valve, hr.drive, hr.claim⟩
  exact ⟨cannonInv_of_rest ht hs, ht⟩

theorem addLock_sound (code : Nat) (v : LockLevel) (s : State) : Sound s (addLock code v s) := by
  intro h
  unfold addLock
  simp only
  split
  · rename_i hl
    exact (writeLocks_cannonInv _ h (chain_none_of_locked h ((locked_iff s).mp hl))).1
  · exact respondToLock_cannonInv h rfl rfl

theorem applyLock_sound (code level : Nat) (s : State) : Sound s (applyLock code level s).1 := by
  unfold applyLock
  split
  · exact sound_refl s
  split
  · exact sound_refl s
  split
  · exact sound_refl s
  split
  · exact sound_refl s
  · exact addLock_sound _ _ s

/-- Locks are removed from a list that held some, so that no chain stands. -/
theorem removeLocks_sound (l : List Lock) {s : State} (hs : s.lockout.locks ≠ []) : Sound s (removeLocks l s) := by
  intro h
  obtain ⟨hw, hr⟩ := writeLocks_cannonInv l h (chain_none_of_locked h hs)
  unfold removeLocks respondToUnlock
  simp only
  split
  · split
    · exact enterParked_cannonInv hr
    · exact hw
  · exact hw

theorem applyUnlock_sound (code : Nat) (s : State) : Sound s (applyUnlock code s).1 := by
  unfold applyUnlock
  simp only
  split
  · exact sound_refl s
  split
  · exact sound_refl s
  split
  · exact sound_refl s
  rename_i hl
  have hne : s.lockout.locks ≠ [] := by simpa using hl
  split
  · exact removeLocks_sound _ hne
  split
  · split
    · exact removeLocks_sound _ hne
    · exact sound_refl s
  · exact SameCannon.sound ⟨rfl, rfl, rfl, rfl, rfl⟩

theorem endHolds_sound (s : State) : Sound s (endHolds s) := by
  have h1 : Sound s (s.setQueue { s.queue with holds := ⟨.stopped, .stopped, .stopped, .stopped⟩ }) :=
    setQueue_sound rfl
  exact sound_ite ((trySelection_sound _).after h1) h1

theorem trySelection_of_unselectable {s : State} (h : s.cannon.selectable = false) : trySelection s = s := by
  simp [trySelection, h]

theorem selectable_of_state {c : Cannon} (h : c.selectable = true) :
    c.state = .parked ∨ c.state = .standby ∨ c.state = .draining ∨ c.state = .priming := by
  simp only [Cannon.selectable, Bool.and_eq_true, Bool.or_eq_true, decide_eq_true_eq] at h
  simpa only [or_assoc] using h.2

theorem endHolds_cannon_of_fault {s : State} (h : s.cannon.state = .fault) : (endHolds s).cannon = s.cannon := by
  have hs : s.cannon.selectable = false := Bool.eq_false_iff.mpr fun hs => by
    rcases selectable_of_state hs with hp | hp | hp | hp <;> rw [h] at hp <;> cases hp
  unfold endHolds
  simp only
  split
  · rw [trySelection_of_unselectable (by simpa using hs)]
    rfl
  · rfl

theorem clearFaultWith_sound (s : State) : Sound s (clearFaultWith s).1 := by
  unfold clearFaultWith
  split
  · rename_i hf
    intro h
    have he := endHolds_sound s h
    have hc : (endHolds s).cannon.chain = none := by
      obtain ⟨-, -, -, -, -, -, hnone, -⟩ := he
      exact hnone (.inr (.inr (.inr (by rw [endHolds_cannon_of_fault hf]; exact hf))))
    exact parkOrLock_cannonInv ((atRest_of_inv he hc).1.onCannon ⟨rfl, rfl, rfl⟩)
  · exact endHolds_sound s

theorem restartWith_sound (s : State) : Sound s (restartWith s).1 := by
  unfold restartWith
  split
  · exact takeRestart_cannonInv
  · exact sound_refl s

theorem testSprayWith_sound (face volume : Nat) (s : State) : Sound s (testSprayWith face volume s).1 := by
  unfold testSprayWith
  split
  · exact offerDemand_sound _ s
  · exact sound_refl s

/-! ### Every step -/

theorem effectOf_sound {c : Instr} (hc : Instr.ordinary c) (s : State) : Sound s (effectOf c s) := by
  by_cases ht : ∀ f ∈ [Field.cannon, .claim, .station, .lockout, .queue], f ∉ touched c
  case pos => exact sound_of_only (effectOf_only hc s) ht
  cases c
  case minuteClose => exact takeMinuteClose_sound s
  case evaluation => exact takeEvaluation_sound s
  case flowPulse => exact takeFlowPulse_sound s
  case encoderReport => exact takeEncoderReport_sound _ s
  case dustReading => exact takeDustReading_sound _ s
  case pressureReading => exact takePressure_sound _ s
  case firstStage => exact takeFirstStage_sound s
  case secondStage => exact takeSecondStage_sound s
  case commissioningKeyRelease => exact takeKeyRelease_sound s
  case commissioningWindowExpiry => exact takeWindowExpiry_sound s
  case listenTimerExpiry => exact takeListenTimer_sound s
  case statusFrame => exact takeFrame_sound s (handStatus_sound _ _)
  case claimFrame => exact takeFrame_sound s (handClaim_sound _ _)
  case releaseFrame => exact takeFrame_sound s (handRelease_sound _ _)
  case plumeFrame => exact takeFrame_sound s fun s => handFrame_sound s (takePlume_sound _ _)
  case coverFrame => exact takeFrame_sound s (handCover_sound _ _)
  case windFrame => exact takeFrame_sound s fun s => handFrame_sound s sound_refl
  case forecastFrame =>
    exact takeFrame_sound s fun s => handFrame_sound s fun s => sound_of_only (takeForecast_only _ _ s) (by decide)
  case supplyFrame => exact takeFrame_sound s (handSupply_sound _ _)
  case machineFrame => exact takeFrame_sound s (handMachine_sound _ _)
  case duplicate => exact (takeDuplicate_sound _).after (onLine_sound s _)
  case transmissionCompletes => exact takeTransmission_sound s
  case configure => exact takeCommand_sound s (configureWith_sound _)
  case lock => exact takeCommand_sound s (applyLock_sound _ _)
  case unlock => exact takeCommand_sound s (applyUnlock_sound _)
  case clearFault => exact takeCommand_sound s clearFaultWith_sound
  case restart => exact takeCommand_sound s restartWith_sound
  case testSpray => exact takeCommand_sound s (testSprayWith_sound _ _)
  case settleExpiry => exact takeSettle_sound s
  case claimRefresh => exact takeClaimRefresh_sound s
  case onTimerExpiry => exact takeOnTimer_sound s
  case periodTimerExpiry => exact takePeriodTimer_sound s
  case noFlowExpiry => exact takeNoFlow_sound s
  case slewTimeout => exact takeSlewTimeout_sound s
  case primingExpiry => exact takePriming_sound s
  case drainExpiry => exact takeDrain_sound s
  case standbyExpiry => exact takeStandby_sound s
  case faultHoldExpiry => exact takeFaultHold_sound _ s
  case deadline => exact passDeadlines_sound s
  case supplyStaleExpiry => exact takeSupplyStale_sound s
  case staleRollover => exact rollStale_sound s
  case sweep => exact takeSweep_sound s
  all_goals exact absurd (by simp [touched]) ht

/-- POWER_ON parks the cannon, or locks it, without a chain. -/
theorem takePowerOn_cannonInv (straps : Nat) (key : Bool) (s : State) : cannonInv (takePowerOn straps key s) := by
  have hu : cannonInv (powerUp straps key s) ∧ (powerUp straps key s).station.mode ≠ .run := by
    rw [powerUp_eq]
    refine ⟨cannonInv_of_rest ?_ ?_, nofun⟩
    · exact ⟨by simp only; split <;> rfl, by simp only; split <;> rfl, by simp only; split <;> rfl, rfl⟩
    · simp only
      split <;> rfl
  unfold takePowerOn leaveStart
  split
  · exact (enterListenFresh_standsAs _).sound hu.2 hu.1
  · exact StandsAs.sound (s := powerUp straps key s) ⟨rfl, rfl, rfl, rfl, rfl⟩ hu.2 hu.1
  · exact StandsAs.sound (s := powerUp straps key s) ⟨rfl, rfl, rfl, rfl, rfl⟩ hu.2 hu.1

theorem step_cannonInv {s t : State} (hs : cannonInv s) (h : step s = .next t) : cannonInv t :=
  step_keeps (P := cannonInv) (fun s => sound_of_only (idle_only s) (by decide))
    (fun s l => sound_of_only (setPending_only s l) (by decide))
    (fun s0 s => sound_of_only (closeArrival_only s0 s) (by decide))
    (fun straps key s _ => takePowerOn_cannonInv straps.val key s)
    (fun _ s hc _ => effectOf_sound hc s) hs h

/-- Settles O52, by the stronger invariant `cannonInv`, which every operation of the cannon and of its claim keeps. -/
theorem valveLaw : Obligations.ValveLaw := by
  unfold Obligations.ValveLaw
  intro s t hs h
  have ht := step_cannonInv hs h
  obtain ⟨hvalve, -, hflow, -, hchain, -, -, hserve⟩ := id ht
  refine ⟨ht, fun hv => ?_⟩
  have hsp := hvalve hv
  exact ⟨hsp, hflow hsp, hchain (hserve (.inr (.inr hsp)))⟩

end Sys2Proof.Machine
end


section
/-! PROOFS. The step itself, the state after reset, broken frames and the panel's one command at a time (O1, O2, O33, O39,
O49). -/

namespace Sys2Proof.Machine

/-! ### The machine -/

/-- Settles O1. -/
theorem stepTakesFront : Obligations.StepTakesFront := by
  unfold Obligations.StepTakesFront
  intro c rest s h
  unfold step
  rw [h]

theorem getD_mem_of_lt {α : Type} {l : List α} {i : Nat} (d : α) (h : i < l.length) : l.getD i d ∈ l := by
  rw [List.getD_eq_getElem?_getD, List.getElem?_eq_getElem h]
  exact List.getElem_mem h

/-- Settles O2, by the three forms of `idle`: nothing due, one expiry due, and a choice among several. -/
theorem idleStep : Obligations.IdleStep := by
  unfold Obligations.IdleStep
  intro s hp
  have hstep : step s = .next (idle s) := by
    unfold step
    rw [hp]
  refine ⟨fun hd => ?_, fun hd => ?_⟩
  · rw [hstep]
    unfold idle
    rw [hd]
    rfl
  · unfold idle at hstep
    split at hstep
    case h_1 h => exact absurd h hd
    case h_2 c h =>
      exact ⟨c, _, by rw [h]; exact List.mem_singleton.mpr rfl, hstep, rfl, only_mono (setPending_only s _) (by decide)⟩
    case h_3 c rest _ h =>
      refine ⟨_, _, ?_, hstep, rfl, only_trans (only_mono (setPending_only s _) (by decide))
        (only_mono (setFree_only _ _) (by decide))⟩
      rw [h]
      exact getD_mem_of_lt c (Nat.mod_lt _ (Nat.succ_pos _))

/-- Settles O49. -/
theorem resetKeepsRules : Obligations.ResetKeepsRules := by
  unfold Obligations.ResetKeepsRules
  refine ⟨⟨fun h => absurd rfl h, rfl⟩, rfl, ?_, cannonInv_of_rest ⟨rfl, rfl, rfl, rfl⟩ rfl, ?_, ?_, ?_,
    fun h => absurd rfl h, ?_, Nat.le_refl 0, ?_, ?_, ⟨Nat.zero_le _, trivial⟩, ⟨Nat.zero_le _, Nat.zero_le _⟩⟩
  · exact (queueInv_iff _).2 ⟨⟨Nat.zero_le _, List.nodup_nil, fun e he => absurd he List.not_mem_nil⟩, rfl,
      show [(0 : FaceId), 1, 2, 3].Nodup from by decide⟩
  · simp [lineInv, State.reset, Line.powerOn]
  · simp [peersInv, State.reset]
  · simp [lockInv, State.reset]
  · refine ⟨fun f r h => ?_, fun c h => nomatch h⟩
    match f with
    | 0 | 1 | 2 | 3 => cases h
  · simp [dustInv, State.reset, Dust.powerOn]
  · simp [logInv, State.reset, Cannon.powerOn]

/-! ### Commands that leave conditions and reported items alone -/

/-- A command whose effect changes no flag, condition, relay choice or reported item, and lets no frame go, is its
effect. -/
theorem exec_of_same {c : Instr} {s t : State} (hs : settled s) (h : s.station.mode ≠ .start)
    (he : effectOf c s = t) (ha : t.alarms = s.alarms) (hcond : t.conditions = s.conditions)
    (hr : t.relaySet = s.relaySet) (hl : t.line.left = s.line.left) (hi : t.reportedItems = s.reportedItems)
    (hc : Instr.ordinary c := by exact nofun) : exec c s = .next t := by
  subst he
  rw [exec_ordinary hc, arrival_same hs h ha hcond hr (hl.trans hs.2) hi]

/-- A change of the panel alone is all that such a command does. -/
theorem exec_of_panel {c : Instr} {s : State} (hs : settled s) (h : s.station.mode ≠ .start) {p : Panel}
    (he : effectOf c s = s.setPanel p) (hc : Instr.ordinary c := by exact nofun) : exec c s = .next (s.setPanel p) :=
  exec_of_same hs h he rfl rfl rfl rfl rfl hc

/-- A change of the line that leaves its two conditions and lets no frame go. -/
theorem exec_of_line {c : Instr} {s : State} (hs : settled s) (h : s.station.mode ≠ .start)
    {l : Line} (he : effectOf c s = s.setLine l) (hd : l.duplicate = s.line.duplicate)
    (hi : l.isolated = s.line.isolated) (hl : l.left = s.line.left)
    (hc : Instr.ordinary c := by exact nofun) : exec c s = .next (s.setLine l) := by
  refine exec_of_same hs h he rfl ?_ rfl hl rfl hc
  simp only [State.conditions, State.setLine_line, hd, hi]
  rfl

/-! ### Broken frames -/

theorem takeFrame_of_malformed {k : FrameKind} {n : Nat} {p : List Byte} {hand : State → State} {s : State}
    (h : frameWellFormed k n p = false) : takeFrame k n p hand s = frameEnds s := by
  simp [takeFrame, h]

theorem command_ordinary (r : Received) : Instr.ordinary r.command := by
  intro straps key
  unfold Received.command
  split <;> exact nofun

/-- The effect of a frame that is handed on, by its kind. -/
def handKind : FrameKind → Nat → List Byte → State → State
  | .status => handStatus
  | .claim => handClaim
  | .release => handRelease
  | .plume => handPlume
  | .cover => handCover
  | .wind => handWind
  | .forecast => handForecast
  | .supply => handSupply
  | .machine => handMachine

theorem effectOf_command (k : FrameKind) (n : Nat) (p : List Byte) (s : State) :
    effectOf (Received.command ⟨n, k, p⟩) s = takeFrame k n p (handKind k n p) s := by
  cases k <;> rfl

/-- Settles O33. -/
theorem brokenFramesAreDropped : Obligations.BrokenFramesAreDropped := by
  unfold Obligations.BrokenFramesAreDropped
  intro s hs hm
  refine ⟨exec_of_line hs hm rfl rfl rfl rfl, ?_, fun k n p hw => ?_⟩
  · have he : effectOf .frameBroken s = s.setLine
        { s.line with
          partialFrame := [], busy := false, quietSince := if s.line.busy then s.now else s.line.quietSince } := by
      show s.setLine { s.line.goQuiet s.now with partialFrame := [] } = _
      unfold Line.goQuiet
      cases hb : s.line.busy <;> simp [hb]
    exact exec_of_line hs hm he rfl rfl rfl
  · refine exec_of_line hs hm ?_ rfl rfl rfl (command_ordinary _)
    rw [effectOf_command, takeFrame_of_malformed hw]
    rfl

/-! ### One panel command at a time (R170) -/

/-- A command that finds one in progress: the waiting BUSY answer stays, or the command gets one. -/
theorem takeCommand_of_progress {code : Nat} {work : State → State × PanelAnswer} {s : State} {a : PanelAnswer}
    (h : s.panel.answer = some a) :
    takeCommand code work s =
      s.setPanel
        { s.panel with partialMessage := [], busy := if s.panel.busy.isSome then s.panel.busy else some code } := by
  unfold takeCommand
  rw [h]
  cases hb : s.panel.busy <;> simp [State.onPanel, State.setPanel, hb]

/-- A command that finds none in progress is worked at once. -/
theorem takeCommand_of_free {code : Nat} {work : State → State × PanelAnswer} {s : State} (h : s.panel.answer = none) :
    takeCommand code work s =
      (work (dropMessage s)).1.onPanel fun p => { p with answer := some (work (dropMessage s)).2 } := by
  unfold takeCommand
  rw [h]
  rfl

/-- Settles O39, by the two forms of `takeCommand`. -/
theorem panelTakesOneCommand : Obligations.PanelTakesOneCommand := by
  unfold Obligations.PanelTakesOneCommand
  intro s hs hm
  refine ⟨exec_of_panel hs hm rfl, exec_of_panel hs hm rfl, fun hfree => ⟨?_, fun code => ?_⟩,
    fun a ha => ⟨fun code hbusy => ?_, fun hbusy => ?_, fun c code hc => ?_⟩⟩
  · refine exec_of_same hs hm ?_ rfl rfl rfl rfl rfl
    show takeAnswerSent s = s
    unfold takeAnswerSent
    rw [hfree]
  · refine exec_of_panel hs hm ?_
    show takeCommand code refuseUnknown s = _
    rw [takeCommand_of_free hfree]
    rfl
  · refine exec_of_panel hs hm ?_
    show takeAnswerSent s = _
    unfold takeAnswerSent
    rw [ha, hbusy]
    rfl
  · refine exec_of_panel hs hm ?_
    show takeAnswerSent s = _
    unfold takeAnswerSent
    rw [ha, hbusy]
    rfl
  · rcases hc with ⟨sel, part, first, last, rfl, rfl⟩ | ⟨block, rfl, rfl⟩ | ⟨lock, level, rfl, rfl⟩ | ⟨lock, rfl, rfl⟩ |
      ⟨rfl, rfl⟩ | ⟨rfl, rfl⟩ | ⟨rfl, rfl⟩ | ⟨face, volume, rfl, rfl⟩ | rfl
    case inl =>
      exact exec_of_panel hs hm
        (takeCommand_of_progress (work := fun s => (s, answerRead sel part first last s)) ha)
    all_goals exact exec_of_panel hs hm (takeCommand_of_progress ha)

end Sys2Proof.Machine
end


section
/-! PROOFS. What an arrival leaves, part by part, and what its end makes of the flags. -/

namespace Sys2Proof.Machine

/-! ### The parts that the end of an arrival leaves alone -/

section Close

variable (s0 s : State)

@[simp] theorem closeArrival_now : (closeArrival s0 s).now = s.now := closeArrival_only s0 s .now (by decide)
@[simp] theorem closeArrival_station : (closeArrival s0 s).station = s.station :=
  closeArrival_only s0 s .station (by decide)
@[simp] theorem closeArrival_pins : (closeArrival s0 s).pins = s.pins := closeArrival_only s0 s .pins (by decide)
@[simp] theorem closeArrival_store : (closeArrival s0 s).store = s.store := closeArrival_only s0 s .store (by decide)
@[simp] theorem closeArrival_wind : (closeArrival s0 s).wind = s.wind := closeArrival_only s0 s .wind (by decide)
@[simp] theorem closeArrival_forecast : (closeArrival s0 s).forecast = s.forecast :=
  closeArrival_only s0 s .forecast (by decide)
@[simp] theorem closeArrival_face : (closeArrival s0 s).face = s.face := closeArrival_only s0 s .face (by decide)
@[simp] theorem closeArrival_look : (closeArrival s0 s).look = s.look := closeArrival_only s0 s .look (by decide)
@[simp] theorem closeArrival_queue : (closeArrival s0 s).queue = s.queue := closeArrival_only s0 s .queue (by decide)
@[simp] theorem closeArrival_cannon : (closeArrival s0 s).cannon = s.cannon :=
  closeArrival_only s0 s .cannon (by decide)
@[simp] theorem closeArrival_claim : (closeArrival s0 s).claim = s.claim := closeArrival_only s0 s .claim (by decide)
@[simp] theorem closeArrival_account : (closeArrival s0 s).account = s.account :=
  closeArrival_only s0 s .account (by decide)
@[simp] theorem closeArrival_dust : (closeArrival s0 s).dust = s.dust := closeArrival_only s0 s .dust (by decide)
@[simp] theorem closeArrival_peers : (closeArrival s0 s).peers = s.peers := closeArrival_only s0 s .peers (by decide)
@[simp] theorem closeArrival_lockout : (closeArrival s0 s).lockout = s.lockout :=
  closeArrival_only s0 s .lockout (by decide)
@[simp] theorem closeArrival_panel : (closeArrival s0 s).panel = s.panel := closeArrival_only s0 s .panel (by decide)
@[simp] theorem closeArrival_free : (closeArrival s0 s).free = s.free := closeArrival_only s0 s .free (by decide)
@[simp] theorem closeArrival_pending : (closeArrival s0 s).pending = s.pending :=
  closeArrival_only s0 s .pending (by decide)

end Close

/-- The whole arrival changes what its effect changes, the flags and the line. -/
theorem close_only {fs : List Field} {s0 s t : State} (h : onlyChanges fs s t)
    (ha : Field.alarms ∈ fs := by decide) (hl : Field.line ∈ fs := by decide) :
    onlyChanges fs s (closeArrival s0 t) := by
  refine only_trans h (only_mono (closeArrival_only s0 t) fun f hf => ?_)
  simp only [List.mem_cons, List.not_mem_nil, or_false] at hf
  rcases hf with rfl | rfl <;> assumption

/-! ### The flags -/

/-- A condition flag shows its condition once the arrival has ended. -/
theorem closeArrival_cond (s0 s : State) {i : AlarmId} (hi : conditionFlag i = true) :
    ((closeArrival s0 s).alarms.flags.get i).cond = s.conditions.get i := by
  rw [closeArrival_alarms, syncAlarms_alarms]
  cases i <;> first | exact Flag.follow_cond _ _ _ | exact absurd hi (by decide)

/-- A condition flag follows its condition at the end of the arrival. -/
theorem closeArrival_follow (s0 s : State) {i : AlarmId} (hi : conditionFlag i = true) :
    (closeArrival s0 s).alarms.flags.get i = (s.alarms.flags.get i).follow s.sec (s.conditions.get i) := by
  rw [closeArrival_alarms, syncAlarms_alarms]
  cases i <;> first | rfl | exact absurd hi (by decide)

/-- An event flag is as the effect of the arrival left it. -/
theorem closeArrival_event (s0 s : State) {i : AlarmId} (hi : conditionFlag i = false) :
    (closeArrival s0 s).alarms.flags.get i = s.alarms.flags.get i := by
  rw [closeArrival_alarms, syncAlarms_alarms]
  cases i <;> first | rfl | exact absurd hi (by decide)

/-- A flag whose condition is as it was, and which the effect left alone, is not changed. -/
theorem closeArrival_flag {s0 s : State} (hs : syncAlarms s0 = s0) {i : AlarmId}
    (ha : s.alarms.flags.get i = s0.alarms.flags.get i) (hc : s.conditions.get i = s0.conditions.get i) :
    (closeArrival s0 s).alarms.flags.get i = s0.alarms.flags.get i := by
  cases hi : conditionFlag i with
  | false => rw [closeArrival_event s0 s hi, ha]
  | true =>
    rw [closeArrival_follow s0 s hi, ha]
    exact Flag.follow_same (hc.trans (flags_of_sync hs i hi))

/-! ### Arrivals that move no frame -/

/-- An arrival that lets no frame go and changes no reported item ends with the flags alone. -/
theorem exec_quiet {c : Instr} {s t : State} (hs : settled s) (h : s.station.mode ≠ .start) (he : effectOf c s = t)
    (hl : t.line.left = s.line.left) (hi : t.reportedItems = s.reportedItems)
    (hc : Instr.ordinary c := by exact nofun) : exec c s = .next (syncAlarms t) := by
  subst he
  rw [exec_started hc h, closeArrival_quiet (hl.trans hs.2) hi]

/-- A flag whose condition is as it was, and which the effect left alone, in an arrival that moves no frame. -/
theorem syncAlarms_flag_same {s t : State} (hs : syncAlarms s = s) {i : AlarmId}
    (ha : t.alarms.flags.get i = s.alarms.flags.get i) (hc : t.conditions.get i = s.conditions.get i) :
    (syncAlarms t).alarms.flags.get i = s.alarms.flags.get i := by
  rw [← closeArrival_alarms s t]
  exact closeArrival_flag hs ha hc

/-! ### The forecast (O6, O7) -/

/-- Settles O6. -/
theorem forecastMoments : Obligations.ForecastMoments := by
  unfold Obligations.ForecastMoments
  intro s hs hm
  refine ⟨fun k rest hk hdue => ?_, fun start hstart hdue hstale => ?_⟩
  · have he : effectOf .slotEnd s = s.setForecast { s.forecast with slots := rest } := by
      show takeSlotEnd s = _
      simp [takeSlotEnd, Forecast.slotDue, hk, hdue]
    exact exec_of_same hs hm he rfl rfl rfl rfl rfl
  · have he : effectOf .forecastStaleExpiry s = s.setForecast { s.forecast with stale := true } := by
      show takeForecastStale s = _
      simp [takeForecastStale, Forecast.staleDue, hstart, hdue, hstale]
    refine ⟨_, exec_quiet hs hm he rfl rfl, rfl, only_trans (only_mono (setForecast_only s _) (by decide))
      (only_mono (syncAlarms_only _) (by decide)), fun i hi => ?_, rfl⟩
    refine syncAlarms_flag_same (hs.1 hm) rfl ?_
    cases i <;> first | rfl | exact absurd (List.mem_singleton.mpr rfl) hi

theorem timedSlots_getElem? (start : Nat) (ks : List CarriedSlot) (i : Nat) :
    (timedSlots start ks)[i]? =
      ks[i]?.map fun k =>
        { start := start + 30 * i, finish := start + 30 * i + 30, mean := min 400 k.mean, gust := min 400 k.gust
          bearing := k.bearing, rain := k.rain } := by
  induction ks generalizing start i with
  | nil => rfl
  | cons k ks ih =>
    cases i with
    | zero => rfl
    | succ i =>
      simp only [timedSlots, List.getElem?_cons_succ, ih]
      congr 1
      funext k
      rw [show start + 30 + 30 * i = start + 30 * (i + 1) by omega]

theorem newerIssue_iff {issue : Nat} {stored : Option Nat} (h : ∀ old, stored = some old → old < 256) :
    newerIssue issue stored = true ↔
      ∀ old, stored = some old → 1 ≤ (issue + 256 - old) % 256 ∧ (issue + 256 - old) % 256 ≤ 127 := by
  cases stored with
  | none => simp [newerIssue]
  | some old =>
    have := h old rfl
    simp [newerIssue, Nat.mod_eq_of_lt this]

/-- What a table accepts (R12, R13). -/
theorem accepts_iff {m : ForecastMsg} {t : Forecast} (h : ∀ old, t.issue = some old → old < 256) :
    t.accepts m = true ↔
      1 ≤ m.slots.length ∧ m.slots.length ≤ 12 ∧ m.lead ≤ 29 ∧ (∀ k ∈ m.slots, k.bearing ≤ 359)
        ∧ (t.slots = [] ∨ ∀ old, t.issue = some old →
            1 ≤ (m.issue + 256 - old) % 256 ∧ (m.issue + 256 - old) % 256 ≤ 127) := by
  simp only [Forecast.accepts, ForecastMsg.sound, Bool.and_eq_true, Bool.or_eq_true, decide_eq_true_eq,
    List.isEmpty_iff, List.all_eq_true, newerIssue_iff h, and_assoc]

/-- Outside START a command is its effect and the end of the arrival. -/
theorem exec_eq {c : Instr} {s t : State} (h : s.station.mode ≠ .start) (he : effectOf c s = t)
    (hc : Instr.ordinary c := by exact nofun) : exec c s = .next (closeArrival s t) := by
  rw [exec_started hc h, he]

theorem operational_ne_start {s : State} (h : s.operational = true) : s.station.mode ≠ .start := by
  intro hm
  simp [State.operational, hm, Mode.operational] at h

/-- The effect of a well-formed frame of another member is its handing on. -/
theorem takeFrame_of_other {k : FrameKind} {n : Nat} {p : List Byte} {hand : State → State} {s : State}
    (hw : frameWellFormed k n p = true) (hn : n ≠ s.station.node) :
    takeFrame k n p hand s = hand (frameEnds s) := by
  simp [takeFrame, hw, hn]

/-- A frame's common part, its own part and the recompute of a removal, with nothing handed on. -/
def heard (k : FrameKind) (n : Nat) (pos : Option (Nat × Nat)) (part : Peer → Peer) (s : State) : State :=
  handFrame k n pos part id s

theorem handFrame_eq (k : FrameKind) (n : Nat) (pos : Option (Nat × Nat)) (part : Peer → Peer) (handOn : State → State)
    (s : State) : handFrame k n pos part handOn s = handOn (heard k n pos part s) := rfl

theorem heard_only (k : FrameKind) (n : Nat) (pos : Option (Nat × Nat)) (part : Peer → Peer) (s : State) :
    onlyChanges handed s (heard k n pos part (frameEnds s)) :=
  only_trans (only_mono (onLine_only s _) (by decide))
    (handFrame_only k n pos part _ (only_refl handed) fun _ h => h)

/-- Settles O7. The frame reaches the table as the table stood before the arrival. -/
theorem forecastReplaced : Obligations.ForecastReplaced := by
  unfold Obligations.ForecastReplaced
  intro n p s hop hw hn hold
  let u := heard .forecast n none id (frameEnds s)
  have he : effectOf (.forecastFrame n p) s = takeForecast n (decodeForecast p) u := takeFrame_of_other hw hn
  have hu : onlyChanges handed s u := heard_only .forecast n none id s
  have hf : u.forecast = s.forecast := hu .forecast (by decide)
  have hst : u.station = s.station := hu .station (by decide)
  have hnow : u.now = s.now := hu .now (by decide)
  have hmin : u.minute = s.minute := by simp only [State.minute, State.sec, hnow]
  refine ⟨_, exec_eq (operational_ne_start hop) he, ?_, close_only ?_⟩
  · have hacc := accepts_iff (m := decodeForecast p) hold
    have hopu : u.operational = true := by simpa only [State.operational, hst] using hop
    have hcfg : u.cfg = s.cfg := by simp only [State.cfg, hst]
    simp only [closeArrival_forecast]
    refine ⟨fun ⟨hnode, hpass⟩ => ?_, fun hno => ?_⟩
    · have ht : takeForecast n (decodeForecast p) u = u.setForecast (Forecast.replace s.minute (decodeForecast p)) := by
        unfold takeForecast
        rw [hopu, hcfg, hf, hacc.mpr hpass, hmin]
        simp [hnode]
      rw [ht]
      refine ⟨rfl, rfl, rfl, rfl, timedSlots_length _ _, fun i c hc => ?_⟩
      simp only [State.setForecast_forecast, Forecast.replace, timedSlots_getElem?, hc]
      rfl
    · have ht : takeForecast n (decodeForecast p) u = u := by
        unfold takeForecast
        rw [hopu, hcfg, hf, if_neg]
        simp only [Bool.true_and, Bool.and_eq_true, decide_eq_true_eq, hacc]
        exact hno
      rw [ht, hf]
  · exact only_trans (only_mono hu (by decide)) (only_mono (takeForecast_only _ _ _) (by decide))

end Sys2Proof.Machine
end


section
/-! PROOFS. The station's own frames as the other stations read them (O60; 12.1, R150, R188). -/

namespace Sys2Proof.Machine

/-! ### A whole frame -/

theorem frameKindOf_code (k : FrameKind) : frameKindOf k.code = some k := by
  cases k <;> rfl

theorem kind_code_lt (k : FrameKind) : k.code < 256 := by
  cases k <;> decide

theorem payload_length (c : Content) : c.payload.length ≤ 21 ∧ lengthAllowed c.kind c.payload = true := by
  cases c with
  | status m =>
    cases hw : m.wind with
    | none => simp [Content.payload, Content.kind, hw, enc8, enc16, enc32, encBool, lengthAllowed]
    | some w => simp [Content.payload, Content.kind, hw, enc8, enc16, enc32, encBool, lengthAllowed]
  | claim | release | plume | cover => simp [Content.payload, Content.kind, enc8, enc16, lengthAllowed]

/-- The bytes of a frame behind its start mark, in the order of 12.1. -/
theorem makeFrame_eq (n : Nat) (k : FrameKind) (p : List Byte) :
    makeFrame n k p =
      startMark :: BitVec.ofNat 8 n :: BitVec.ofNat 8 k.code :: BitVec.ofNat 8 p.length ::
        (p ++ crcBytes (BitVec.ofNat 8 n :: BitVec.ofNat 8 k.code :: BitVec.ofNat 8 p.length :: p)) := by
  simp [makeFrame, enc8]

theorem crcBytes_length (bs : List Byte) : (crcBytes bs).length = 2 := rfl

section Frame

variable {n : Nat} {k : FrameKind} {p : List Byte} (hn : n < 256) (hp : p.length < 256)

theorem makeFrame_length : (makeFrame n k p).length = p.length + 6 := by
  simp [makeFrame_eq, crcBytes_length]

include hp

theorem frameComplete_makeFrame : frameComplete (makeFrame n k p) = true := by
  simp [makeFrame_eq, frameComplete, crcBytes_length, Nat.mod_eq_of_lt hp]

/-- A frame is complete at its last byte and not before. -/
theorem frameComplete_take {m : Nat} (hm : m < (makeFrame n k p).length) :
    frameComplete ((makeFrame n k p).take m) = false := by
  rw [makeFrame_length] at hm
  rw [makeFrame_eq]
  match m with
  | 0 | 1 | 2 | 3 => rfl
  | m + 4 =>
    simp only [List.take_succ_cons, frameComplete, List.length_take, List.length_append, crcBytes_length,
      BitVec.toNat_ofNat, Nat.reducePow, Nat.mod_eq_of_lt hp, beq_eq_false_iff_ne, ne_eq]
    omega

include hn

/-- A frame of a station's own passes the checks of R150. -/
theorem acceptFrame_makeFrame (h1 : 1 ≤ n) (h63 : n ≤ 63) (hl : lengthAllowed k p = true) :
    acceptFrame (makeFrame n k p) = some ⟨n, k, p⟩ := by
  have hk := kind_code_lt k
  simp [makeFrame_eq, acceptFrame, Nat.mod_eq_of_lt hn, Nat.mod_eq_of_lt hp, Nat.mod_eq_of_lt hk, h1, h63,
    crcBytes_length, frameKindOf_code, hl]

theorem receiveFrame_makeFrame (node : Nat) (h1 : 1 ≤ n) (h63 : n ≤ 63) (hl : lengthAllowed k p = true) :
    receiveFrame node (makeFrame n k p) =
      some (if n = node then .duplicate else Received.command ⟨n, k, p⟩) := by
  unfold receiveFrame
  rw [acceptFrame_makeFrame hn hp h1 h63 hl, if_pos]
  exact ⟨by rw [makeFrame_eq]; rfl, frameComplete_makeFrame hp⟩

end Frame

/-! ### Byte by byte -/

/-- A station that listens, with the bytes of a reception held. -/
def holding (held : List Byte) (s : State) : State := s.setLine { s.line with busy := true, partialFrame := held }

section Reception

variable {s : State} (hm : s.station.mode ≠ .start) (ha : s.line.access ≠ .sending)

include hm ha

theorem hearByte_eq (b : Byte) :
    s.hearByte b =
      (holding (takeByte startMark frameComplete s.line.partialFrame b).1 s).setPending
        (s.pending ++
          ((takeByte startMark frameComplete s.line.partialFrame b).2.bind (receiveFrame s.station.node)).toList) := by
  unfold State.hearByte
  rw [if_neg (by simp [hm, ha])]
  rfl

/-- A byte within a frame is held. -/
theorem hearByte_within {held : List Byte} {b : Byte} (hb : held ≠ [] ∨ b = startMark)
    (hc : frameComplete (held ++ [b]) = false) : (holding held s).hearByte b = holding (held ++ [b]) s := by
  have htake : takeByte startMark frameComplete held b = (held ++ [b], none) := by
    unfold takeByte
    rw [if_neg fun hn => hb.elim (fun h => h hn.1) fun h => hn.2 h, if_neg (by simp [hc])]
  rw [hearByte_eq (s := holding held s) hm ha]
  show (holding (takeByte startMark frameComplete held b).1 _).setPending _ = _
  simp only [show (holding held s).line.partialFrame = held from rfl, htake]
  simp [holding, State.setPending, State.setLine]

/-- The byte that completes a frame ends the reception, and the frame waits as its command. -/
theorem hearByte_last {held : List Byte} {b : Byte} (hb : held ≠ [] ∨ b = startMark)
    (hc : frameComplete (held ++ [b]) = true) :
    (holding held s).hearByte b =
      (holding [] s).setPending (s.pending ++ (receiveFrame s.station.node (held ++ [b])).toList) := by
  have htake : takeByte startMark frameComplete held b = ([], some (held ++ [b])) := by
    unfold takeByte
    rw [if_neg fun hn => hb.elim (fun h => h hn.1) fun h => hn.2 h, if_pos hc]
  rw [hearByte_eq (s := holding held s) hm ha]
  simp only [show (holding held s).line.partialFrame = held from rfl, htake]
  rfl

/-- The bytes of a frame, heard one by one behind those held. -/
theorem hear_rest {full : List Byte} (hstart : full.head? = some startMark) (hfull : frameComplete full = true)
    (hpart : ∀ m, m < full.length → frameComplete (full.take m) = false) (rest : List Byte) :
    ∀ held, held ++ rest = full → rest ≠ [] →
      rest.foldl (fun u b => u.hearByte b) (holding held s) =
        (holding [] s).setPending (s.pending ++ (receiveFrame s.station.node full).toList) := by
  induction rest with
  | nil => exact fun _ _ h => absurd rfl h
  | cons b rest ih =>
    intro held hsplit _
    have hb : held ≠ [] ∨ b = startMark := by
      cases held with
      | nil =>
        rw [← hsplit] at hstart
        exact .inr (Option.some.inj hstart)
      | cons => exact .inl nofun
    have hsplit' : (held ++ [b]) ++ rest = full := by simpa using hsplit
    by_cases hrest : rest = []
    · subst hrest
      have hwhole : held ++ [b] = full := by simpa using hsplit'
      simp only [List.foldl_cons, List.foldl_nil]
      rw [hearByte_last hm ha hb (by rw [hwhole]; exact hfull), hwhole]
    · have hc : frameComplete (held ++ [b]) = false := by
        have hlt : (held ++ [b]).length < full.length := by
          rw [← hsplit', List.length_append (as := held ++ [b])]
          exact Nat.lt_add_of_pos_right (List.length_pos_iff.mpr hrest)
        have := hpart _ hlt
        rwa [← hsplit', List.take_left] at this
      simp only [List.foldl_cons]
      rw [hearByte_within hm ha hb hc]
      exact ih _ hsplit' hrest

end Reception

/-- The first byte of a frame finds no reception, whether or not the line was busy. -/
theorem hear_first {s : State} (hm : s.station.mode ≠ .start) (ha : s.line.access ≠ .sending)
    (hf : s.line.partialFrame = []) (b : Byte) : s.hearByte b = (holding [] s).hearByte b := by
  rw [hearByte_eq hm ha, hearByte_eq (s := holding [] s) hm ha, hf]
  rfl

/-- Settles O60. The bytes are read back by `receiveFrame_makeFrame`, and one by one by `hear_rest`. -/
theorem frameRoundTrip : Obligations.FrameRoundTrip := by
  unfold Obligations.FrameRoundTrip
  intro node c s h1 h63 hm ha hf
  obtain ⟨hlen, hallowed⟩ := payload_length c
  have hp : c.payload.length < 256 := by omega
  have hn : node < 256 := by omega
  have hrec : receiveFrame s.station.node (c.bytes node) =
      some (if s.station.node = node then .duplicate else Received.command ⟨node, c.kind, c.payload⟩) := by
    rw [show c.bytes node = makeFrame node c.kind c.payload from rfl,
      receiveFrame_makeFrame hn hp s.station.node h1 h63 hallowed]
    simp only [eq_comm]
  have hidle : ∀ u : State, u.line.partialFrame = [] → holding [] u = u.setLine { u.line with busy := true } := by
    intro u hu
    unfold holding
    rw [← hu]
  refine ⟨hrec, ?_, fun b hb => ?_⟩
  · have hall := hear_rest hm ha (full := c.bytes node) (by rw [Content.bytes, makeFrame_eq]; rfl)
      (frameComplete_makeFrame hp) (fun m => frameComplete_take hp) (c.bytes node) [] rfl
      (by rw [Content.bytes, makeFrame_eq]; exact nofun)
    rw [hrec] at hall
    have hsame : (c.bytes node).foldl (fun u b => u.hearByte b) s =
        (c.bytes node).foldl (fun u b => u.hearByte b) (holding [] s) := by
      rw [Content.bytes, makeFrame_eq, List.foldl_cons, hear_first hm ha hf]
      rfl
    rw [hsame, hall, hidle s hf]
    rfl
  · have htake : takeByte startMark frameComplete [] b = ([], none) := by
      unfold takeByte
      rw [if_pos ⟨rfl, hb⟩]
    rw [hearByte_eq hm ha, hf, htake, hidle s hf]
    simp [State.setPending, State.setLine]

end Sys2Proof.Machine
end


section
/-! PROOFS. READ and CONFIGURE (O40, O41; R172, R181, R182, R190). -/

namespace Sys2Proof.Machine

/-! ### The parts of a snapshot (R190) -/

theorem partOf_join (data : List Byte) (n : Nat) :
    (List.range n).flatMap (fun i => partOf i data) = data.take (n * 250) := by
  induction n with
  | zero => simp
  | succ n ih =>
    rw [List.range_succ, List.flatMap_append, ih, Nat.succ_mul, List.take_add]
    simp [partOf]

theorem partCount_covers (data : List Byte) : data.length ≤ partCount data * 250 := by
  have : ceilDiv data.length 250 ≤ partCount data := Nat.le_max_right _ _
  unfold ceilDiv at this
  omega

/-! ### No snapshot depends on a code (R172) -/

theorem withoutCodes_supervisor (s : State) : s.withoutCodes.supervisor.isSome = s.supervisor.isSome := by
  by_cases hn : s.station.node = 0
  · simp [State.supervisor, State.validConfig, State.withoutCodes, hn]
  · simp [State.supervisor, State.validConfig, State.withoutCodes, hn]

theorem withoutCodes_relaySet (s : State) : s.withoutCodes.relaySet = s.relaySet := by
  by_cases hn : s.station.node = 0
  · simp [State.relaySet, State.validConfig, State.withoutCodes, hn]
  · cases hst : s.station.stored <;> simp [State.relaySet, State.validConfig, State.withoutCodes, hn, hst]

theorem stationSnapshot_withoutCodes (s : State) : stationSnapshot s.withoutCodes = stationSnapshot s := by
  have hcut : s.withoutCodes.cutOut = s.cutOut := by
    cases hc : s.station.config <;> simp [State.cutOut, State.cfg, State.withoutCodes, hc]
  have hpart : stationPart s.withoutCodes = stationPart s := by
    cases hst : s.station.stored <;> simp only [stationPart, State.withoutCodes, hst] <;> rfl
  unfold stationSnapshot
  rw [hcut, hpart]
  rfl

theorem queueSnapshot_withoutCodes (s : State) : queueSnapshot s.withoutCodes = queueSnapshot s := by
  cases hc : s.station.config <;> simp [queueSnapshot, State.cfg, State.withoutCodes, hc]

theorem claimSnapshot_withoutCodes (s : State) : claimSnapshot s.withoutCodes = claimSnapshot s := by
  obtain ⟨now, ⟨mode, node, stored, config, cause, last, listen, window⟩, rest⟩ := s
  cases config <;> rfl

theorem alarmsSnapshot_withoutCodes (s : State) : alarmsSnapshot s.withoutCodes = alarmsSnapshot s := by
  have hr := withoutCodes_relaySet s
  unfold alarmsSnapshot encFlag
  rw [hr]
  rfl

theorem locksSnapshot_withoutCodes (s : State) : locksSnapshot s.withoutCodes = locksSnapshot s := by
  have hs := withoutCodes_supervisor s
  unfold locksSnapshot
  rw [hs]
  simp [State.withoutCodes, encList, List.flatMap_map]

theorem snapshot_withoutCodes (selector first last : Nat) (s : State) :
    snapshot selector first last s.withoutCodes = snapshot selector first last s := by
  unfold snapshot
  rw [stationSnapshot_withoutCodes, queueSnapshot_withoutCodes, claimSnapshot_withoutCodes,
    alarmsSnapshot_withoutCodes, locksSnapshot_withoutCodes]
  rfl

theorem enc32_eq (n : Nat) :
    enc32 n =
      [BitVec.ofNat 8 (n / 16777216), BitVec.ofNat 8 (n / 65536), BitVec.ofNat 8 (n / 256), BitVec.ofNat 8 n] := by
  simp [enc32, enc16, Nat.div_div_eq_div_mul]

theorem supervisor_isSome (s : State) :
    s.supervisor.isSome = decide (s.station.node ≠ 0 ∧ s.station.stored.isSome = true) := by
  by_cases hn : s.station.node = 0 <;> simp [State.supervisor, State.validConfig, hn]

theorem locksSnapshot_eq (s : State) :
    locksSnapshot s =
      [BitVec.ofNat 8 s.lockout.locks.length]
        ++ (s.lockout.locks.flatMap fun k =>
            (if k.level = .standard then 0#8 else 1#8)
              :: (match k.time with
                  | some t =>
                    [1#8, BitVec.ofNat 8 (t / 16777216), BitVec.ofNat 8 (t / 65536), BitVec.ofNat 8 (t / 256),
                      BitVec.ofNat 8 t]
                  | none => [0#8, 0#8, 0#8, 0#8, 0#8]))
        ++ [BitVec.ofNat 8 s.lockout.attempts,
            if s.station.node ≠ 0 ∧ s.station.stored.isSome = true then 1#8 else 0#8] := by
  have hlock : ∀ k : Lock, enc8 k.level.code ++ encOpt 4 enc32 k.time =
      (if k.level = .standard then 0#8 else 1#8)
        :: (match k.time with
            | some t =>
              [1#8, BitVec.ofNat 8 (t / 16777216), BitVec.ofNat 8 (t / 65536), BitVec.ofNat 8 (t / 256),
                BitVec.ofNat 8 t]
            | none => [0#8, 0#8, 0#8, 0#8, 0#8]) := by
    intro k
    cases k.level <;> cases k.time <;> simp [encOpt, enc8, enc32_eq, LockLevel.code]
  unfold locksSnapshot encList
  simp only [hlock, supervisor_isSome, encBool, decide_eq_true_eq, List.append_assoc]
  rfl

/-- Settles O40. -/
theorem readAnswers : Obligations.ReadAnswers := by
  unfold Obligations.ReadAnswers
  refine ⟨fun first last s => congrArg some (locksSnapshot_eq s), fun selector first last s s' h => ?_,
    fun selector part first last s hs hm hfree => ?_⟩
  · rw [← snapshot_withoutCodes _ _ _ s, ← snapshot_withoutCodes _ _ _ s', h]
  · have hexec : exec (.read selector part first last) s =
        .next (s.setPanel
          { s.panel with partialMessage := [], answer := some (answerRead selector part first last (dropMessage s)) }) :=
      exec_of_panel hs hm (takeCommand_of_free (work := fun s => (s, answerRead selector part first last s)) hfree)
    rw [hexec]
    unfold answerRead
    rw [show snapshot selector first last (dropMessage s) = snapshot selector first last s from rfl]
    refine ⟨fun data hdata => ?_, fun hbad => ?_⟩
    · rw [hdata]
      refine ⟨?_, fun i => ?_, fun hp => ?_, fun hp => ?_⟩
      · rw [partOf_join, List.take_of_length_le (partCount_covers data)]
      · simp [partOf, Nat.min_le_left]
      · simp only [if_pos hp]
        rfl
      · simp only [if_neg (Nat.not_lt.mpr hp)]
        rfl
    · have hnone : snapshot selector first last s = none := by
        unfold snapshot
        rcases hbad with h | h | ⟨h, hr⟩
        · simp [h]
        · simp [show selector ≠ 1 ∧ selector ≠ 2 ∧ selector ≠ 3 ∧ selector ≠ 4 ∧ selector ≠ 5 ∧ selector ≠ 6 ∧
            selector ≠ 7 ∧ selector ≠ 8 ∧ selector ≠ 9 by omega]
        · simp [h, hr]
      rw [hnone]
      rfl

/-! ### CONFIGURE -/

theorem crcOf_stored (block : List Byte) (h : block.length = 171) :
    (storedBlock block).take 173 = [0x5A#8, 0xC3#8] ++ block
      ∧ (storedBlock block).drop 173 = crcBytes ([0x5A#8, 0xC3#8] ++ block) := by
  unfold storedBlock
  exact ⟨List.take_left' (by simp [h]), List.drop_left' (by simp [h])⟩

/-- A stored block is loaded as the settings that it holds. -/
theorem loadBlock_storedBlock {node : Nat} {block : List Byte} (h : block.length = 171)
    (hc : firstFailing node block = none) : loadBlock node (storedBlock block) = some (readBlock block) := by
  obtain ⟨htake, hdrop⟩ := crcOf_stored block h
  unfold loadBlock
  rw [htake, hdrop, if_pos ⟨rfl, rfl⟩]
  exact if_pos ⟨h, hc⟩

section Configure

variable {block : List Byte} {s : State} (hlen : block.length = blockLength)

include hlen

theorem configureWith_frozen (hm : s.station.mode ≠ .commission) :
    configureWith block s = (s, PanelAnswer.of 2 .frozen []) := by
  unfold configureWith
  rw [if_neg (Classical.not_not.mpr hlen), if_pos hm]

theorem configureWith_invalid (hm : s.station.mode = .commission) {k : Nat}
    (hk : firstFailing s.station.node block = some k) :
    configureWith block s = (s, PanelAnswer.of 2 .invalid (enc8 k)) := by
  unfold configureWith
  rw [if_neg (Classical.not_not.mpr hlen), if_neg (Classical.not_not.mpr hm), hk]

theorem configureWith_accepted (hm : s.station.mode = .commission) (hk : firstFailing s.station.node block = none) :
    configureWith block s = (acceptBlock block s, PanelAnswer.of 2 .accepted []) := by
  unfold configureWith
  rw [if_neg (Classical.not_not.mpr hlen), if_neg (Classical.not_not.mpr hm), hk]

end Configure

/-- Settles O41. -/
theorem configureChecks : Obligations.ConfigureChecks := by
  unfold Obligations.ConfigureChecks
  intro block s hs hm hfree hlen
  have heff : effectOf (.configure block) s =
      (configureWith block (dropMessage s)).1.onPanel fun p =>
        { p with answer := some (configureWith block (dropMessage s)).2 } := takeCommand_of_free hfree
  refine ⟨fun hmode => ?_, fun k hmode hk => ?_, fun hmode hk => ?_⟩
  · refine exec_of_panel hs hm (heff.trans ?_)
    rw [configureWith_frozen (s := dropMessage s) hlen hmode]
    rfl
  · refine exec_of_panel hs hm (heff.trans ?_)
    rw [configureWith_invalid (s := dropMessage s) hlen hmode hk]
    rfl
  · have heff' : effectOf (.configure block) s =
        (acceptBlock block (dropMessage s)).onPanel fun p =>
          { p with answer := some (PanelAnswer.of 2 .accepted []) } := by
      rw [heff, configureWith_accepted (s := dropMessage s) hlen hmode hk]
    refine ⟨_, exec_quiet hs hm heff' rfl rfl, rfl, fun hnode => ?_, rfl, loadBlock_storedBlock hlen hk, rfl, ?_,
      fun i hi => ?_⟩
    · have hvalid : ((acceptBlock block (dropMessage s)).onPanel fun p =>
          { p with answer := some (PanelAnswer.of 2 .accepted []) }).validConfig = some (readBlock block) := if_neg hnode
      refine ⟨by rw [State.supervisor]; exact congrArg (Option.map _) hvalid, ?_, ?_⟩
      · rw [syncAlarms_alarms]
        refine (Flag.follow_cond _ _ _).trans ?_
        show State.configAbsent _ = false
        unfold State.configAbsent
        rw [hvalid]
        rfl
      · rw [syncAlarms_alarms]
        simp only [relayLevel, State.relaySet, hvalid]
    · exact only_trans (only_mono (setPanel_only s _) (by decide))
        (only_trans (only_mono (setStore_only _ _) (by decide))
          (only_trans (only_mono (onStation_only _ _) (by decide))
            (only_trans (only_mono (onPanel_only _ _) (by decide)) (only_mono (syncAlarms_only _) (by decide)))))
    · refine syncAlarms_flag_same (hs.1 hm) rfl ?_
      cases i <;> first | rfl | exact absurd (List.mem_singleton.mpr rfl) hi

end Sys2Proof.Machine
end


section
/-! PROOFS. The selection: the entry it takes (O12), the chain that it forms, and what it leaves alone (R67 to R69, R74). -/

namespace Sys2Proof.Machine

/-! ### The best candidate (R68, R69) -/

theorem le_highestRank {es : List Entry} {e : Entry} (he : e ∈ es) : e.cls.rank ≤ highestRank es := by
  have h : ∀ (es : List Entry) (r : Nat), r ≤ es.foldl (fun r e => max r e.cls.rank) r
      ∧ ∀ e ∈ es, e.cls.rank ≤ es.foldl (fun r e => max r e.cls.rank) r := by
    intro es
    induction es with
    | nil => exact fun r => ⟨Nat.le_refl _, fun e he => absurd he List.not_mem_nil⟩
    | cons a es ih =>
      intro r
      obtain ⟨hle, hall⟩ := ih (max r a.cls.rank)
      refine ⟨Nat.le_trans (Nat.le_max_left _ _) hle, fun e he => ?_⟩
      rcases List.mem_cons.mp he with rfl | he
      · exact Nat.le_trans (Nat.le_max_right _ _) hle
      · exact hall e he
  exact (h es 0).2 e he

/-- The highest rank is that of one of the entries. -/
theorem highestRank_attained {es : List Entry} (h : es ≠ []) : ∃ e ∈ es, e.cls.rank = highestRank es := by
  have hall : ∀ (es : List Entry) (r : Nat), es.foldl (fun r e => max r e.cls.rank) r = r
      ∨ ∃ e ∈ es, e.cls.rank = es.foldl (fun r e => max r e.cls.rank) r := by
    intro es
    induction es with
    | nil => exact fun r => .inl rfl
    | cons a es ih =>
      intro r
      rcases ih (max r a.cls.rank) with hr | ⟨e, he, hr⟩
      · rw [List.foldl_cons, hr]
        rcases Nat.le_total r a.cls.rank with hle | hle
        · exact .inr ⟨a, List.mem_cons_self, by rw [Nat.max_eq_right hle]⟩
        · exact .inl (Nat.max_eq_left hle)
      · exact .inr ⟨e, List.mem_cons_of_mem a he, hr⟩
  rcases hall es 0 with h0 | h0
  · obtain ⟨e, he⟩ := List.exists_mem_of_ne_nil es h
    have := le_highestRank he
    exact ⟨e, he, Nat.le_antisymm this (by rw [show highestRank es = 0 from h0]; exact Nat.zero_le _)⟩
  · exact h0

/-- The entries among which the order of the service mode decides. -/
def State.bestCandidates (s : State) : List Entry :=
  (s.queue.entries.filter s.candidate).filter fun e =>
    e.cls.rank == highestRank (s.queue.entries.filter s.candidate)

theorem choose_eq (s : State) :
    s.choose = s.faceOrder.findSome? fun f => s.bestCandidates.find? fun e => decide (e.face = f) := rfl

theorem mem_bestCandidates {s : State} {e : Entry} :
    e ∈ s.bestCandidates ↔ e ∈ s.queue.entries ∧ s.candidate e = true
      ∧ e.cls.rank = highestRank (s.queue.entries.filter s.candidate) := by
  simp only [State.bestCandidates, List.mem_filter, beq_iff_eq, and_assoc]

theorem candidate_iff {s : State} {e : Entry} :
    s.candidate e = true ↔ e.running = false ∧ s.gate.allows e.cls = true
      ∧ (s.queue.holds.get e.face).isRunning = false := by
  simp [State.candidate, State.held, and_assoc]

/-- The entry chosen is the first of the best candidates in the order of the faces. -/
theorem choose_some {s : State} {e : Entry} (h : s.choose = some e) :
    e ∈ s.bestCandidates
      ∧ ∀ x ∈ s.bestCandidates, s.faceOrder.idxOf e.face ≤ s.faceOrder.idxOf x.face := by
  rw [choose_eq, List.findSome?_eq_some_iff] at h
  obtain ⟨pre, f, post, horder, hfind, hpre⟩ := h
  have hface : e.face = f := by simpa using List.find?_some hfind
  have hnot : ∀ x ∈ s.bestCandidates, x.face ∉ pre := by
    intro x hx hmem
    have hno := List.find?_eq_none.mp (hpre _ hmem) x hx
    simp at hno
  have hmem := List.mem_of_find?_eq_some hfind
  refine ⟨hmem, fun x hx => ?_⟩
  have hnotf : f ∉ pre := hface ▸ hnot e hmem
  rw [hface, horder, List.idxOf_append, List.idxOf_append, if_neg hnotf, if_neg (hnot x hx), List.idxOf_cons_self]
  exact Nat.add_le_add_right (Nat.zero_le _) _

/-- The order of the service mode takes in every face. -/
theorem mem_faceOrder {s : State} (h : queueInv s.queue) (f : FaceId) : f ∈ s.faceOrder := by
  unfold State.faceOrder
  split
  · generalize s.cfg.firstFace = g
    revert f g
    decide
  · rw [queueInv_iff] at h
    exact mem_rotation h.2.1 h.2.2 f

theorem choose_none {s : State} (h : queueInv s.queue) (hc : s.choose = none) :
    s.queue.entries.filter s.candidate = [] := by
  refine Classical.byContradiction fun hne => ?_
  obtain ⟨e, he, hr⟩ := highestRank_attained hne
  have hbest : e ∈ s.bestCandidates := mem_bestCandidates.mpr ⟨(List.mem_filter.mp he).1, (List.mem_filter.mp he).2, hr⟩
  rw [choose_eq, List.findSome?_eq_none_iff] at hc
  have hno := List.find?_eq_none.mp (hc e.face (mem_faceOrder h e.face)) e hbest
  simp at hno

theorem DemandClass.rank_inj {a b : DemandClass} (h : a.rank = b.rank) : a = b := by
  cases a <;> cases b <;> first | rfl | cases h

/-- Settles O12. The best candidates are those of the highest class, and the order of the faces takes the first. -/
theorem selectionIsBest : Obligations.SelectionIsBest := by
  unfold Obligations.SelectionIsBest
  intro s hq order
  have horder : s.faceOrder = order := by
    simp only [order, State.faceOrder]
    cases s.cfg.mode <;> simp
  rw [← horder]
  refine ⟨fun e he => ?_, fun hnone x hx => ?_⟩
  · obtain ⟨hbest, hfirst⟩ := choose_some he
    obtain ⟨hmem, hcand, hrank⟩ := mem_bestCandidates.mp hbest
    obtain ⟨hrun, hgate, hheld⟩ := candidate_iff.mp hcand
    refine ⟨hmem, hrun, hgate, hheld, fun x hx hxrun hxgate hxheld => ?_⟩
    have hxc : s.candidate x = true := candidate_iff.mpr ⟨hxrun, hxgate, hxheld⟩
    refine ⟨by rw [hrank]; exact le_highestRank (List.mem_filter.mpr ⟨hx, hxc⟩), fun hcls => hfirst x ?_⟩
    exact mem_bestCandidates.mpr ⟨hx, hxc, by rw [hcls, hrank]⟩
  · have hno := List.filter_eq_nil_iff.mp (choose_none hq hnone) x hx
    rw [candidate_iff, Classical.not_and_iff_not_or_not, Classical.not_and_iff_not_or_not] at hno
    simpa using hno

theorem choose_mem {s : State} {e : Entry} (h : s.choose = some e) : e ∈ s.queue.entries :=
  (mem_bestCandidates.mp (choose_some h).1).1

/-! ### The chain that a selection forms (R74) -/

/-- The cannon at the entry into CLAIMING (R76, R77). -/
theorem enterClaiming_cannon (ch : Chain) (s : State) :
    (enterClaiming ch s).cannon = { s.cannon.haltSegment s.now with state := .claiming } := by
  unfold enterClaiming
  simp only
  split
  · rfl
  · exact askClaim_only _ _ _ .cannon (by decide)

/-- The cannon as it begins to slew (R76). -/
theorem enterSlewing_cannon_of_off {ch : Chain} {s : State} (h : s.cannon.bearing ≠ some (s.descOf ch.face).arcStart) :
    (enterSlewing ch s).cannon =
      { s.cannon with
        state := .slewing
        drive := some (turnTowards s.cfg s.cannon.bearing (s.descOf ch.face).arcStart (Config.freeTurn s.free))
        slew := .running (s.now + s.cfg.slewTimeout * 1000) } := by
  unfold enterSlewing
  simp only [if_neg h]
  rfl

theorem enterSlewing_of_on {ch : Chain} {s : State} (h : s.cannon.bearing = some (s.descOf ch.face).arcStart) :
    enterSlewing ch s = enterClaiming ch s := if_pos h

/-- What a change of the cannon towards a chain's segment leaves alone. -/
structure CannonKeeps (c d : Cannon) : Prop where
  log : d.log = c.log
  serial : d.nextSerial = c.nextSerial
  count : d.noFlowCount = c.noFlowCount
  bearing : d.bearing = c.bearing
  charge : d.chargeFace = c.chargeFace
  chain : d.chain = c.chain
  branch : c.branchOpen = true → d.branchOpen = true
  valve : c.valveOpen = false → d.valveOpen = false
  primed : d.primed = c.primed

theorem enterClaiming_keeps (ch : Chain) (s : State) : CannonKeeps s.cannon (enterClaiming ch s).cannon := by
  rw [enterClaiming_cannon]
  exact ⟨rfl, rfl, rfl, rfl, rfl, rfl, id, fun _ => rfl, rfl⟩

theorem enterSlewing_keeps (ch : Chain) (s : State) : CannonKeeps s.cannon (enterSlewing ch s).cannon := by
  by_cases h : s.cannon.bearing = some (s.descOf ch.face).arcStart
  · rw [enterSlewing_of_on h]
    exact enterClaiming_keeps ch s
  · rw [enterSlewing_cannon_of_off h]
    exact ⟨rfl, rfl, rfl, rfl, rfl, rfl, id, id, rfl⟩

theorem enterSlewing_state (ch : Chain) (s : State) :
    (enterSlewing ch s).cannon.state = .slewing ∨ (enterSlewing ch s).cannon.state = .claiming := by
  by_cases h : s.cannon.bearing = some (s.descOf ch.face).arcStart
  · rw [enterSlewing_of_on h, enterClaiming_cannon]
    exact .inr rfl
  · rw [enterSlewing_cannon_of_off h]
    exact .inl rfl

theorem enterPriming_keeps (s : State) : CannonKeeps s.cannon (enterPriming s).cannon :=
  ⟨rfl, rfl, rfl, rfl, rfl, rfl, fun _ => rfl, id, rfl⟩

/-- The chain that a selection forms for an entry. -/
def State.planFor (s : State) (e : Entry) : Chain := planChain s.sec s.cfg.quantum (chainWaits s) e

/-- The state in which a selected chain goes on: the request answered, the entry running, the chain formed. -/
def selected (e : Entry) (s : State) : State :=
  ((s.setRequest false).setEntries
    (changeEntry e.face e.cls (fun e => { e with running := true }) s.queue.entries)).onCannon fun c =>
      { c with chain := some (s.planFor e), chargeFace := some e.face, standby := .stopped }

theorem startChain_eq (e : Entry) (s : State) :
    startChain e s =
      match s.cannon.state with
      | .parked => if s.cannon.primed then enterSlewing (s.planFor e) (selected e s) else enterPriming (selected e s)
      | .standby => enterPriming (selected e s)
      | _ => selected e s := by
  simp only [startChain, selected, State.planFor, chainWaits, Bool.decide_or] <;> rfl

theorem startChain_of_primed {e : Entry} {s : State} (h : s.cannon.state = .parked) (hp : s.cannon.primed = true) :
    startChain e s = enterSlewing (s.planFor e) (selected e s) := by
  rw [startChain_eq, h]
  exact if_pos hp

theorem startChain_of_unprimed {e : Entry} {s : State} (h : s.cannon.state = .parked) (hp : s.cannon.primed = false) :
    startChain e s = enterPriming (selected e s) := by
  rw [startChain_eq, h]
  exact if_neg (by simp [hp])

/-- The cannon of a selection: as `selected` leaves it, on its way to the first segment. -/
theorem startChain_keeps (e : Entry) (s : State) : CannonKeeps (selected e s).cannon (startChain e s).cannon := by
  rw [startChain_eq]
  split
  · split
    · exact enterSlewing_keeps _ _
    · exact enterPriming_keeps _
  · exact enterPriming_keeps _
  · exact ⟨rfl, rfl, rfl, rfl, rfl, rfl, id, id, rfl⟩

theorem startChain_state (e : Entry) (s : State) :
    (startChain e s).cannon.state = s.cannon.state ∨ (startChain e s).cannon.state = .slewing
      ∨ (startChain e s).cannon.state = .claiming ∨ (startChain e s).cannon.state = .priming := by
  rw [startChain_eq]
  split
  · split
    · rcases enterSlewing_state (s.planFor e) (selected e s) with h | h
      · exact .inr (.inl h)
      · exact .inr (.inr (.inl h))
    · exact .inr (.inr (.inr rfl))
  · exact .inr (.inr (.inr rfl))
  · exact .inl rfl

theorem startChain_queue (e : Entry) (s : State) :
    (startChain e s).queue =
      { s.queue with
        request := false
        entries := changeEntry e.face e.cls (fun e => { e with running := true }) s.queue.entries } := by
  rw [startChain_eq]
  split
  · split
    · exact enterSlewing_only _ _ .queue (by decide)
    · rfl
  · rfl
  · rfl

/-- A selection makes a chain of the entry that it takes. -/
theorem startChain_formed {e : Entry} {s : State} (he : e ∈ s.queue.entries) :
    chainFormed e (chainWaits s) s (startChain e s) := by
  have hk := startChain_keeps e s
  have hq := startChain_queue e s
  refine ⟨by rw [hq], ?_, hk.charge, hk.chain⟩
  rw [hq]
  exact mem_changeEntry.mpr (.inr ⟨e, he, rfl, rfl, rfl⟩)

/-! ### The request (R67) -/

/-- A selection is tried: the request is open in RUN, no lock stands and the cannon can take a chain. -/
structure Tries (s : State) : Prop where
  request : s.queue.request = true
  run : s.station.mode = .run
  able : s.cannon.selectable = true
  locks : s.lockout.locks = []

theorem tries_iff (s : State) :
    Tries s ↔ (s.queue.request && s.inRun && s.cannon.selectable && !s.locked) = true := by
  simp only [Bool.and_eq_true, Bool.not_eq_true', ← Bool.not_eq_true, locked_iff, Classical.not_not, State.inRun, decide_eq_true_eq]
  exact ⟨fun ⟨h1, h2, h3, h4⟩ => ⟨⟨⟨h1, h2⟩, h3⟩, h4⟩, fun ⟨⟨⟨h1, h2⟩, h3⟩, h4⟩ => ⟨h1, h2, h3, h4⟩⟩

theorem trySelection_of_choose {s : State} (h : Tries s) {e : Entry} (he : s.choose = some e) :
    trySelection s = startChain e s := by
  unfold trySelection
  rw [if_pos ((tries_iff s).mp h), he]

theorem trySelection_of_none {s : State} (he : s.choose = none) : trySelection s = s := by
  unfold trySelection
  rw [he]
  exact ite_self s

theorem trySelection_of_not {s : State} (h : ¬ Tries s) : trySelection s = s := by
  unfold trySelection
  rw [if_neg (fun hc => h ((tries_iff s).mpr hc))]

/-- A selection forms a chain, or changes nothing. -/
theorem trySelection_cases (s : State) :
    trySelection s = s ∨ ∃ e, Tries s ∧ s.choose = some e ∧ trySelection s = startChain e s := by
  by_cases h : Tries s
  · cases he : s.choose with
    | none => exact .inl (trySelection_of_none he)
    | some e => exact .inr ⟨e, h, rfl, trySelection_of_choose h he⟩
  · exact .inl (trySelection_of_not h)

/-- In RUN an open request is tried (R67, R68). -/
theorem trySelection_tried {s : State} (hm : s.station.mode = .run) : requestTried s (trySelection s) := by
  refine ⟨fun e hr ha hl he => ?_, fun h => ?_⟩
  · rw [trySelection_of_choose ⟨hr, hm, ha, hl⟩ he]
    exact startChain_formed (choose_mem he)
  · have hsame : trySelection s = s := by
      rcases h with h | h | h | h
      · exact trySelection_of_closed h
      · exact trySelection_of_unselectable h
      · exact trySelection_of_not fun ht => h ht.locks
      · exact trySelection_of_none h
    rw [hsame]
    exact ⟨rfl, rfl, rfl⟩

/-- What a selection leaves alone. -/
structure SelectionKeeps (s t : State) : Prop where
  log : t.cannon.log = s.cannon.log
  serial : t.cannon.nextSerial = s.cannon.nextSerial
  count : t.cannon.noFlowCount = s.cannon.noFlowCount
  bearing : t.cannon.bearing = s.cannon.bearing
  primed : t.cannon.primed = s.cannon.primed
  branch : s.cannon.branchOpen = true → t.cannon.branchOpen = true
  valve : s.cannon.valveOpen = false → t.cannon.valveOpen = false
  state : t.cannon.state = s.cannon.state ∨ t.cannon.state = .slewing ∨ t.cannon.state = .claiming
    ∨ t.cannon.state = .priming
  rotation : t.queue.rotation = s.queue.rotation
  holds : t.queue.holds = s.queue.holds
  removal : t.queue.lastRemoval = s.queue.lastRemoval
  shape : t.queue.entries = s.queue.entries ∨ ∃ e, s.choose = some e ∧ t.queue.entries =
    changeEntry e.face e.cls (fun e => { e with running := true }) s.queue.entries

theorem trySelection_keeps (s : State) : SelectionKeeps s (trySelection s) := by
  rcases trySelection_cases s with h | ⟨e, -, he, h⟩
  · rw [h]
    exact ⟨rfl, rfl, rfl, rfl, rfl, id, id, .inl rfl, rfl, rfl, rfl, .inl rfl⟩
  · rw [h]
    have hk := startChain_keeps e s
    have hq := startChain_queue e s
    exact ⟨hk.log, hk.serial, hk.count, hk.bearing, hk.primed, hk.branch, hk.valve, startChain_state e s,
      by rw [hq], by rw [hq], by rw [hq], .inr ⟨e, he, by rw [hq]⟩⟩

/-- A cannon that is in no state of a selection is left whole. -/
theorem trySelection_of_state {s : State}
    (h : s.cannon.state ≠ .parked ∧ s.cannon.state ≠ .standby ∧ s.cannon.state ≠ .draining
      ∧ s.cannon.state ≠ .priming) : trySelection s = s := by
  refine trySelection_of_not fun ht => ?_
  obtain ⟨h1, h2, h3, h4⟩ := h
  rcases selectable_of_state ht.able with hs | hs | hs | hs
  · exact h1 hs
  · exact h2 hs
  · exact h3 hs
  · exact h4 hs

end Sys2Proof.Machine
end


section
/-! PROOFS. The chain's end: its record, its face's place in the rotation order, and where it leaves the cannon (R61, R63,
R83, R84, R93). -/

namespace Sys2Proof.Machine

/-! ### The rotation order and the holds under the queue's operations -/

@[simp] theorem removeEntry_rotation (r : RemovalReason) (e : Entry) (s : State) :
    (removeEntry r e s).queue.rotation = s.queue.rotation := by
  rw [removeEntry_spray]

@[simp] theorem removeEntry_holds (r : RemovalReason) (e : Entry) (s : State) :
    (removeEntry r e s).queue.holds = s.queue.holds := by
  rw [removeEntry_spray]

@[simp] theorem countAttempt_rotation (f : FaceId) (c : DemandClass) (s : State) :
    (countAttempt f c s).queue.rotation = s.queue.rotation := by
  unfold countAttempt
  split
  · split
    · exact removeEntry_rotation _ _ s
    · rfl
  · rfl

@[simp] theorem dropReached_rotation (f : FaceId) (c : DemandClass) (s : State) :
    (dropReached f c s).queue.rotation = s.queue.rotation := by
  unfold dropReached
  split
  · split
    · exact removeEntry_rotation _ _ s
    · rfl
  · rfl

@[simp] theorem endEntry_rotation (ch : Chain) (c : Cause) (s : State) :
    (endEntry ch c s).queue.rotation = s.queue.rotation := by
  unfold endEntry
  split
  · simp only [dropReached_rotation]
    split
    · exact countAttempt_rotation _ _ _
    · rfl
  · rfl

@[simp] theorem reduceEntry_rotation (n : Nat) (s : State) (e : Entry) :
    (reduceEntry n s e).queue.rotation = s.queue.rotation := by
  unfold reduceEntry
  split
  · split
    · exact removeEntry_rotation _ _ s
    · exact removeEntry_rotation _ _ s
  · rfl

@[simp] theorem completionReduction_rotation (f : FaceId) (c : DemandClass) (n : Nat) (s : State) :
    (completionReduction f c n s).queue.rotation = s.queue.rotation := by
  have hf : ∀ (l : List Entry) (s : State), (l.foldl (reduceEntry n) s).queue.rotation = s.queue.rotation := by
    intro l
    induction l with
    | nil => exact fun _ => rfl
    | cons e l ih => exact fun s => (ih _).trans (reduceEntry_rotation n s e)
  unfold completionReduction
  split
  · rfl
  · exact hf _ s

theorem queueChainEnd_rotation (ch : Chain) (c : Cause) (s : State) :
    (queueChainEnd ch c s).queue.rotation =
      s.queue.rotation.filter (fun g => decide (g ≠ ch.face)) ++ [ch.face] := by
  show ((completionReduction ch.face ch.cls ch.litres (endEntry ch c s)).queue.rotation.filter _) ++ _ = _
  rw [completionReduction_rotation, endEntry_rotation]

/-! ### Before the report (R84) -/

/-- What the cannon's own part of a chain end leaves alone. -/
structure AfterKeeps (s t : State) : Prop where
  log : t.cannon.log = s.cannon.log
  serial : t.cannon.nextSerial = s.cannon.nextSerial
  charge : t.cannon.chargeFace = s.cannon.chargeFace
  bearing : t.cannon.bearing = s.cannon.bearing
  rotation : t.queue.rotation = s.queue.rotation
  holds : t.queue.holds = s.queue.holds
  entries : t.queue.entries = s.queue.entries
  removal : t.queue.lastRemoval = s.queue.lastRemoval

theorem afterChain_keeps (c : Cause) (ch : Chain) (s : State) : AfterKeeps s (afterChain c ch s) := by
  have hdrain : ∀ (s : State) (b : Bool), AfterKeeps s (drainCannon (s.setRequest b)) := fun _ _ =>
    ⟨rfl, rfl, rfl, rfl, rfl, rfl, rfl, rfl⟩
  have hreq : ∀ (s : State) (b : Bool), AfterKeeps s (s.setRequest b) := fun _ _ =>
    ⟨rfl, rfl, rfl, rfl, rfl, rfl, rfl, rfl⟩
  unfold afterChain
  split
  · split
    · exact hdrain s false
    · split
      · exact hdrain s false
      · exact ⟨rfl, rfl, rfl, rfl, rfl, rfl, rfl, rfl⟩
    · exact ⟨rfl, rfl, rfl, rfl, rfl, rfl, rfl, rfl⟩
    · exact ⟨rfl, rfl, rfl, rfl, rfl, rfl, rfl, rfl⟩
    · exact hreq s false
  · exact ⟨rfl, rfl, rfl, rfl, rfl, rfl, rfl, rfl⟩
  · split
    · exact ⟨rfl, rfl, rfl, rfl, rfl, rfl, rfl, rfl⟩
    · exact ⟨rfl, rfl, rfl, rfl, rfl, rfl, rfl, rfl⟩
  · exact hreq s false
  · split
    · exact hreq s true
    · exact hreq s true
    · split
      · exact hdrain s true
      · exact ⟨rfl, rfl, rfl, rfl, rfl, rfl, rfl, rfl⟩

/-- The state of a chain's end before the selection that follows the report. -/
def chainOver (c : Cause) (ch : Chain) (s : State) : State :=
  queueChainEnd ch c (afterChain c ch (chainGone c ch s))

theorem chainEnd_eq {c : Cause} {ch : Chain} {s : State} (h : s.cannon.chain = some ch) :
    chainEnd c s = trySelection (chainOver c ch s) := chainEnd_of_some h

theorem chainGone_queue (c : Cause) (ch : Chain) (s : State) : (chainGone c ch s).queue = s.queue :=
  (endClaim_only c (s.onCannon Cannon.halt)) .queue (by decide)

theorem chainOver_cannon (c : Cause) (ch : Chain) (s : State) :
    (chainOver c ch s).cannon = (afterChain c ch (chainGone c ch s)).cannon :=
  queueChainEnd_only ch c _ .cannon (by decide)

theorem chainOver_rest (c : Cause) (ch : Chain) (s : State) : AtRest (chainOver c ch s) :=
  sameCannon_rest (queueChainEnd_sameCannon ch c _) (afterChain_rest (chainGone_rest c ch s) c ch)

theorem chainOver_request (c : Cause) (ch : Chain) (s : State) :
    (chainOver c ch s).queue.request = (afterChain c ch (chainGone c ch s)).queue.request :=
  queueChainEnd_request ch c _

theorem chainOver_claim (c : Cause) (ch : Chain) (s : State) : (chainOver c ch s).claim.own.state = .none :=
  (chainOver_rest c ch s).claim

theorem chainGone_only (c : Cause) (ch : Chain) (s : State) :
    onlyChanges [.cannon, .claim, .line] s (chainGone c ch s) :=
  only_trans (only_mono (onCannon_only s _) (by decide))
    (only_trans (only_mono (endClaim_only c _) (by decide)) (only_mono (onCannon_only _ _) (by decide)))

theorem chainOver_only (c : Cause) (ch : Chain) (s : State) :
    onlyChanges [.queue, .cannon, .claim, .line, .face, .alarms, .free] s (chainOver c ch s) :=
  only_trans (only_mono (chainGone_only c ch s) (by decide))
    (only_trans (only_mono (afterChain_only c ch _) (by decide)) (only_mono (queueChainEnd_only ch c _) (by decide)))

theorem record_logged (sec : Nat) (ch : Chain) (cause : Cause) (c : Cannon) :
    logged (chainRecord sec c.nextSerial cause ch) c (c.record sec ch cause) := by
  refine ⟨?_, rfl⟩
  simp only [Cannon.record, chainRecord, List.length_append, List.length_singleton]

/-- A chain's end is recorded, and its face goes to the end of the rotation order. -/
theorem chainOver_endedBy (c : Cause) (ch : Chain) (s : State) : endedBy c ch s (chainOver c ch s) := by
  have hk := afterChain_keeps c ch (chainGone c ch s)
  have hg := chainGone_cannon c ch s
  obtain ⟨hlog, hser⟩ := record_logged s.sec ch c s.cannon.halt
  refine ⟨⟨?_, ?_⟩, ?_⟩
  · rw [chainOver_cannon, hk.log, hg]
    exact hlog
  · rw [chainOver_cannon, hk.serial, hg]
    exact hser
  · unfold chainOver
    rw [queueChainEnd_rotation, hk.rotation, chainGone_queue]

/-- `endedBy` speaks of the log, the serial and the rotation order alone. -/
theorem endedBy_congr {c : Cause} {ch : Chain} {s s' t t' : State} (h : endedBy c ch s t)
    (hn : s'.now = s.now) (hl : s'.cannon.log = s.cannon.log) (hs : s'.cannon.nextSerial = s.cannon.nextSerial)
    (hr : s'.queue.rotation = s.queue.rotation) (htl : t'.cannon.log = t.cannon.log)
    (hts : t'.cannon.nextSerial = t.cannon.nextSerial) (htr : t'.queue.rotation = t.queue.rotation) :
    endedBy c ch s' t' := by
  unfold endedBy logged at *
  rw [State.sec, hn, hl, hs, hr, htl, hts, htr]
  exact h

theorem chainEnd_endedBy {c : Cause} {ch : Chain} {s : State} (h : s.cannon.chain = some ch) :
    endedBy c ch s (chainEnd c s) := by
  have hk := trySelection_keeps (chainOver c ch s)
  rw [chainEnd_eq h]
  exact endedBy_congr (chainOver_endedBy c ch s) rfl rfl rfl rfl hk.log hk.serial hk.rotation

theorem chainEnd_valve {c : Cause} {ch : Chain} {s : State} (h : s.cannon.chain = some ch) :
    (chainEnd c s).cannon.valveOpen = false := by
  rw [chainEnd_eq h]
  exact (trySelection_keeps _).valve (chainOver_rest c ch s).valve

/-- Where no request is open after a chain's end, the end is the whole of it. -/
theorem chainEnd_of_closed {c : Cause} {ch : Chain} {s : State} (h : s.cannon.chain = some ch)
    (hr : (afterChain c ch (chainGone c ch s)).queue.request = false) : chainEnd c s = chainOver c ch s := by
  rw [chainEnd_eq h]
  exact trySelection_of_closed ((chainOver_request c ch s).trans hr)

theorem chainEnd_of_locked {c : Cause} {ch : Chain} {s : State} (h : s.cannon.chain = some ch)
    (hl : s.lockout.locks ≠ []) : chainEnd c s = chainOver c ch s := by
  rw [chainEnd_eq h]
  refine trySelection_of_not fun ht => hl ?_
  have hlk : (chainOver c ch s).lockout = s.lockout := chainOver_only c ch s .lockout (by decide)
  rw [← hlk]
  exact ht.locks

theorem chainGone_state (c : Cause) (ch : Chain) (s : State) : (chainGone c ch s).cannon.state = s.cannon.state := by
  rw [chainGone_cannon]
  rfl

theorem chainGone_count (c : Cause) (ch : Chain) (s : State) :
    (chainGone c ch s).cannon.noFlowCount = s.cannon.noFlowCount := by
  rw [chainGone_cannon]
  rfl

/-! ### LOCK and UNLOCK (O42, O43) -/

/-- Where a LOCK leaves a chain (R84, R88). -/
theorem afterChain_lockout_state {ch : Chain} {s : State}
    (h : s.cannon.state = .draining ∨ s.cannon.state = .priming ∨ s.cannon.state.serves = true) :
    ((afterChain .lockout ch s).cannon.state = .locked ∨ (afterChain .lockout ch s).cannon.state = .draining)
      ∧ (afterChain .lockout ch s).queue.request = false := by
  simp only [CannonState.serves_iff] at h
  unfold afterChain
  simp only
  split
  · exact ⟨.inr rfl, rfl⟩
  · split
    · exact ⟨.inr rfl, rfl⟩
    · exact ⟨.inl rfl, rfl⟩
  · exact ⟨.inl rfl, rfl⟩
  · exact ⟨.inl rfl, rfl⟩
  · rename_i h1 h2 h3 h4
    have hd : s.cannon.state = .draining := by grind
    exact ⟨.inr hd, rfl⟩

/-- A lawful chain stands in one of five states. -/
theorem state_of_chain {s : State} (h : cannonInv s) {ch : Chain} (hc : s.cannon.chain = some ch) :
    s.cannon.state = .draining ∨ s.cannon.state = .priming ∨ s.cannon.state.serves = true := by
  obtain ⟨-, -, -, -, -, -, hnone, -⟩ := h
  rw [hc] at hnone
  cases hst : s.cannon.state with
  | draining => exact .inl rfl
  | priming => exact .inr (.inl rfl)
  | slewing | claiming | spraying => exact .inr (.inr rfl)
  | parked => exact absurd (hnone (.inl hst)) nofun
  | standby => exact absurd (hnone (.inr (.inl hst))) nofun
  | locked => exact absurd (hnone (.inr (.inr (.inl hst)))) nofun
  | fault => exact absurd (hnone (.inr (.inr (.inr hst)))) nofun

/-- What a LOCK that finds the list empty makes of the cannon. -/
structure LockStops (s t : State) : Prop where
  state : t.cannon.state = .locked ∨ t.cannon.state = .draining ∨ t.cannon.state = .fault
  valve : t.cannon.valveOpen = false
  drive : t.cannon.drive = none
  claim : t.claim.own.state = .none
  request : s.cannon.state ≠ .fault → s.cannon.state ≠ .locked → t.queue.request = false
  ended : ∀ ch, s.cannon.chain = some ch → endedBy .lockout ch s t

theorem respondToLock_of_chain {ch : Chain} {s : State} (h : s.cannon.chain = some ch)
    (hst : s.cannon.state = .draining ∨ s.cannon.state = .priming ∨ s.cannon.state.serves = true) :
    respondToLock s = chainEnd .lockout s := by
  have hsome : s.cannon.chain.isSome = true := by rw [h]; rfl
  unfold respondToLock
  rw [if_pos hsome, if_pos hsome]
  cases hs : s.cannon.state <;> simp_all [CannonState.serves]

theorem respondToLock_stops {s : State} (l : List Lock) (hl : l ≠ []) (h : cannonInv s) :
    LockStops s (respondToLock (writeLocks l s)) := by
  cases hc : s.cannon.chain with
  | some ch =>
    have hst := state_of_chain h hc
    rw [respondToLock_of_chain (s := writeLocks l s) hc hst, chainEnd_of_locked (s := writeLocks l s) hc hl]
    have hr := chainOver_rest .lockout ch (writeLocks l s)
    obtain ⟨hstate, hreq⟩ := afterChain_lockout_state (ch := ch) (s := chainGone .lockout ch (writeLocks l s))
      (by rw [chainGone_state]; exact hst)
    refine ⟨?_, hr.valve, hr.drive, hr.claim, fun _ _ => (chainOver_request _ _ _).trans hreq, fun ch' hch' => ?_⟩
    · rw [chainOver_cannon]
      exact hstate.imp_right .inl
    · rw [← Option.some.inj (hc.symm.trans hch')]
      exact endedBy_congr (chainOver_endedBy .lockout ch (writeLocks l s)) rfl rfl rfl rfl rfl rfl rfl
  | none =>
    obtain ⟨hr, hserve⟩ := atRest_of_inv h hc
    have hrt : AtRest (writeLocks l s) := ⟨hr.chain, hr.valve, hr.drive, hr.claim⟩
    have hno : ∀ ch, s.cannon.chain = some ch → endedBy .lockout ch s (respondToLock (writeLocks l s)) := fun ch hch => by
      rw [hc] at hch
      cases hch
    obtain ⟨h1, h2, h3⟩ := CannonState.idle_of_not_serves hserve
    have hnone : ¬ (writeLocks l s).cannon.chain.isSome = true := by rw [hrt.chain]; exact nofun
    have hcases : respondToLock (writeLocks l s) =
        match s.cannon.state with
        | .parked => lockCannon (writeLocks l s)
        | .standby => lockCannon (writeLocks l s)
        | .priming => abandonPriming (writeLocks l s)
        | .draining => (writeLocks l s).setRequest false
        | _ => writeLocks l s := by
      unfold respondToLock
      rw [if_neg hnone, if_neg hnone, show (writeLocks l s).cannon.state = s.cannon.state from rfl]
      cases hs : s.cannon.state <;> simp_all
    cases hs : s.cannon.state <;> rw [hs] at hcases <;> simp only at hcases
    case parked =>
      have hk := lockCannon_rest hrt
      rw [hcases] at hno ⊢
      exact ⟨.inl rfl, hk.valve, hk.drive, hk.claim, fun _ _ => rfl, hno⟩
    case standby =>
      have hk := lockCannon_rest hrt
      rw [hcases] at hno ⊢
      exact ⟨.inl rfl, hk.valve, hk.drive, hk.claim, fun _ _ => rfl, hno⟩
    case priming =>
      have hk := abandonPriming_rest hrt
      rw [hcases] at hno ⊢
      exact ⟨.inl rfl, hk.valve, hk.drive, hk.claim, fun _ _ => rfl, hno⟩
    case draining =>
      have hk := hrt.setRequest false
      rw [hcases] at hno ⊢
      exact ⟨.inr (.inl hs), hk.valve, hk.drive, hk.claim, fun _ _ => rfl, hno⟩
    case locked =>
      rw [hcases] at hno ⊢
      exact ⟨.inl hs, hrt.valve, hrt.drive, hrt.claim, fun _ hl => absurd hs hl, hno⟩
    case fault =>
      rw [hcases] at hno ⊢
      exact ⟨.inr (.inr hs), hrt.valve, hrt.drive, hrt.claim, fun hf _ => absurd hs hf, hno⟩
    case slewing => exact absurd hs h1
    case claiming => exact absurd hs h2
    case spraying => exact absurd hs h3

end Sys2Proof.Machine
end


section
/-! PROOFS. The conditions of the alarm flags under the operations of the queue, the cannon and the claim: none of them
touches the supply state or the line's two conditions. -/

namespace Sys2Proof.Machine

/-- What the line's reception holds, with its isolation watch and its two conditions. -/
def Line.reception (l : Line) : Nat × Bool × List Byte × Timer × Bool × Bool :=
  (l.quietSince, l.busy, l.partialFrame, l.isolation, l.isolated, l.duplicate)

/-- The supply state and the line's reception are the same in two states. -/
structure SameReports (s t : State) : Prop where
  supply : t.claim.supply = s.claim.supply
  reception : t.line.reception = s.line.reception

theorem SameReports.quietSince {s t : State} (h : SameReports s t) : t.line.quietSince = s.line.quietSince :=
  congrArg (fun r => r.1) h.reception

theorem SameReports.busy {s t : State} (h : SameReports s t) : t.line.busy = s.line.busy :=
  congrArg (fun r => r.2.1) h.reception

theorem SameReports.partialFrame {s t : State} (h : SameReports s t) : t.line.partialFrame = s.line.partialFrame :=
  congrArg (fun r => r.2.2.1) h.reception

theorem SameReports.isolation {s t : State} (h : SameReports s t) : t.line.isolation = s.line.isolation :=
  congrArg (fun r => r.2.2.2.1) h.reception

theorem SameReports.isolated {s t : State} (h : SameReports s t) : t.line.isolated = s.line.isolated :=
  congrArg (fun r => r.2.2.2.2.1) h.reception

theorem SameReports.duplicate {s t : State} (h : SameReports s t) : t.line.duplicate = s.line.duplicate :=
  congrArg (fun r => r.2.2.2.2.2) h.reception

theorem SameReports.refl (s : State) : SameReports s s := ⟨rfl, rfl⟩

theorem SameReports.trans {s t u : State} (h : SameReports s t) (k : SameReports t u) : SameReports s u :=
  ⟨k.supply.trans h.supply, k.reception.trans h.reception⟩

/-- `trans` with the last step first. -/
theorem SameReports.after {s t u : State} (k : SameReports t u) (h : SameReports s t) : SameReports s u := h.trans k

theorem SameReports.ite {s t u : State} {p : Prop} [Decidable p] (ht : SameReports s t) (hu : SameReports s u) :
    SameReports s (if p then t else u) := by
  split <;> assumption

theorem SameReports.foldl {α : Type} {g : State → α → State} (h : ∀ s a, SameReports s (g s a)) (l : List α)
    (s : State) : SameReports s (l.foldl g s) := by
  induction l generalizing s with
  | nil => exact .refl s
  | cons a l ih => exact (h s a).trans (ih (g s a))

theorem SameReports.of_only {fs : List Field} {s t : State} (h : onlyChanges fs s t)
    (hf : ∀ f ∈ [Field.claim, .line], f ∉ fs := by decide) : SameReports s t := by
  have hc : t.claim = s.claim := h .claim (hf _ (by decide))
  have hl : t.line = s.line := h .line (hf _ (by decide))
  exact ⟨by rw [hc], by rw [hl]⟩

/-- Where the cannon's FAULT, the station and the account are the same too, every condition is. -/
theorem SameReports.conditions {s t : State} (h : SameReports s t)
    (hc : t.cannon.state = .fault ↔ s.cannon.state = .fault) (hs : t.station = s.station)
    (ha : t.account = s.account) (hw : t.wind = s.wind) (hf : t.forecast = s.forecast) :
    t.conditions = s.conditions := by
  simp only [State.conditions, State.freshExhausted, State.windLost, State.configAbsent, State.validConfig, h.supply,
    h.duplicate, h.isolated, hs, ha, hw, hf, hc]

/-- Every condition but the cannon's. -/
theorem SameReports.conditions_get {s t : State} (h : SameReports s t) (hs : t.station = s.station)
    (ha : t.account = s.account) (hw : t.wind = s.wind) (hf : t.forecast = s.forecast) {i : AlarmId}
    (hi : i ≠ .cannonFault) : t.conditions.get i = s.conditions.get i := by
  cases i <;> simp only [State.conditions, PerFlag.get, State.freshExhausted, State.windLost, State.configAbsent,
    State.validConfig, h.supply, h.duplicate, h.isolated, hs, ha, hw, hf]
  exact absurd rfl hi

/-- An arrival that leaves the flags' conditions and the station alone changes no flag. -/
theorem close_only_of_conditions {fs : List Field} {s0 s t : State} (h : onlyChanges fs s t) (hs : syncAlarms s = s)
    (hc : t.conditions = s.conditions) (ha : Field.alarms ∉ fs := by decide) (hl : Field.line ∈ fs := by decide)
    (hst : Field.station ∉ fs := by decide) : onlyChanges fs s (closeArrival s0 t) := by
  intro f hf
  by_cases hfa : f = .alarms
  · subst hfa
    show (closeArrival s0 t).alarms = s.alarms
    rw [closeArrival_alarms, syncAlarms_same hs (h .alarms ha) hc (relaySet_of_station (h .station hst))]
    exact h .alarms ha
  · exact close_only (fs := .alarms :: fs) (only_mono h fun _ => List.mem_cons_of_mem _) List.mem_cons_self
      (List.mem_cons_of_mem _ hl) f (by simp [hfa, hf])

/-! ### The transmit queue and the claim -/

theorem settleAccess_reception (l : Line) : l.settleAccess.reception = l.reception := by
  unfold Line.settleAccess
  split <;> rfl

theorem offer_reception (sec : Nat) (c : Content) (l : Line) : (l.offer sec c).1.reception = l.reception := by
  unfold Line.offer
  split
  · rfl
  · split
    · exact settleAccess_reception _
    · split <;> rfl

theorem lineOffer_reports (c : Content) (s : State) : SameReports s (lineOffer c s).1 := by
  unfold lineOffer
  split
  · exact ⟨rfl, offer_reception s.sec c s.line⟩
  · exact .refl s

theorem offerStatus_reports (s : State) : SameReports s (offerStatus s) := by
  have h := lineOffer_reports (buildStatus s) s
  exact .ite (h.trans ⟨rfl, rfl⟩) (h.trans ⟨rfl, rfl⟩)

theorem closeStatus_reports (s0 s : State) : SameReports s (closeStatus s0 s) := by
  have hchange : SameReports s (statusOnChange s) := .ite ⟨rfl, rfl⟩ (offerStatus_reports s)
  have hretry : ∀ u, SameReports u (statusRetry u) := fun u => .ite (offerStatus_reports u) (.refl u)
  exact .ite (.after (t := statusRetry _) ⟨rfl, rfl⟩ (.after (hretry _) (.ite (.refl s) hchange))) ⟨rfl, rfl⟩

/-- The end of an arrival, its STATUS included, leaves what the reception holds. -/
theorem closeArrival_reports (s0 s : State) : SameReports s (closeArrival s0 s) :=
  .after (closeStatus_reports s0 _) (.of_only (syncAlarms_only s))

theorem announceClaim_reports (s : State) : SameReports s (announceClaim s) :=
  .after (t := (lineOffer s.claimContent s).1) ⟨rfl, rfl⟩ (lineOffer_reports _ s)

theorem takeDecision_reports (d : Decision) (s : State) : SameReports s (takeDecision d s) :=
  .ite ⟨rfl, rfl⟩ (.after (announceClaim_reports _) ⟨rfl, rfl⟩)

theorem askClaim_reports (c : DemandClass) (b : Nat) (s : State) : SameReports s (askClaim c b s) :=
  .ite (.after (announceClaim_reports _) ⟨rfl, rfl⟩) (.refl s)

theorem noClaim_reports (s : State) : SameReports s (noClaim s) := ⟨rfl, rfl⟩

theorem withdrawClaim_reports (s : State) : SameReports s (withdrawClaim s) := by
  have hw : SameReports s (s.setLine (s.line.withdraw (s.claim.own.serial.getD 0))) := by
    exact ⟨rfl, settleAccess_reception _⟩
  exact .ite (hw.trans (lineOffer_reports _ _)) hw

theorem releaseClaim_reports (s : State) : SameReports s (releaseClaim s) :=
  .ite (.refl s) (.after (noClaim_reports _) (withdrawClaim_reports s))

theorem endClaim_reports (c : Cause) (s : State) : SameReports s (endClaim c s) := by
  unfold endClaim
  split
  · exact noClaim_reports s
  · exact noClaim_reports s
  · exact releaseClaim_reports s

/-! ### Selections and chain ends -/

theorem onCannon_reports (s : State) (g : Cannon → Cannon) : SameReports s (s.onCannon g) := ⟨rfl, rfl⟩

theorem enterClaiming_reports (ch : Chain) (s : State) : SameReports s (enterClaiming ch s) :=
  .ite (onCannon_reports s _) (.after (askClaim_reports _ _ _) (onCannon_reports s _))

theorem enterSlewing_reports (ch : Chain) (s : State) : SameReports s (enterSlewing ch s) :=
  .ite (enterClaiming_reports ch s) ⟨rfl, rfl⟩

theorem startChain_reports (e : Entry) (s : State) : SameReports s (startChain e s) := by
  have hs : SameReports s (selected e s) := ⟨rfl, rfl⟩
  rw [startChain_eq]
  split
  · exact .ite (.after (enterSlewing_reports _ _) hs) (.after (onCannon_reports _ _) hs)
  · exact .after (onCannon_reports _ _) hs
  · exact hs

theorem trySelection_reports (s : State) : SameReports s (trySelection s) := by
  rcases trySelection_cases s with h | ⟨e, -, -, h⟩
  · rw [h]
    exact .refl s
  · rw [h]
    exact startChain_reports e s

theorem openRequest_reports (s : State) : SameReports s (openRequest s) :=
  .ite (.refl s) (.after (trySelection_reports _) ⟨rfl, rfl⟩)

theorem enterParked_reports (s : State) : SameReports s (enterParked s) :=
  .after (openRequest_reports _) (onCannon_reports s _)

theorem parkOrLock_reports (s : State) : SameReports s (parkOrLock s) := .ite ⟨rfl, rfl⟩ (enterParked_reports s)

theorem chainEnd_reports (c : Cause) (s : State) : SameReports s (chainEnd c s) := by
  unfold chainEnd
  split
  · exact .refl s
  · refine .after (trySelection_reports _) (.after (.of_only (queueChainEnd_only _ c _)) ?_)
    refine .after (.of_only (afterChain_only c _ _)) (.after (onCannon_reports _ _) ?_)
    exact .after (endClaim_reports c _) (onCannon_reports s _)

/-! ### Offers, decisions and the gating -/

theorem preempt_reports (o : Offer) (s : State) : SameReports s (preempt o s) := by
  unfold preempt
  split
  · exact .ite (chainEnd_reports .preempted s) (.refl s)
  · exact .refl s

theorem offerDemand_reports (o : Offer) (s : State) : SameReports s (offerDemand o s).1 := by
  have ha : SameReports s (admitOffer o s).1 := .of_only (admitOffer_only o s)
  have ht : ∀ s1, SameReports s s1 → SameReports s (trySelection (preempt o (passOffered o s1))) := fun s1 h =>
    .after (trySelection_reports _) (.after (preempt_reports o _) (.after (.of_only (passOffered_only o s1)) h))
  unfold offerDemand
  split
  · rename_i s1 h
    exact ht s1 (by rwa [h] at ha)
  · rename_i s1 h
    exact ht s1 (by rwa [h] at ha)
  · exact ha

theorem enterSpraying_reports (t : Nat) (s : State) : SameReports s (enterSpraying t s) := by
  unfold enterSpraying
  split
  · exact ⟨rfl, rfl⟩
  · exact .refl s

theorem changeOnTime_reports (t : Nat) (s : State) : SameReports s (changeOnTime t s) :=
  .ite (onCannon_reports s _) (.refl s)

theorem settleDecision_reports (d : Decision) (s : State) : SameReports s (settleDecision d s) := by
  unfold settleDecision
  split
  · exact .after (enterSpraying_reports _ _) (takeDecision_reports d s)
  · exact takeDecision_reports d s

theorem recompute_reports (s : State) : SameReports s (recompute s) := by
  unfold recompute
  split
  · exact .refl s
  · exact .refl s
  · exact .ite (.refl s) (settleDecision_reports _ s)
  · split
    · exact .after (changeOnTime_reports _ _) (takeDecision_reports _ s)
    · exact chainEnd_reports .yielded s

theorem gatingEffects_reports (before : Gate) (s : State) : SameReports s (gatingEffects before s) := by
  unfold gatingEffects
  refine .ite (.refl s) ?_
  simp only
  split
  · exact .ite (trySelection_reports s) (.after (chainEnd_reports .source _) (trySelection_reports s))
  · exact trySelection_reports s

theorem endHolds_reports (s : State) : SameReports s (endHolds s) :=
  .ite (.after (trySelection_reports _) ⟨rfl, rfl⟩) ⟨rfl, rfl⟩

theorem completeSegment_reports (ch : Chain) (s : State) : SameReports s (completeSegment ch s) :=
  .ite (.after (enterClaiming_reports _ _) (.after (releaseClaim_reports _) (onCannon_reports s _)))
    (.after (chainEnd_reports .complete _) (onCannon_reports s _))

theorem chargeChain_reports (s : State) : SameReports s (chargeChain s) := by
  unfold chargeChain
  split
  · refine .ite ?_ (.refl s)
    have h : ∀ ch g, SameReports s ((chargeEntry ch s).onCannon g) := fun ch g =>
      .after (onCannon_reports _ g) (.of_only (chargeEntry_only ch s))
    exact .ite (.after (completeSegment_reports _ _) (h _ _)) (h _ _)
  · exact .refl s

end Sys2Proof.Machine
end


section
/-! PROOFS. The panel's LOCK, UNLOCK, CLEAR FAULT and TEST SPRAY (O42, O43, O45, O46). -/

namespace Sys2Proof.Machine

/-! ### An answered command -/

/-- The answer of a command that is taken. -/
def answeredBy (a : PanelAnswer) (s : State) : State :=
  s.setPanel { s.panel with partialMessage := [], answer := some a }

/-- A command whose work changes nothing is its answer. -/
theorem exec_of_answer {c : Instr} {code : Nat} {work : State → State × PanelAnswer} {s : State} {a : PanelAnswer}
    (hs : settled s) (hm : s.station.mode ≠ .start) (hfree : s.panel.answer = none)
    (he : effectOf c s = takeCommand code work s) (hw : work (dropMessage s) = (dropMessage s, a))
    (hc : Instr.ordinary c := by exact nofun) : exec c s = .next (answeredBy a s) := by
  refine exec_of_panel hs hm (he.trans ?_) hc
  rw [takeCommand_of_free hfree, hw]
  rfl

/-- What a command that is taken leaves: the state of its work, and its answer. -/
theorem exec_of_work {c : Instr} {code : Nat} {work : State → State × PanelAnswer} {s t : State} {a : PanelAnswer}
    (hm : s.station.mode ≠ .start) (hfree : s.panel.answer = none)
    (he : effectOf c s = takeCommand code work s) (hw : work (dropMessage s) = (t, a))
    (hc : Instr.ordinary c := by exact nofun) :
    exec c s = .next (closeArrival s (t.onPanel fun p => { p with answer := some a })) := by
  refine exec_eq hm (he.trans ?_) hc
  rw [takeCommand_of_free hfree, hw]

/-- The parts that a taken command changes: those of its work and the panel. -/
theorem answered_only {fs : List Field} {s t : State} {a : PanelAnswer} (h : onlyChanges fs (dropMessage s) t)
    (hp : Field.panel ∈ fs := by decide) (ha : Field.alarms ∈ fs := by decide) (hl : Field.line ∈ fs := by decide) :
    onlyChanges fs s (closeArrival s (t.onPanel fun p => { p with answer := some a })) := by
  have hpan : ∀ f, f ∈ [Field.panel] → f ∈ fs := fun f hf => (List.mem_singleton.mp hf) ▸ hp
  exact close_only (only_trans (only_mono (onPanel_only s _) hpan)
    (only_trans h (only_mono (onPanel_only _ _) hpan))) ha hl

theorem answered_panel {s t : State} {a : PanelAnswer} (h : t.panel = (dropMessage s).panel) :
    (closeArrival s (t.onPanel fun p => { p with answer := some a })).panel =
      { s.panel with partialMessage := [], answer := some a } := by
  simp only [closeArrival_panel, State.onPanel, State.setPanel_panel, h]
  rfl

/-! ### LOCK (O42) -/

section Lock

variable {code level : Nat} {s : State}

theorem applyLock_bad (h : 1 < level ∨ 999999 < code) : applyLock code level s = (s, .invalid) := by
  unfold applyLock lockLevelOf maxCode
  by_cases h0 : level = 0
  · rw [if_pos h0]
    exact if_pos (h.resolve_left (by omega))
  · by_cases h1 : level = 1
    · rw [if_neg h0, if_pos h1]
      exact if_pos (h.resolve_left (by omega))
    · rw [if_neg h0, if_neg h1]

theorem lockLevelOf_of_le (h : level ≤ 1) :
    lockLevelOf level = some (if level = 0 then .standard else .strict) := by
  unfold lockLevelOf
  by_cases h0 : level = 0
  · rw [if_pos h0, if_pos h0]
  · rw [if_neg h0, if_neg h0, if_pos (by omega)]

theorem applyLock_held (hl : level ≤ 1) (hc : code ≤ 999999) (h : ∃ k ∈ s.lockout.locks, k.code = code) :
    applyLock code level s = (s, .duplicate) := by
  have hany : (s.lockout.locks.any fun k => decide (k.code = code)) = true := by simpa using h
  unfold applyLock
  rw [lockLevelOf_of_le hl]
  show (if maxCode < code then _ else _) = _
  rw [if_neg (show ¬ maxCode < code from Nat.not_lt.mpr hc), if_pos hany]

variable (hl : level ≤ 1) (hc : code ≤ 999999) (hnew : ∀ k ∈ s.lockout.locks, k.code ≠ code)
include hl hc hnew

theorem applyLock_new :
    applyLock code level s =
      if 4 ≤ s.lockout.locks.length then (s, .full)
      else (addLock code (if level = 0 then .standard else .strict) s, .accepted) := by
  have hany : ¬ (s.lockout.locks.any fun k => decide (k.code = code)) = true := by simpa using hnew
  unfold applyLock
  rw [lockLevelOf_of_le hl]
  show (if maxCode < code then _ else _) = _
  rw [if_neg (show ¬ maxCode < code from Nat.not_lt.mpr hc), if_neg hany]

end Lock

/-- The lock list with a new lock (R165). -/
def State.locksWith (s : State) (code : Nat) (v : LockLevel) : List Lock :=
  s.lockout.locks ++ [{ code := code, level := v, time := some s.sec }]

/-- A lock added to a list that is not empty is written, and nothing else happens. -/
theorem addLock_of_locked {s : State} (h : s.lockout.locks ≠ []) (code : Nat) (v : LockLevel) :
    addLock code v s = writeLocks (s.locksWith code v) s :=
  if_pos ((locked_iff s).mpr h)

theorem addLock_of_free {s : State} (h : s.lockout.locks = []) (code : Nat) (v : LockLevel) :
    addLock code v s =
      respondToLock (writeLocks (s.locksWith code v) s) :=
  if_neg fun hl => (locked_iff s).mp hl h

/-- Whatever the cannon does, the list and the store are as they were written. -/
theorem addLock_lists (code : Nat) (v : LockLevel) (s : State) :
    (addLock code v s).lockout = { s.lockout with locks := s.locksWith code v }
      ∧ (addLock code v s).store =
        { s.store with locks := some ((s.locksWith code v).map fun k => (k.code, k.level)) } := by
  by_cases h : s.lockout.locks = []
  · rw [addLock_of_free h]
    exact ⟨respondToLock_only _ .lockout (by decide), respondToLock_only _ .store (by decide)⟩
  · rw [addLock_of_locked h]
    exact ⟨rfl, rfl⟩

theorem addLock_only (code : Nat) (v : LockLevel) (s : State) :
    onlyChanges [.lockout, .store, .queue, .cannon, .claim, .line, .face, .alarms, .free] s (addLock code v s) :=
  only_ite (only_mono (writeLocks_only _ s) (by decide))
    (only_trans (only_mono (writeLocks_only _ s) (by decide)) (only_mono (respondToLock_only _) (by decide)))

/-- Settles O42, by the branches of `applyLock` and what `respondToLock_stops` says of the first lock. -/
theorem lockIsTaken : Obligations.LockIsTaken := by
  unfold Obligations.LockIsTaken
  intro code level s hs hm hfree hinv
  have heff : effectOf (.lock code level) s = takeCommand 3 (lockWith code level) s := rfl
  have hrefused : ∀ a, applyLock code level (dropMessage s) = (dropMessage s, a) →
      exec (.lock code level) s = .next (answeredBy (PanelAnswer.of 3 a []) s) := fun a ha =>
    exec_of_answer hs hm hfree heff (by unfold lockWith; rw [ha])
  refine ⟨fun h => hrefused _ (applyLock_bad h), fun hl hc h => hrefused _ (applyLock_held hl hc h),
    fun hl hc h hfull => hrefused .full ?_, fun hl hc h hroom => ?_⟩
  · rw [applyLock_new hl hc (s := dropMessage s) h]
    exact if_pos hfull
  · have happly := (applyLock_new hl hc (s := dropMessage s) h).trans (if_neg (Nat.not_le.mpr hroom))
    let v : LockLevel := if level = 0 then .standard else .strict
    have hexec := exec_of_work (t := addLock code v (dropMessage s)) (a := PanelAnswer.of 3 .accepted []) hm hfree heff
      (by unfold lockWith; rw [happly])
    obtain ⟨hlock, hstore⟩ := addLock_lists code v (dropMessage s)
    have honly := addLock_only code v (dropMessage s)
    refine ⟨_, hexec, ?_, ?_, ?_, ?_, ?_, fun hne => ?_, fun hnil => ?_, answered_only (only_mono honly (by decide))⟩
    · exact answered_panel (honly .panel (by decide))
    · rw [closeArrival_lockout]
      exact congrArg Lockout.locks hlock
    · rw [closeArrival_lockout]
      exact (congrArg Lockout.attempts hlock :)
    · simp only [closeArrival_lockout, closeArrival_store]
      refine (congrArg Store.locks hstore).trans ?_
      show _ = some ((addLock code v (dropMessage s)).lockout.locks.map _)
      rw [hlock]
    · rw [closeArrival_store]
      exact (congrArg Store.block hstore :)
    · simp only [closeArrival_cannon, closeArrival_queue, closeArrival_claim]
      rw [addLock_of_locked (s := dropMessage s) hne]
      exact ⟨rfl, rfl, rfl⟩
    · have hstop := respondToLock_stops (s := dropMessage s)
        ((dropMessage s).locksWith code v) (by simp [State.locksWith]) hinv
      rw [← addLock_of_free (s := dropMessage s) hnil] at hstop
      simp only [closeArrival_cannon, closeArrival_queue, closeArrival_claim]
      refine ⟨hstop.state, hstop.valve, hstop.drive, hstop.claim, hstop.request, fun ch hch => ?_⟩
      exact endedBy_congr (hstop.ended ch hch) rfl rfl rfl rfl (by simp [State.onPanel]) (by simp [State.onPanel])
        (by simp [State.onPanel])

/-! ### UNLOCK (O43) -/

/-- The entry into PARKED leaves LOCKED, with the branch open (R73). -/
theorem enterParked_parks (s : State) :
    (enterParked s).cannon.branchOpen = true ∧ (enterParked s).cannon.state ≠ .locked
      ∧ (enterParked s).cannon.state ≠ .fault ∧ (enterParked s).cannon.noFlowCount = s.cannon.noFlowCount := by
  unfold enterParked openRequest
  split
  · exact ⟨rfl, nofun, nofun, rfl⟩
  · have hk := trySelection_keeps ((parkCannon s).setRequest true)
    refine ⟨hk.branch rfl, ?_, ?_, hk.count⟩ <;>
    · intro h
      rcases hk.state with hs | hs | hs | hs <;> rw [h] at hs <;> cases hs

theorem removeLocks_of_kept {l : List Lock} (h : l ≠ []) (s : State) : removeLocks l s = writeLocks l s :=
  if_neg (by simpa using h)

theorem removeLocks_of_last (s : State) : removeLocks [] s = respondToUnlock (writeLocks [] s) := rfl

theorem respondToUnlock_of_locked {s : State} (h : s.cannon.state = .locked) : respondToUnlock s = enterParked s := if_pos h

theorem respondToUnlock_of_other {s : State} (h : s.cannon.state ≠ .locked) : respondToUnlock s = s := if_neg h

/-- Whatever the cannon does, the list and the store are as they were written. -/
theorem removeLocks_lists (l : List Lock) (s : State) :
    (removeLocks l s).lockout = { s.lockout with locks := l }
      ∧ (removeLocks l s).store = { s.store with locks := some (l.map fun k => (k.code, k.level)) } := by
  cases l with
  | nil => exact ⟨respondToUnlock_only _ .lockout (by decide), respondToUnlock_only _ .store (by decide)⟩
  | cons k l =>
    rw [removeLocks_of_kept (List.cons_ne_nil k l)]
    exact ⟨rfl, rfl⟩

/-- The cannon hears only of a list that becomes empty while it is LOCKED (R168). -/
theorem removeLocks_quiet {l : List Lock} {s : State} (h : l ≠ [] ∨ s.cannon.state ≠ .locked) :
    removeLocks l s = writeLocks l s := by
  cases l with
  | nil => exact respondToUnlock_of_other (s := writeLocks [] s) (h.resolve_left fun hn => hn rfl)
  | cons k l => exact removeLocks_of_kept (List.cons_ne_nil k l) s

/-- The end of the lock list touches no condition (R168). -/
theorem removeLocks_conditions (l : List Lock) (s : State) : (removeLocks l s).conditions = s.conditions := by
  by_cases h : l ≠ [] ∨ s.cannon.state ≠ .locked
  · rw [removeLocks_quiet h]
    rfl
  · obtain ⟨hl, hst⟩ := not_or.1 h
    obtain rfl := Classical.not_not.1 hl
    have hst := Classical.not_not.1 hst
    rw [removeLocks_of_last, respondToUnlock_of_locked (s := writeLocks [] s) hst]
    have honly := enterParked_only (writeLocks [] s)
    refine (enterParked_reports (writeLocks [] s)).conditions ?_ (honly .station (by decide))
      (honly .account (by decide)) (honly .wind (by decide)) (honly .forecast (by decide))
    have hf := (enterParked_parks (writeLocks [] s)).2.2.1
    simp [hf, show (writeLocks [] s).cannon.state = .locked from hst]

section Unlock

variable {code : Nat} {s : State}

theorem applyUnlock_bad (h : 999999 < code) : applyUnlock code s = (s, .invalid, []) := if_pos h

variable (hc : code ≤ 999999)
include hc

theorem applyUnlock_exhausted (h : s.lockout.attempts = 0) : applyUnlock code s = (s, .exhausted, []) :=
  (if_neg (Nat.not_lt.mpr hc)).trans (if_pos h)

variable (ha : 0 < s.lockout.attempts)
include ha

theorem applyUnlock_empty (h : s.lockout.locks = []) : applyUnlock code s = (s, .invalid, []) :=
  (if_neg (Nat.not_lt.mpr hc)).trans ((if_neg (Nat.ne_of_gt ha)).trans (if_pos (by rw [h]; rfl)))

variable (hl : s.lockout.locks ≠ [])
include hl

/-- An unlock that is tried looks for its code, and then for the supervisor code (R167). -/
theorem applyUnlock_tried :
    applyUnlock code s =
      if s.lockout.locks.any fun k => decide (k.code = code) then
        (removeLocks (s.lockout.locks.filter fun k => decide (k.code ≠ code)) s, .accepted,
          removedLeft s.lockout.locks (s.lockout.locks.filter fun k => decide (k.code ≠ code)))
      else if s.supervisor = some code then
        if s.lockout.locks.any fun k => decide (k.level = .standard) then
          (removeLocks (s.lockout.locks.filter fun k => decide (k.level ≠ .standard)) s, .accepted,
            removedLeft s.lockout.locks (s.lockout.locks.filter fun k => decide (k.level ≠ .standard)))
        else (s, .strictHeld, [])
      else (loseAttempt s, .mismatch, []) := by
  have hempty : ¬ s.lockout.locks.isEmpty = true := by simpa using hl
  simp only [decide_not]
  exact (if_neg (Nat.not_lt.mpr hc)).trans ((if_neg (Nat.ne_of_gt ha)).trans (if_neg hempty))

end Unlock

theorem supervisor_iff (s : State) (code : Nat) :
    s.supervisor = some code ↔ s.station.node ≠ 0 ∧ s.station.stored.map Configuration.supervisor = some code := by
  unfold State.supervisor State.validConfig
  split
  · simp_all
  · simp_all

/-- Settles O43, by the branches of `applyUnlock`. -/
theorem unlockIsTaken : Obligations.UnlockIsTaken := by
  unfold Obligations.UnlockIsTaken
  intro code s hs hm hfree
  have heff : effectOf (.unlock code) s = takeCommand 4 (unlockWith code) s := rfl
  have hrefused : ∀ a, applyUnlock code (dropMessage s) = (dropMessage s, a, []) →
      exec (.unlock code) s = .next (answeredBy (PanelAnswer.of 4 a []) s) := fun a ha =>
    exec_of_answer hs hm hfree heff (by unfold unlockWith; rw [ha])
  have htried := fun hc ha hl => applyUnlock_tried (code := code) (s := dropMessage s) hc ha hl
  have hsup : (dropMessage s).supervisor = some code ↔ _ := supervisor_iff s code
  have hnone : (∀ k ∈ s.lockout.locks, k.code ≠ code) →
      ¬ ((dropMessage s).lockout.locks.any fun k => decide (k.code = code)) = true := fun h => by
    simpa [dropMessage, State.onPanel] using h
  refine ⟨fun h => hrefused _ (applyUnlock_bad h), fun hc ha => hrefused _ (applyUnlock_exhausted hc ha),
    fun hc ha hl => hrefused _ (applyUnlock_empty hc ha hl), fun hc ha hl hn hno => ?_, fun hc ha hl hn hyes hst => ?_,
    fun kept hc ha hkept => ?_⟩
  · have happly : applyUnlock code (dropMessage s) = (loseAttempt (dropMessage s), .mismatch, []) := by
      rw [htried hc ha hl, if_neg (hnone hn), if_neg (fun h => hno (hsup.mp h))]
    refine exec_of_same hs hm ?_ rfl rfl rfl rfl rfl
    rw [heff, takeCommand_of_free hfree]
    unfold unlockWith
    rw [happly]
    rfl
  · refine hrefused .strictHeld ?_
    have hno : ¬ ((dropMessage s).lockout.locks.any fun k => decide (k.level = .standard)) = true := by
      simp only [List.any_eq_true, decide_eq_true_eq, not_exists, not_and]
      intro k hk
      rw [hst k hk]
      exact nofun
    rw [htried hc ha hl, if_neg (hnone hn), if_pos (hsup.mpr hyes), if_neg hno]
  · have happly : applyUnlock code (dropMessage s) =
        (removeLocks kept (dropMessage s), .accepted, removedLeft s.lockout.locks kept) := by
      rcases hkept with ⟨⟨k, hk, hcode⟩, rfl⟩ | ⟨hn, hyes, ⟨k, hk, hstd⟩, rfl⟩
      · exact (htried hc ha (List.ne_nil_of_mem hk)).trans
          (if_pos (List.any_eq_true.mpr ⟨k, hk, decide_eq_true hcode⟩))
      · exact (htried hc ha (List.ne_nil_of_mem hk)).trans ((if_neg (hnone hn)).trans ((if_pos (hsup.mpr hyes)).trans
          (if_pos (List.any_eq_true.mpr ⟨k, hk, decide_eq_true hstd⟩))))
    have hexec := exec_of_work hm hfree heff (t := removeLocks kept (dropMessage s))
      (a := PanelAnswer.of 4 .accepted (removedLeft s.lockout.locks kept)) (by unfold unlockWith; rw [happly])
    obtain ⟨hlock, hstore⟩ := removeLocks_lists kept (dropMessage s)
    have honly := removeLocks_only kept (dropMessage s)
    have hlists : onlyChanges [.lockout, .store, .panel, .queue, .cannon, .claim, .line, .free] s
        ((removeLocks kept (dropMessage s)).onPanel fun p =>
          { p with answer := some (PanelAnswer.of 4 .accepted (removedLeft s.lockout.locks kept)) }) :=
      only_trans (only_mono (onPanel_only s _) (by decide))
        (only_trans (only_mono honly (by decide)) (only_mono (onPanel_only _ _) (by decide)))
    refine ⟨_, hexec, answered_panel (honly .panel (by decide)), ?_, ?_, fun hq => ?_, fun hk hst => ?_, ?_⟩
    · rw [closeArrival_lockout]
      exact hlock
    · rw [closeArrival_store]
      exact hstore
    · simp only [closeArrival_cannon, closeArrival_queue, closeArrival_claim]
      rw [removeLocks_quiet (s := dropMessage s) hq]
      exact ⟨rfl, rfl, rfl⟩
    · rw [closeArrival_cannon, hk, removeLocks_of_last,
        respondToUnlock_of_locked (s := writeLocks [] (dropMessage s)) hst]
      obtain ⟨hbranch, hstate, -, -⟩ := enterParked_parks (writeLocks [] (dropMessage s))
      exact ⟨hstate, hbranch⟩
    · exact close_only_of_conditions hlists (hs.1 hm) (removeLocks_conditions _ _)

/-! ### CLEAR FAULT (O45) -/

theorem endHolds_holds (s : State) (f : FaceId) : (endHolds s).queue.holds.get f = .stopped := by
  have h : (endHolds s).queue.holds = ⟨.stopped, .stopped, .stopped, .stopped⟩ := by
    unfold endHolds
    simp only
    split
    · exact (trySelection_keeps _).holds
    · rfl
  rw [h]
  match f with
  | 0 | 1 | 2 | 3 => rfl

/-- A request that is not open stays so when the holds end. -/
theorem endHolds_of_closed {s : State} (h : s.queue.request = false) :
    (endHolds s).cannon = s.cannon ∧ (endHolds s).claim = s.claim := by
  unfold endHolds
  simp only
  split
  · rw [trySelection_of_closed (by exact h)]
    exact ⟨rfl, rfl⟩
  · exact ⟨rfl, rfl⟩

theorem enterParked_holds (s : State) : (enterParked s).queue.holds = s.queue.holds := by
  unfold enterParked openRequest
  split
  · rfl
  · exact (trySelection_keeps _).holds

theorem parkOrLock_of_locked {s : State} (h : s.lockout.locks ≠ []) : parkOrLock s = lockCannon s :=
  if_pos ((locked_iff s).mpr h)

theorem parkOrLock_holds (s : State) : (parkOrLock s).queue.holds = s.queue.holds := by
  unfold parkOrLock
  split
  · rfl
  · exact enterParked_holds s

/-- The cannon stands or goes on, but not in FAULT (R92). -/
theorem leaveFault_leaves (s : State) :
    (leaveFault s).cannon.state ≠ .fault ∧ (leaveFault s).cannon.noFlowCount = 0 := by
  unfold leaveFault parkOrLock
  split
  · exact ⟨nofun, rfl⟩
  · have hp := enterParked_parks (s.onCannon fun c => { c with noFlowCount := 0 })
    exact ⟨hp.2.2.1, hp.2.2.2⟩

theorem clearFaultWith_reports (s : State) : SameReports s (clearFaultWith s).1 := by
  unfold clearFaultWith
  split
  · exact .after (parkOrLock_reports _) (.after (onCannon_reports _ _) (endHolds_reports s))
  · exact endHolds_reports s

/-- Settles O45. -/
theorem faultIsCleared : Obligations.FaultIsCleared := by
  unfold Obligations.FaultIsCleared
  intro s hs hm hfree hinv
  let u := (clearFaultWith (dropMessage s)).1
  have hexec := exec_of_work (c := .clearFault) (t := u) hm hfree rfl (Prod.eta _).symm
  have honly := clearFaultWith_only (dropMessage s)
  have hfault (hf : s.cannon.state = .fault) : u = leaveFault (endHolds (dropMessage s)) :=
    congrArg Prod.fst (if_pos hf : clearFaultWith (dropMessage s) = _)
  have hother (hf : s.cannon.state ≠ .fault) : u = endHolds (dropMessage s) :=
    congrArg Prod.fst (if_neg hf : clearFaultWith (dropMessage s) = _)
  refine ⟨_, hexec, fun f => ?_, ?_, fun hf => ?_, fun hf hr => ?_, answered_only (only_mono honly (by decide)), ?_⟩
  · rw [closeArrival_queue]
    show u.queue.holds.get f = _
    by_cases hf : s.cannon.state = .fault
    · rw [hfault hf]
      exact (congrArg (PerFace.get · f) (parkOrLock_holds _)).trans (endHolds_holds _ f)
    · rw [hother hf]
      exact endHolds_holds _ f
  · rw [answered_panel (honly .panel (by decide))]
    by_cases hf : s.cannon.state = .fault
    · rw [if_pos hf, show clearFaultWith (dropMessage s) = _ from if_pos hf]
      rfl
    · rw [if_neg hf, show clearFaultWith (dropMessage s) = _ from if_neg hf]
      rfl
  · obtain ⟨hst, hcount⟩ := leaveFault_leaves (endHolds (dropMessage s))
    rw [← hfault hf] at hst hcount
    refine ⟨by rwa [closeArrival_cannon], by rwa [closeArrival_cannon], ?_, fun hl => ?_⟩
    · exact (closeArrival_cond s _ (i := .cannonFault) rfl).trans (decide_eq_false hst)
    · rw [closeArrival_cannon]
      show u.cannon.state = .locked
      have hlk : (endHolds (dropMessage s)).lockout = s.lockout := endHolds_only (dropMessage s) .lockout (by decide)
      rw [hfault hf]
      unfold leaveFault
      rw [parkOrLock_of_locked (by show (endHolds (dropMessage s)).lockout.locks ≠ []; rwa [hlk])]
      rfl
  · rw [closeArrival_cannon, closeArrival_claim]
    show u.cannon = _ ∧ u.claim = _
    rw [hother hf]
    exact endHolds_of_closed (s := dropMessage s) hr
  · intro i hi
    refine closeArrival_flag (hs.1 hm) ?_ ?_
    · exact congrArg (fun a : Alarms => a.flags.get i) (honly .alarms (by decide))
    · exact (clearFaultWith_reports (dropMessage s)).conditions_get (honly .station (by decide))
        (honly .account (by decide)) (honly .wind (by decide)) (honly .forecast (by decide))
        fun h => hi (List.mem_singleton.mpr h)

end Sys2Proof.Machine
end


section
/-! PROOFS. Offers to the Spray Queue: admission by the queue's cases, the preemption that follows it, and the panel's
test spray (O11, O46). -/

namespace Sys2Proof.Machine

/-! ### Entries by face and class -/

theorem changeEntry_eq_map {es : List Entry} (h : entriesInv es) {e : Entry} (he : e ∈ es) (g : Entry → Entry) :
    changeEntry e.face e.cls g es = es.map fun x => if x = e then g e else x := by
  refine List.map_congr_left fun x hx => ?_
  by_cases hxe : x = e
  · rw [hxe, if_pos rfl, if_pos e.isOf_self]
  · rw [if_neg hxe, if_neg fun hof => ?_]
    obtain ⟨hf, hc⟩ := Entry.isOf_iff.mp hof
    exact hxe (entry_unique h hx he hf hc)

theorem dropEntry_eq_erase {pre post : List Entry} {e : Entry} (h : entriesInv (pre ++ e :: post)) :
    dropEntry e.face e.cls (pre ++ e :: post) = pre ++ post := by
  have hnd := h.2.1
  simp only [List.map_append, List.map_cons, List.nodup_append, List.nodup_cons, List.mem_map, List.mem_cons] at hnd
  obtain ⟨-, ⟨hpost, -⟩, hpre⟩ := hnd
  have hother (x : Entry) (hx : (x.face, x.cls) ≠ (e.face, e.cls)) : (!x.isOf e.face e.cls) = true := by
    rw [Bool.not_eq_true', Bool.eq_false_iff, Ne, Entry.isOf_iff]
    exact fun ⟨hf, hc⟩ => hx (Prod.ext hf hc)
  unfold dropEntry
  rw [List.filter_append, List.filter_cons_of_neg (by simp [e.isOf_self]),
    List.filter_eq_self.mpr fun x hx => hother x (hpre _ ⟨x, hx, rfl⟩ _ (.inl rfl)),
    List.filter_eq_self.mpr fun x hx => hother x fun heq => hpost ⟨x, hx, heq⟩]

theorem mem_dropEntry {f : FaceId} {c : DemandClass} {es : List Entry} {x : Entry} :
    x ∈ dropEntry f c es ↔ x ∈ es ∧ ¬ (x.face = f ∧ x.cls = c) := by
  simp only [dropEntry, List.mem_filter, Bool.not_eq_true', Bool.eq_false_iff, ne_eq, Entry.isOf_iff]

theorem findEntry_of_mem {es : List Entry} (h : entriesInv es) {e : Entry} (he : e ∈ es) :
    findEntry e.face e.cls es = some e := by
  cases hf : findEntry e.face e.cls es with
  | none => exact absurd e.isOf_self (List.find?_eq_none.mp hf e he)
  | some x =>
    obtain ⟨hx, hxf, hxc⟩ := findEntry_some hf
    rw [entry_unique h hx he hxf hxc]

/-! ### The lowest class and its latest waiting entry (R58) -/

theorem DemandClass.rank_le (c : DemandClass) : c.rank ≤ 3 := by cases c <;> decide

theorem foldl_min_le (l : List Entry) (r : Nat) :
    l.foldl (fun r e => min r e.cls.rank) r ≤ r ∧ ∀ e ∈ l, l.foldl (fun r e => min r e.cls.rank) r ≤ e.cls.rank := by
  induction l generalizing r with
  | nil => exact ⟨Nat.le_refl r, fun _ he => absurd he List.not_mem_nil⟩
  | cons x l ih =>
    obtain ⟨hr, hl⟩ := ih (min r x.cls.rank)
    refine ⟨Nat.le_trans hr (Nat.min_le_left _ _), fun e he => ?_⟩
    rcases List.mem_cons.mp he with rfl | he
    · exact Nat.le_trans hr (Nat.min_le_right _ _)
    · exact hl e he

theorem lowestRank_le {es : List Entry} {e : Entry} (he : e ∈ es) : lowestRank es ≤ e.cls.rank :=
  (foldl_min_le es 3).2 e he

theorem lowestRank_eq {es : List Entry} {e : Entry} (he : e ∈ es) (hmin : ∀ x ∈ es, e.cls.rank ≤ x.cls.rank) :
    lowestRank es = e.cls.rank := by
  have hge : ∀ (l : List Entry) (r : Nat), e.cls.rank ≤ r → (∀ x ∈ l, e.cls.rank ≤ x.cls.rank) →
      e.cls.rank ≤ l.foldl (fun r e => min r e.cls.rank) r := by
    intro l
    induction l with
    | nil => exact fun r hr _ => hr
    | cons x l ih =>
      exact fun r hr hl => ih _ (Nat.le_min.2 ⟨hr, hl x List.mem_cons_self⟩) fun y hy => hl y (List.mem_cons_of_mem _ hy)
  exact Nat.le_antisymm (lowestRank_le he) (hge es 3 (DemandClass.rank_le _) hmin)

theorem latestWaiting_eq {pre post : List Entry} {e : Entry} (hrun : e.running = false)
    (hpost : ∀ x ∈ post, x.cls = e.cls → x.running = true) :
    latestWaiting e.cls.rank (pre ++ e :: post) = some e := by
  have hnil : (post.filter fun x => x.cls.rank == e.cls.rank && !x.running) = [] := by
    refine List.filter_eq_nil_iff.mpr fun x hx hp => ?_
    simp only [Bool.and_eq_true, beq_iff_eq, Bool.not_eq_true'] at hp
    rw [hpost x hx (DemandClass.rank_inj hp.1)] at hp
    exact absurd hp.2 nofun
  unfold latestWaiting
  rw [List.filter_append, List.filter_cons_of_pos (by simp [hrun]), hnil, List.getLast?_concat]

/-! ### Admission (R55 to R58) -/

section Admit

variable {o : Offer} {s : State}

theorem takesOffer_iff :
    s.takesOffer o = true ↔
      s.operational = true ∧ (s.face.records.get o.face).isSome = true ∧ o.volume ≠ 0 := by
  simp [State.takesOffer, and_assoc]

theorem admitOffer_refused (h : s.takesOffer o ≠ true) : admitOffer o s = (s, .invalid) :=
  if_pos (by simpa using h)

variable (ht : s.takesOffer o = true)
include ht

theorem admitOffer_merged {e : Entry} (hq : entriesInv s.queue.entries) (he : e ∈ s.queue.entries) (hf : e.face = o.face)
    (hc : e.cls = o.cls) :
    admitOffer o s =
      (s.setEntries (s.queue.entries.map fun x => if x = e then e.merge o else x), .merged) := by
  have hfind : (findEntry o.face o.cls s.queue.entries).isSome = true := by
    rw [← hf, ← hc, findEntry_of_mem hq he]
    rfl
  refine (if_neg (by simp [ht])).trans ((if_pos hfind).trans ?_)
  rw [← hf, ← hc, changeEntry_eq_map hq he]

theorem admitOffer_new (hn : ∀ e ∈ s.queue.entries, ¬ (e.face = o.face ∧ e.cls = o.cls)) :
    admitOffer o s =
      if s.queue.entries.length < 8 then (addEntry o s, .added)
      else if lowestRank s.queue.entries < o.cls.rank then
        match latestWaiting (lowestRank s.queue.entries) s.queue.entries with
        | some e => (addEntry o (removeEntry .evicted e s), .added)
        | none => (s, .full)
      else (s, .full) :=
  (if_neg (by simp [ht])).trans (if_neg (by simp [findEntry_isNone.mpr hn]))

end Admit

/-- A queue that admits an offer keeps its rotation order, its holds and its request. -/
theorem admitOffer_queue (o : Offer) (s : State) :
    (admitOffer o s).1.queue.rotation = s.queue.rotation ∧ (admitOffer o s).1.queue.holds = s.queue.holds
      ∧ (admitOffer o s).1.queue.request = s.queue.request := by
  unfold admitOffer
  split
  · exact ⟨rfl, rfl, rfl⟩
  · split
    · exact ⟨rfl, rfl, rfl⟩
    · split
      · exact ⟨rfl, rfl, rfl⟩
      · split
        · split
          · exact ⟨removeEntry_rotation _ _ s, removeEntry_holds _ _ s, removeEntry_request _ _ s⟩
          · exact ⟨rfl, rfl, rfl⟩
        · exact ⟨rfl, rfl, rfl⟩

/-- The entry that an eviction gives up does not run (R58). -/
theorem mem_admitOffer {o : Offer} {s : State} {x : Entry} (hx : x ∈ (admitOffer o s).1.queue.entries) :
    x.running = false ∨ ∃ e ∈ s.queue.entries, e.face = x.face ∧ e.cls = x.cls ∧ e.running = x.running := by
  unfold admitOffer at hx
  split at hx
  · exact .inr ⟨x, hx, rfl, rfl, rfl⟩
  · split at hx
    · rcases mem_changeEntry.mp hx with ⟨hx, -⟩ | ⟨e, he, -, -, rfl⟩
      · exact .inr ⟨x, hx, rfl, rfl, rfl⟩
      · exact .inr ⟨e, he, rfl, rfl, rfl⟩
    · have hadd : ∀ s' : State, x ∈ (addEntry o s').queue.entries →
          x.running = false ∨ x ∈ s'.queue.entries := fun s' hx => by
        rcases List.mem_append.mp hx with hx | hx
        · exact .inr hx
        · rw [List.mem_singleton.mp hx]
          exact .inl rfl
      split at hx
      · exact (hadd s hx).imp_right fun hx => ⟨x, hx, rfl, rfl, rfl⟩
      · split at hx
        · split at hx
          · refine (hadd _ hx).imp_right fun hx => ⟨x, ?_, rfl, rfl, rfl⟩
            rw [removeEntry_queue] at hx
            exact (mem_dropEntry.mp hx).1
          · exact .inr ⟨x, hx, rfl, rfl, rfl⟩
        · exact .inr ⟨x, hx, rfl, rfl, rfl⟩

/-- A running entry stays, and runs on. -/
theorem admitOffer_running {o : Offer} {s : State} (hq : entriesInv s.queue.entries) {e : Entry}
    (he : e ∈ s.queue.entries) (hr : e.running = true) :
    ∃ x ∈ (admitOffer o s).1.queue.entries, x.face = e.face ∧ x.cls = e.cls ∧ x.running = true := by
  have hsame : ∃ x ∈ s.queue.entries, x.face = e.face ∧ x.cls = e.cls ∧ x.running = true := ⟨e, he, rfl, rfl, hr⟩
  unfold admitOffer
  split
  · exact hsame
  · split
    · by_cases hof : e.face = o.face ∧ e.cls = o.cls
      · exact ⟨e.merge o, mem_changeEntry.mpr (.inr ⟨e, he, hof.1, hof.2, rfl⟩), rfl, rfl, hr⟩
      · exact ⟨e, mem_changeEntry.mpr (.inl ⟨he, hof⟩), rfl, rfl, hr⟩
    · split
      · exact ⟨e, List.mem_append_left _ he, rfl, rfl, hr⟩
      · split
        · split
          · rename_i y hy
            obtain ⟨hym, -, hyr⟩ := latestWaiting_mem hy
            refine ⟨e, List.mem_append_left _ ?_, rfl, rfl, hr⟩
            rw [removeEntry_queue]
            refine mem_dropEntry.mpr ⟨he, fun ⟨hf, hc⟩ => ?_⟩
            rw [entry_unique hq he hym hf hc] at hr
            exact absurd (hr.symm.trans hyr) nofun
          · exact hsame
        · exact hsame

/-- A merged or an added offer has its entry. -/
theorem admitOffer_entry {o : Offer} {s : State}
    (h : (admitOffer o s).2 = .merged ∨ (admitOffer o s).2 = .added) :
    ∃ e ∈ (admitOffer o s).1.queue.entries, e.face = o.face ∧ e.cls = o.cls := by
  have hnew : ∀ s' : State, ∃ e ∈ (addEntry o s').queue.entries, e.face = o.face ∧ e.cls = o.cls := fun s' =>
    ⟨_, List.mem_append_right _ (List.mem_singleton.mpr rfl), rfl, rfl⟩
  revert h
  unfold admitOffer
  split
  · simp
  · split
    · rename_i hf
      intro _
      obtain ⟨e, he⟩ := Option.isSome_iff_exists.mp hf
      obtain ⟨hm, hface, hcls⟩ := findEntry_some he
      exact ⟨e.merge o, mem_changeEntry.mpr (.inr ⟨e, hm, hface, hcls, rfl⟩), hface, hcls⟩
    · split
      · exact fun _ => hnew s
      · split
        · split
          · exact fun _ => hnew _
          · simp
        · simp

/-! ### What follows an admission -/

/-- Only a PREWET has a deadline that can be due (R64). -/
theorem passOffered_of_class {o : Offer} (h : o.cls ≠ .prewet) (s : State) : passOffered o s = s := by
  unfold passOffered
  cases hf : findEntry o.face o.cls s.queue.entries with
  | none => rfl
  | some e =>
    have hc := (findEntry_some hf).2.2
    have hno : e.deadlineDue s.sec = false := by simp [Entry.deadlineDue, hc, h]
    simp [Option.filter, hno]

theorem preempt_of_class {o : Offer} (h : o.cls ≠ .knockdown) (s : State) : preempt o s = s := by
  unfold preempt
  split
  · exact if_neg fun hc => h hc.1
  · rfl

/-- A KNOCKDOWN for a face that is not held stops a running entry of a lower class and another face (R59). -/
theorem preempt_of_running {o : Offer} {s : State} (hk : o.cls = .knockdown)
    (hh : (s.queue.holds.get o.face).isRunning = false) (hex : ∃ e ∈ s.queue.entries, e.running = true)
    (hall : ∀ e ∈ s.queue.entries, e.running = true → e.face ≠ o.face ∧ e.cls ≠ .knockdown) :
    preempt o s = chainEnd .preempted s := by
  obtain ⟨e, he, hr⟩ := hex
  unfold preempt
  cases hf : s.queue.entries.find? Entry.running with
  | none => exact absurd hr (List.find?_eq_none.mp hf e he)
  | some x =>
    obtain ⟨hface, hcls⟩ := hall x (List.mem_of_find?_eq_some hf) (List.find?_some hf)
    exact if_pos ⟨hk, hface, hcls, by simp [State.held, hh]⟩

theorem preempt_of_not {o : Offer} {s : State}
    (h : ¬ (o.cls = .knockdown ∧ (s.queue.holds.get o.face).isRunning = false)
      ∨ ∀ e ∈ s.queue.entries, e.running = true → e.face = o.face ∨ e.cls = .knockdown) : preempt o s = s := by
  unfold preempt
  split
  · rename_i e he
    refine if_neg fun ⟨hk, hface, hcls, hheld⟩ => ?_
    rcases h with h | h
    · exact h ⟨hk, by simpa [State.held] using hheld⟩
    · exact (h e (List.mem_of_find?_eq_some he) (List.find?_some he)).elim hface hcls
  · rfl

/-- With a chain there is no selection. -/
theorem trySelection_of_chain {s : State} {ch : Chain} (h : s.cannon.chain = some ch) : trySelection s = s :=
  trySelection_of_not fun ht => by
    have := selectable_chain ht.able
    rw [h] at this
    cases this

theorem offerDemand_taken {o : Offer} {s : State} (h : (admitOffer o s).2 = .merged ∨ (admitOffer o s).2 = .added) :
    offerDemand o s = (trySelection (preempt o (passOffered o (admitOffer o s).1)), (admitOffer o s).2) := by
  rcases offerDemand_cases o s with ⟨-, hd⟩ | ⟨hn, -⟩
  · exact hd
  · rcases h with h | h <;> rw [h] at hn <;> rcases hn with hn | hn <;> cases hn

theorem offerDemand_refused {o : Offer} {s : State} (h : (admitOffer o s).2 = .invalid ∨ (admitOffer o s).2 = .full) :
    offerDemand o s = admitOffer o s := by
  rcases offerDemand_cases o s with ⟨hn, -⟩ | ⟨-, hd⟩
  · rcases h with h | h <;> rw [h] at hn <;> rcases hn with hn | hn <;> cases hn
  · exact hd

/-- Settles O11. -/
theorem offerIsAdmitted : Obligations.OfferIsAdmitted := by
  unfold Obligations.OfferIsAdmitted
  intro o s hq
  have he := ((queueInv_iff _).mp hq).1
  refine ⟨fun h => admitOffer_refused fun ht => h (takesOffer_iff.mp ht), fun h e hm hf hc => ?_, fun h hn => ⟨fun hlen => ?_,
    fun e pre post hlen hes hmin hrun hpost hlt => ?_, fun hlen hfull => ?_⟩,
    fun ch hch hadm => ⟨fun hp hex hall => ?_, fun h => ?_⟩⟩
  · exact admitOffer_merged (takesOffer_iff.mpr h) he hm hf hc
  · rw [admitOffer_new (takesOffer_iff.mpr h) hn, if_pos hlen]
    rfl
  · have hlow : lowestRank s.queue.entries = e.cls.rank :=
      lowestRank_eq (by rw [hes]; simp) hmin
    have hlast : latestWaiting (lowestRank s.queue.entries) s.queue.entries = some e := by
      rw [hlow, hes]
      exact latestWaiting_eq hrun hpost
    have hadm : admitOffer o s = (addEntry o (removeEntry .evicted e s), .added) := by
      rw [admitOffer_new (takesOffer_iff.mpr h) hn, if_neg (by omega), if_pos (by omega), hlast]
    have hdrop : dropEntry e.face e.cls s.queue.entries = pre ++ post := by
      rw [hes] at he ⊢
      exact dropEntry_eq_erase he
    refine ⟨by rw [hadm], ?_, ?_, admitOffer_only o s⟩
    · rw [hadm]
      show (removeEntry .evicted e s).queue.entries ++ [o.entry (removeEntry .evicted e s).sec] = _
      have hnow : (removeEntry .evicted e s).now = s.now := removeEntry_only .evicted e s .now (by decide)
      rw [removeEntry_queue, hdrop, State.sec, hnow]
      rfl
    · rw [hadm]
      show (removeEntry .evicted e s).queue.lastRemoval = _
      rw [removeEntry_spray]
  · rw [admitOffer_new (takesOffer_iff.mpr h) hn, if_neg (by omega)]
    by_cases hlt : lowestRank s.queue.entries < o.cls.rank
    · rw [if_pos hlt]
      cases hw : latestWaiting (lowestRank s.queue.entries) s.queue.entries with
      | none => rfl
      | some e =>
        obtain ⟨hm, hrank, hrun⟩ := latestWaiting_mem hw
        rcases hfull e hm fun x hx => hrank ▸ lowestRank_le hx with hr | hr
        · exact absurd (hr.symm.trans hrun) nofun
        · omega
    · exact if_neg hlt
  · obtain ⟨hk, hh⟩ := hp
    obtain ⟨hrot, hhold, -⟩ := admitOffer_queue o s
    have honly := admitOffer_only o s
    have hcannon : (admitOffer o s).1.cannon = s.cannon := honly .cannon (by decide)
    have hnow : (admitOffer o s).1.now = s.now := honly .now (by decide)
    have hch' : (admitOffer o s).1.cannon.chain = some ch := by rw [hcannon, hch]
    have hpre : preempt o (admitOffer o s).1 = chainEnd .preempted (admitOffer o s).1 := by
      refine preempt_of_running hk (by rw [hhold]; exact hh) ?_ fun x hx hr => ?_
      · obtain ⟨e, hm, hr⟩ := hex
        obtain ⟨x, hx, -, -, hxr⟩ := admitOffer_running (o := o) he hm hr
        exact ⟨x, hx, hxr⟩
      · rcases mem_admitOffer hx with hn | ⟨e, hm, hf, hc, hre⟩
        · exact absurd (hr.symm.trans hn) nofun
        · rw [← hf, ← hc]
          exact hall e hm (hre.trans hr)
    rw [offerDemand_taken hadm, passOffered_of_class (by rw [hk]; exact nofun), hpre]
    have hsel := trySelection_keeps (chainEnd .preempted (admitOffer o s).1)
    refine ⟨?_, hsel.valve (chainEnd_valve hch')⟩
    exact endedBy_congr (chainEnd_endedBy hch') hnow.symm (by rw [hcannon]) (by rw [hcannon]) hrot.symm hsel.log hsel.serial
      hsel.rotation
  · have hcannon : (passOffered o (admitOffer o s).1).cannon = s.cannon :=
      ((passOffered_only o _) .cannon (by decide)).trans (admitOffer_only o s .cannon (by decide))
    have hpre : preempt o (passOffered o (admitOffer o s).1) = passOffered o (admitOffer o s).1 := by
      by_cases hk : o.cls = .knockdown
      · rw [passOffered_of_class (by rw [hk]; exact nofun)]
        rcases h with h | h
        · exact preempt_of_not (.inl fun hp => h ⟨hp.1, (admitOffer_queue o s).2.1 ▸ hp.2⟩)
        · refine preempt_of_not (.inr fun x hx hr => ?_)
          rcases mem_admitOffer hx with hn | ⟨e, hm, hf, hc, hre⟩
          · exact absurd (hr.symm.trans hn) nofun
          · rw [← hf, ← hc]
            exact h e hm (hre.trans hr)
      · exact preempt_of_class hk _
    rw [offerDemand_taken hadm, hpre, trySelection_of_chain (by rw [hcannon]; exact hch), hcannon]

/-! ### TEST SPRAY (O46) -/

/-- The queue's answer depends on the station state, the face records and the queue alone. -/
theorem admitOffer_answer_congr (o : Offer) {s t : State} (hs : t.station = s.station) (hf : t.face = s.face)
    (hq : t.queue = s.queue) : (admitOffer o t).2 = (admitOffer o s).2 := by
  have hans (s : State) : (admitOffer o s).2 =
      if !s.takesOffer o then .invalid
      else if (findEntry o.face o.cls s.queue.entries).isSome then .merged
      else if s.queue.entries.length < 8 then .added
      else if lowestRank s.queue.entries < o.cls.rank then
        if (latestWaiting (lowestRank s.queue.entries) s.queue.entries).isSome then .added else .full
      else .full := by
    unfold admitOffer
    split
    · rfl
    split
    · rfl
    split
    · rfl
    split
    · split <;> simp_all
    · rfl
  have htakes : t.takesOffer o = s.takesOffer o := by simp only [State.takesOffer, State.operational, hs, hf]
  rw [hans, hans, htakes, hq]

theorem admitOffer_invalid {o : Offer} {s : State} (h : (admitOffer o s).2 = .invalid) :
    admitOffer o s = (s, .invalid) := by
  revert h
  unfold admitOffer
  split
  · exact fun _ => rfl
  · repeat' split
    all_goals nofun

theorem admitOffer_full {o : Offer} {s : State} (h : (admitOffer o s).2 = .full) : admitOffer o s = (s, .full) := by
  revert h
  unfold admitOffer
  split
  · nofun
  split
  · nofun
  split
  · nofun
  split
  · split
    · nofun
    · exact fun _ => rfl
  · exact fun _ => rfl

/-- An offer that is taken leaves its entry in the queue, if it is neither a PREWET nor a KNOCKDOWN. -/
theorem offerDemand_entry {o : Offer} {s : State} (hp : o.cls ≠ .prewet) (hk : o.cls ≠ .knockdown)
    (h : (admitOffer o s).2 = .merged ∨ (admitOffer o s).2 = .added) :
    ∃ e ∈ (offerDemand o s).1.queue.entries, e.face = o.face ∧ e.cls = o.cls := by
  obtain ⟨e, he, hf, hc⟩ := admitOffer_entry h
  rw [offerDemand_taken h, passOffered_of_class hp, preempt_of_class hk]
  rcases (trySelection_keeps (admitOffer o s).1).shape with hs | ⟨x, -, hs⟩ <;> simp only [hs]
  · exact ⟨e, he, hf, hc⟩
  · by_cases hx : e.face = x.face ∧ e.cls = x.cls
    · exact ⟨{ e with running := true }, mem_changeEntry.mpr (.inr ⟨e, he, hx.1, hx.2, rfl⟩), hf, hc⟩
    · exact ⟨e, mem_changeEntry.mpr (.inl ⟨he, hx⟩), hf, hc⟩

/-- Settles O46. -/
theorem testSprayIsOffered : Obligations.TestSprayIsOffered := by
  unfold Obligations.TestSprayIsOffered
  intro face volume s hs hm hfree _ o answered
  have heff : effectOf (.testSpray face.val volume) s = takeCommand 8 (testSprayWith face.val volume) s := rfl
  have hcongr : (admitOffer o (dropMessage s)).2 = (admitOffer o s).2 := admitOffer_answer_congr o rfl rfl rfl
  have hwork : testSprayWith face.val volume (dropMessage s) =
      ((offerDemand o (dropMessage s)).1, testAnswer (offerDemand o (dropMessage s)).2) := dif_pos face.isLt
  refine ⟨fun h => ?_, fun h => ?_, fun kind h hkind => ?_, fun n hn => ?_⟩
  · have ha := hcongr.trans h
    refine exec_of_answer hs hm hfree heff (a := testAnswer .invalid) ?_
    rw [hwork, offerDemand_refused (.inl ha), admitOffer_invalid ha]
  · have ha := hcongr.trans h
    refine exec_of_answer hs hm hfree heff (a := testAnswer .full) ?_
    rw [hwork, offerDemand_refused (.inr ha), admitOffer_full ha]
  · subst h
    have ha : (admitOffer o (dropMessage s)).2 = .merged ∨ (admitOffer o (dropMessage s)).2 = .added := by
      rwa [hcongr]
    have honly := offerDemand_only o (dropMessage s)
    refine ⟨_, exec_of_work hm hfree heff hwork, ?_, ?_, answered_only (only_mono honly (by decide))⟩
    · rw [answered_panel (honly .panel (by decide)), offerDemand_taken ha]
      show { s.panel with partialMessage := [], answer := some (testAnswer (admitOffer o (dropMessage s)).2) } = _
      rw [hcongr]
      rcases hkind with h | h <;> rw [h] <;> rfl
    · rw [closeArrival_queue]
      exact offerDemand_entry (o := o) nofun nofun ha
  · refine exec_of_answer hs hm hfree rfl (a := PanelAnswer.of 8 .invalid []) ?_
    exact dif_neg (Nat.not_lt.mpr hn)

end Sys2Proof.Machine
end


section
/-! PROOFS. The entry of a chain that ends: its running mark, its attempts and the fault hold; the slew timeout and the
no-flow stop (R61, R62, R66; O17, O18). -/

namespace Sys2Proof.Machine

/-! ### What the completion reduction leaves of other entries (R62) -/

@[simp] theorem reduceEntry_holds (n : Nat) (s : State) (e : Entry) :
    (reduceEntry n s e).queue.holds = s.queue.holds := by
  unfold reduceEntry
  split
  · split
    · exact removeEntry_holds _ _ s
    · exact removeEntry_holds _ _ s
  · rfl

/-- Entries as a chain end leaves those of other classes: the ones of a face and class are the same, and no entry comes
from nowhere. -/
structure ReducesTo (f : FaceId) (c : DemandClass) (es fs : List Entry) : Prop where
  same : ∀ e, e.face = f → e.cls = c → (e ∈ fs ↔ e ∈ es)

theorem reduceEntry_same {n : Nat} {s : State} {e : Entry} {f : FaceId} {c : DemandClass} (h : e.cls ≠ c) :
    ReducesTo f c s.queue.entries (reduceEntry n s e).queue.entries := by
  refine ⟨fun x _ hc => ?_⟩
  have hother : ¬ (x.face = e.face ∧ x.cls = e.cls) := fun hx => h (hx.2.symm.trans hc)
  rw [reduceEntry_entries]
  split
  · rw [mem_dropEntry]
    exact ⟨And.left, fun hx => ⟨hx, hother⟩⟩
  · rw [mem_changeEntry]
    refine ⟨?_, fun hx => .inl ⟨hx, hother⟩⟩
    rintro (hx | ⟨y, -, -, hyc, rfl⟩)
    · exact hx.1
    · exact absurd (hyc.symm.trans hc) h

theorem completionReduction_entries (f : FaceId) (c : DemandClass) (n : Nat) (s : State) :
    ReducesTo f c s.queue.entries (completionReduction f c n s).queue.entries := by
  have hfold : ∀ (l : List Entry) (s : State), (∀ e ∈ l, e.cls ≠ c) →
      ReducesTo f c s.queue.entries (l.foldl (reduceEntry n) s).queue.entries := by
    intro l
    induction l with
    | nil => exact fun _ _ => ⟨fun _ _ _ => Iff.rfl⟩
    | cons e l ih =>
      intro s hl
      obtain ⟨h1⟩ := reduceEntry_same (n := n) (s := s) (f := f) (hl e List.mem_cons_self)
      obtain ⟨h2⟩ := ih (reduceEntry n s e) fun x hx => hl x (List.mem_cons_of_mem _ hx)
      exact ⟨fun x hf hc => (h2 x hf hc).trans (h1 x hf hc)⟩
  unfold completionReduction
  split
  · exact ⟨fun _ _ _ => Iff.rfl⟩
  · refine hfold _ s fun e he hc => ?_
    have hlt := (List.mem_filter.mp he).2
    simp [hc] at hlt

@[simp] theorem completionReduction_holds (f : FaceId) (c : DemandClass) (n : Nat) (s : State) :
    (completionReduction f c n s).queue.holds = s.queue.holds := by
  have hfold : ∀ (l : List Entry) (s : State), (l.foldl (reduceEntry n) s).queue.holds = s.queue.holds := by
    intro l
    induction l with
    | nil => exact fun _ => rfl
    | cons e l ih => exact fun s => (ih _).trans (reduceEntry_holds n s e)
  unfold completionReduction
  split
  · rfl
  · exact hfold _ s

/-- The entries of the chain's face and class after the report are those of `endEntry`. -/
theorem queueChainEnd_entries (ch : Chain) (c : Cause) (s : State) :
    ReducesTo ch.face ch.cls (endEntry ch c s).queue.entries (queueChainEnd ch c s).queue.entries :=
  completionReduction_entries ch.face ch.cls ch.litres (endEntry ch c s)

theorem queueChainEnd_holds (ch : Chain) (c : Cause) (s : State) :
    (queueChainEnd ch c s).queue.holds = (endEntry ch c s).queue.holds :=
  completionReduction_holds ch.face ch.cls ch.litres (endEntry ch c s)

/-! ### The entry of the chain (R61) -/

theorem stopRunning_still {f : FaceId} {c : DemandClass} {s : State} {e : Entry}
    (h : e ∈ (stopRunning f c s).queue.entries) (hf : e.face = f) (hc : e.cls = c) : e.running = false := by
  rcases mem_changeEntry.mp h with ⟨-, hn⟩ | ⟨x, -, -, -, rfl⟩
  · exact absurd ⟨hf, hc⟩ hn
  · rfl

/-- Steps 2 and 3 of the report set no running mark. -/
theorem countAttempt_still {f : FaceId} {c : DemandClass} {s : State} {e : Entry}
    (h : e ∈ (countAttempt f c s).queue.entries) :
    ∃ x ∈ s.queue.entries, x.face = e.face ∧ x.cls = e.cls ∧ x.running = e.running := by
  unfold countAttempt at h
  split at h
  · split at h
    · have hd : e ∈ (removeEntry .attempts _ s).queue.entries := h
      rw [removeEntry_queue] at hd
      exact ⟨e, (mem_dropEntry.mp hd).1, rfl, rfl, rfl⟩
    · rcases mem_changeEntry.mp h with ⟨hx, -⟩ | ⟨x, hx, -, -, rfl⟩
      · exact ⟨e, hx, rfl, rfl, rfl⟩
      · exact ⟨x, hx, rfl, rfl, rfl⟩
  · exact ⟨e, h, rfl, rfl, rfl⟩

theorem dropReached_subset {f : FaceId} {c : DemandClass} {s : State} {e : Entry}
    (h : e ∈ (dropReached f c s).queue.entries) : e ∈ s.queue.entries := by
  unfold dropReached at h
  split at h
  · split at h
    · rw [removeEntry_queue] at h
      exact (mem_dropEntry.mp h).1
    · exact h
  · exact h

theorem endEntry_still {ch : Chain} {c : Cause} {s : State} {e : Entry} (h : e ∈ (endEntry ch c s).queue.entries)
    (hf : e.face = ch.face) (hc : e.cls = ch.cls) : e.running = false := by
  unfold endEntry at h
  split at h
  · simp only at h
    have hd := dropReached_subset h
    split at hd
    · obtain ⟨x, hx, hxf, hxc, hxr⟩ := countAttempt_still hd
      rw [← hxr]
      exact stopRunning_still hx (hxf.trans hf) (hxc.trans hc)
    · exact stopRunning_still hd hf hc
  · rename_i hnone
    have := List.find?_eq_none.mp hnone e h
    simpa [hf, hc, Entry.isOf] using this

/-- A chain that ends leaves no entry of its face and class running (R61). -/
theorem chainOver_still {ch : Chain} {c : Cause} {s : State} {e : Entry} (h : e ∈ (chainOver c ch s).queue.entries)
    (hf : e.face = ch.face) (hc : e.cls = ch.cls) : e.running = false :=
  endEntry_still (((queueChainEnd_entries ch c _).same e hf hc).mp h) hf hc

/-- What is left of the chain's entry when its attempt is counted (R61 steps 1 to 3). -/
theorem endEntry_counts {ch : Chain} {c : Cause} {s : State} {e : Entry} (hcount : c.counts = true)
    (hq : entriesInv s.queue.entries) (he : e ∈ s.queue.entries) (hf : e.face = ch.face) (hc : e.cls = ch.cls)
    (hr : e.running = true) (hreach : e.reached = false) :
    (e.attempts + 1 < 3 →
        { e with running := false, attempts := e.attempts + 1 } ∈ (endEntry ch c s).queue.entries)
      ∧ (e.attempts + 1 = 3 → (∀ x ∈ (endEntry ch c s).queue.entries, ¬ (x.face = ch.face ∧ x.cls = ch.cls))
          ∧ (endEntry ch c s).queue.holds = s.queue.holds.set ch.face (.running (s.now + 600000))) := by
  have hrun : runningEntry ch.face ch.cls s.queue.entries = some e := by
    cases hfind : runningEntry ch.face ch.cls s.queue.entries with
    | none =>
      have hn := List.find?_eq_none.mp hfind e he
      simp [Entry.isOf, hf, hc, hr] at hn
    | some x =>
      obtain ⟨hx, hxf, hxc, -⟩ := runningEntry_some hfind
      rw [entry_unique hq hx he (hxf.trans hf.symm) (hxc.trans hc.symm)]
  let s1 := stopRunning ch.face ch.cls s
  let e1 : Entry := { e with running := false }
  have hq1 : entriesInv s1.queue.entries :=
    entriesInv_change hq (fun _ => ⟨rfl, rfl⟩) fun x _ _ _ hok => hok
  have he1 : e1 ∈ s1.queue.entries := mem_changeEntry.mpr (.inr ⟨e, he, hf, hc, rfl⟩)
  have hfind1 : findEntry ch.face ch.cls s1.queue.entries = some e1 := by
    rw [← hf, ← hc]
    exact findEntry_of_mem hq1 he1
  have hend : endEntry ch c s = dropReached ch.face ch.cls (countAttempt ch.face ch.cls s1) := by
    unfold endEntry
    rw [hrun]
    simp only [hcount, if_true]
    rfl
  rw [hend]
  refine ⟨fun hlt => ?_, fun h3 => ?_⟩
  · have hcnt : countAttempt ch.face ch.cls s1 =
        s1.setEntries (changeEntry ch.face ch.cls (fun e => { e with attempts := e.attempts + 1 }) s1.queue.entries) := by
      unfold countAttempt
      rw [hfind1]
      exact if_neg (by show ¬ 3 ≤ e.attempts + 1; omega)
    let e2 : Entry := { e with running := false, attempts := e.attempts + 1 }
    have he2 : e2 ∈ (countAttempt ch.face ch.cls s1).queue.entries := by
      rw [hcnt]
      exact mem_changeEntry.mpr (.inr ⟨e1, he1, hf, hc, rfl⟩)
    have hfind2 : ∀ x, findEntry ch.face ch.cls (countAttempt ch.face ch.cls s1).queue.entries = some x →
        x.reached = false := by
      intro x hx
      obtain ⟨hxm, hxf, hxc⟩ := findEntry_some hx
      rw [hcnt] at hxm
      rcases mem_changeEntry.mp hxm with ⟨-, hn⟩ | ⟨y, hy, hyf, hyc, rfl⟩
      · exact absurd ⟨hxf, hxc⟩ hn
      · rw [entry_unique hq1 hy he1 (hyf.trans hf.symm) (hyc.trans hc.symm)]
        exact hreach
    have hdrop : dropReached ch.face ch.cls (countAttempt ch.face ch.cls s1) = countAttempt ch.face ch.cls s1 := by
      unfold dropReached
      split
      · rename_i x hx
        exact if_neg fun hp => by rw [hfind2 x hx] at hp; exact absurd hp.2 nofun
      · rfl
    rw [hdrop]
    exact he2
  · have hcnt : countAttempt ch.face ch.cls s1 =
        holdFace ch.face (removeEntry .attempts { e1 with attempts := e1.attempts + 1 } s1) := by
      unfold countAttempt
      rw [hfind1]
      exact if_pos (by show 3 ≤ e.attempts + 1; omega)
    have hentries : (countAttempt ch.face ch.cls s1).queue.entries = dropEntry ch.face ch.cls s1.queue.entries := by
      rw [hcnt, ← hf, ← hc]
      exact removeEntry_queue _ _ s1
    have hnone : findEntry ch.face ch.cls (countAttempt ch.face ch.cls s1).queue.entries = none := by
      refine List.find?_eq_none.mpr fun x hx hof => ?_
      rw [hentries] at hx
      exact (mem_dropEntry.mp hx).2 (Entry.isOf_iff.mp hof)
    have hdrop : dropReached ch.face ch.cls (countAttempt ch.face ch.cls s1) = countAttempt ch.face ch.cls s1 := by
      unfold dropReached
      rw [hnone]
    rw [hdrop]
    refine ⟨fun x hx => ?_, ?_⟩
    · rw [hentries] at hx
      exact (mem_dropEntry.mp hx).2
    · have hnow : (removeEntry .attempts { e1 with attempts := e1.attempts + 1 } s1).now = s.now :=
        removeEntry_only .attempts _ s1 .now (by decide)
      rw [hcnt]
      show PerFace.set _ ch.face (Timer.running (State.now _ + 600000)) = _
      rw [hnow, removeEntry_holds]
      rfl

/-- The attempt of a stop that counts one, where no selection follows. -/
theorem chainOver_attempt {ch : Chain} {c : Cause} {s : State} (hcount : c.counts = true) (hq : queueInv s.queue) :
    attemptCounted ch s (chainOver c ch s) := by
  intro e he hf hc hr hreach
  let u := afterChain c ch (chainGone c ch s)
  have hu : u.queue.entries = s.queue.entries := (afterChain_keeps c ch _).entries.trans (by rw [chainGone_queue])
  have hh : u.queue.holds = s.queue.holds := (afterChain_keeps c ch _).holds.trans (by rw [chainGone_queue])
  have hn : u.now = s.now := (afterChain_only c ch _ .now (by decide)).trans (chainGone_only c ch s .now (by decide))
  obtain ⟨hlt, h3⟩ := endEntry_counts (s := u) hcount (by rw [hu]; exact ((queueInv_iff _).mp hq).1) (hu ▸ he) hf hc hr hreach
  let e' : Entry := { e with running := false, attempts := e.attempts + 1 }
  refine ⟨fun h => ⟨e', ((queueChainEnd_entries ch c u).same e' hf hc).mpr (hlt h), rfl, rfl, rfl, rfl, rfl⟩,
    fun h => ?_⟩
  obtain ⟨hnone, hhold⟩ := h3 h
  refine ⟨List.find?_eq_none.mpr fun x hx hof => ?_, ?_⟩
  · rw [hf, hc] at hof
    obtain ⟨hxf, hxc⟩ := Entry.isOf_iff.mp hof
    exact hnone x (((queueChainEnd_entries ch c u).same x hxf hxc).mp hx) ⟨hxf, hxc⟩
  · show (queueChainEnd ch c u).queue.holds.get e.face = _
    rw [queueChainEnd_holds, hhold, hf, hh, hn, PerFace.get_set_same]

/-- A selection that follows leaves the counted attempt. -/
theorem attemptCounted_selected {ch : Chain} {s t : State} (h : attemptCounted ch s t) :
    attemptCounted ch s (trySelection t) := by
  intro e he hf hc hr hreach
  obtain ⟨hlt, h3⟩ := h e he hf hc hr hreach
  have hk := trySelection_keeps t
  refine ⟨fun hn => ?_, fun hn => ?_⟩
  · obtain ⟨x, hx, hxf, hxc, ha, hd, hreq⟩ := hlt hn
    rcases hk.shape with hs | ⟨y, -, hs⟩ <;> rw [hs]
    · exact ⟨x, hx, hxf, hxc, ha, hd, hreq⟩
    · by_cases hxy : x.face = y.face ∧ x.cls = y.cls
      · exact ⟨{ x with running := true }, mem_changeEntry.mpr (.inr ⟨x, hx, hxy.1, hxy.2, rfl⟩), hxf, hxc, ha, hd, hreq⟩
      · exact ⟨x, mem_changeEntry.mpr (.inl ⟨hx, hxy⟩), hxf, hxc, ha, hd, hreq⟩
  · obtain ⟨hnone, hhold⟩ := h3 hn
    refine ⟨?_, by rw [hk.holds]; exact hhold⟩
    refine List.find?_eq_none.mpr fun x hx hof => ?_
    have hno := List.find?_eq_none.mp hnone
    rcases hk.shape with hs | ⟨y, -, hs⟩ <;> rw [hs] at hx
    · exact hno x hx hof
    · rcases mem_changeEntry.mp hx with ⟨hx, -⟩ | ⟨z, hz, -, -, rfl⟩
      · exact hno x hx hof
      · exact hno z hz hof

theorem chainEnd_attempt {ch : Chain} {c : Cause} {s : State} (h : s.cannon.chain = some ch) (hcount : c.counts = true)
    (hq : queueInv s.queue) : attemptCounted ch s (chainEnd c s) := by
  rw [chainEnd_eq h]
  exact attemptCounted_selected (chainOver_attempt hcount hq)

/-- `attemptCounted` speaks of the entries, the holds and the time alone. -/
theorem attemptCounted_congr {ch : Chain} {s s' t t' : State} (h : attemptCounted ch s t) (hn : s'.now = s.now)
    (hq : s'.queue = s.queue) (ht : t'.queue = t.queue) : attemptCounted ch s' t' := by
  unfold attemptCounted at *
  rw [hn, hq, ht]
  exact h

/-! ### The slew timeout (O17) -/

/-- A DRIVE FAULT ends in FAULT, and no selection follows (R84). -/
theorem chainEnd_driveFault {ch : Chain} {s : State} (h : s.cannon.chain = some ch) :
    chainEnd .driveFault s = chainOver .driveFault ch s ∧ (chainOver .driveFault ch s).cannon.state = .fault
      ∧ (chainOver .driveFault ch s).queue.request = false :=
  ⟨chainEnd_of_closed h rfl, by rw [chainOver_cannon]; rfl, by rw [chainOver_request]; rfl⟩

/-- Settles O17. -/
theorem slewTimeoutFaults : Obligations.SlewTimeoutFaults := by
  unfold Obligations.SlewTimeoutFaults
  intro due ch s hm hslew hdue hch
  let u := s.onCannon fun c => { c with slew := .stopped }
  have hu : u.cannon.chain = some ch := hch
  obtain ⟨hend, hstate, hreq⟩ := chainEnd_driveFault hu
  have heff : effectOf .slewTimeout s = chainOver .driveFault ch u := by
    show takeSlewTimeout s = _
    unfold takeSlewTimeout
    rw [if_pos (by rw [hslew]; exact decide_eq_true hdue), ← hend]
  have hrest := chainOver_rest .driveFault ch u
  refine ⟨_, exec_eq hm heff, ?_, ?_, ?_, ?_, ?_, ?_, ?_, ?_, fun e he hf hc => ?_, ?_⟩
  · exact endedBy_congr (chainOver_endedBy .driveFault ch u) rfl rfl rfl rfl (by simp) (by simp) (by simp)
  · rw [closeArrival_cannon, hstate]
  · rw [closeArrival_cannon, hrest.chain]
  · rw [closeArrival_cannon, hrest.valve]
  · rw [closeArrival_cannon, hrest.drive]
  · rw [closeArrival_queue, hreq]
  · rw [closeArrival_claim, hrest.claim]
  · exact (closeArrival_cond s _ (i := .cannonFault) rfl).trans (decide_eq_true hstate)
  · rw [closeArrival_queue] at he
    exact chainOver_still he hf hc
  · exact close_only (only_trans (only_mono (onCannon_only s _) (by decide)) (chainOver_only .driveFault ch u))

/-! ### The no-flow stop (O18) -/

/-- The first NO_FLOW stop parks the cannon and the second in a row ends in FAULT (R84, R85). -/
theorem afterChain_noFlow {ch : Chain} {s : State} :
    (s.cannon.noFlowCount = 0 →
        (afterChain .noFlow ch s).cannon.state = .parked ∧ (afterChain .noFlow ch s).cannon.noFlowCount = 1)
      ∧ (s.cannon.noFlowCount ≠ 0 →
          (afterChain .noFlow ch s).cannon.state = .fault ∧ (afterChain .noFlow ch s).queue.request = false
            ∧ (afterChain .noFlow ch s).cannon.noFlowCount = s.cannon.noFlowCount) := by
  refine ⟨fun h => ?_, fun h => ?_⟩
  · have ha : afterChain .noFlow ch s =
        (parkCannon (s.onCannon fun c => { c with noFlowCount := 1 })).setRequest true := if_pos h
    rw [ha]
    exact ⟨rfl, rfl⟩
  · have ha : afterChain .noFlow ch s = faultCannon s := if_neg h
    rw [ha]
    exact ⟨rfl, rfl, rfl⟩

/-- Settles O18. -/
theorem noFlowStops : Obligations.NoFlowStops := by
  unfold Obligations.NoFlowStops
  intro due ch s hm htimer hdue hch hq hcount
  let u := s.onCannon fun c => { c with noFlow := .stopped }
  have hu : u.cannon.chain = some ch := hch
  have heff : effectOf .noFlowExpiry s = chainEnd .noFlow u := by
    show takeNoFlow s = _
    unfold takeNoFlow
    rw [if_pos (by rw [htimer]; exact decide_eq_true hdue)]
  have hgone : (chainGone .noFlow ch u).cannon.noFlowCount = s.cannon.noFlowCount := chainGone_count .noFlow ch u
  obtain ⟨hfirst, hsecond⟩ := afterChain_noFlow (ch := ch) (s := chainGone .noFlow ch u)
  rw [hgone] at hfirst hsecond
  have hk := trySelection_keeps (chainOver .noFlow ch u)
  refine ⟨_, exec_eq hm heff, ?_, ?_, ?_, fun h1 => ?_, fun h0 => ?_, ?_, ?_⟩
  · exact endedBy_congr (chainEnd_endedBy hu) rfl rfl rfl rfl (by simp) (by simp) (by simp)
  · rw [closeArrival_cannon, chainEnd_eq hu, hk.count, chainOver_cannon]
    by_cases h0 : s.cannon.noFlowCount = 0
    · exact (hfirst h0).2
    · rw [(hsecond h0).2.2]
      omega
  · rw [closeArrival_cannon, chainEnd_valve hu]
  · obtain ⟨hstate, hreq, -⟩ := hsecond (by omega)
    rw [closeArrival_cannon, closeArrival_queue, closeArrival_claim, chainEnd_of_closed hu hreq, chainOver_cannon,
      chainOver_request]
    exact ⟨hstate, hreq, chainOver_claim .noFlow ch u⟩
  · rw [closeArrival_cannon, chainEnd_eq hu]
    have hstate := (hfirst h0).1
    rw [← chainOver_cannon] at hstate
    rcases hk.state with hs | hs | hs | hs <;> rw [hs]
    · rw [hstate]
      exact nofun
    all_goals exact nofun
  · exact attemptCounted_congr (chainEnd_attempt (c := .noFlow) hu rfl hq) rfl rfl (closeArrival_queue s _)
  · exact close_only (only_trans (only_mono (onCannon_only s _) (by decide)) (only_mono (chainEnd_only .noFlow u) (by decide)))

end Sys2Proof.Machine
end


section
/-! PROOFS. The cannon's encoder, its timers, and the ends of a priming and of a drain (O14, O15, O16). -/

namespace Sys2Proof.Machine

/-! ### The ask (R101) -/

/-- The own claim that an ask forms. -/
def State.asked (s : State) (cls : DemandClass) (basis : Nat) : OwnClaim :=
  { s.claim.own with
    state := .settling, cls := some cls, basis := some basis, serial := some s.claim.own.nextSerial
    nextSerial := (s.claim.own.nextSerial + 1) % 16, qg := 0, tHeld := none, ceiling := none, sent := false
    settle := .running (s.now + s.cfg.settleTime * 1000) }

theorem askClaim_claim {s : State} (hm : s.station.mode = .run) (hn : s.claim.own.state = .none) (cls : DemandClass)
    (basis : Nat) :
    (askClaim cls basis s).claim =
      { s.claim with
        own := { s.asked cls basis with lastAnnounce := some s.sec, refresh := .running (s.now + 30000) } } := by
  have ha : askClaim cls basis s = announceClaim (s.setOwn (s.asked cls basis)) :=
    if_pos ⟨decide_eq_true hm, hn⟩
  rw [ha, announceClaim_claim]
  rfl

theorem enterClaiming_of_cutOut {s : State} (h : s.cutOut = true) (ch : Chain) :
    enterClaiming ch s = s.onCannon fun c => { c.haltSegment s.now with state := .claiming } := if_pos h

theorem enterClaiming_of_calm {s : State} (h : s.cutOut = false) (ch : Chain) :
    enterClaiming ch s =
      askClaim ch.cls ch.basis (s.onCannon fun c => { c.haltSegment s.now with state := .claiming }) :=
  if_neg (by simp [h])

/-! ### ENCODER_REPORT (O14) -/

/-- The cannon with the bearing of a report. -/
def bearingKept (b : Nat) (s : State) : State := s.onCannon fun c => { c with bearing := some b }

section Encoder

variable {b : Nat} {s : State}

theorem takeEncoderReport_idle (h : s.cannon.chain = none ∨ (s.cannon.state ≠ .slewing ∧ s.cannon.state ≠ .spraying)) :
    takeEncoderReport b s = bearingKept b s := by
  unfold takeEncoderReport
  simp only
  split
  · rename_i hc hs
    rcases h with h | h
    · rw [h] at hc
      cases hc
    · exact absurd hs h.1
  · rename_i hc hs _
    rcases h with h | h
    · rw [h] at hc
      cases hc
    · exact absurd hs h.2
  · rfl

theorem takeEncoderReport_slewing {ch : Chain} (hc : s.cannon.chain = some ch) (hs : s.cannon.state = .slewing) :
    takeEncoderReport b s =
      if b = (s.descOf ch.face).arcStart then enterClaiming ch (bearingKept b s) else bearingKept b s := by
  unfold takeEncoderReport
  rw [hc, hs]
  rfl

theorem takeEncoderReport_spraying {ch : Chain} {dir : Direction} (hc : s.cannon.chain = some ch)
    (hs : s.cannon.state = .spraying) (hd : s.cannon.drive = some dir) :
    takeEncoderReport b s =
      if !pointArc (s.descOf ch.face) && sweepTurns s.cfg (s.descOf ch.face) dir b then
        (bearingKept b s).onCannon fun c =>
          { c with
            drive := some (otherWay dir), slew := .startAt s.now (s.cfg.slewTimeout * 1000)
            chain := some { ch with sweep := otherWay dir } }
      else bearingKept b s := by
  unfold takeEncoderReport
  rw [hc, hs, hd]
  rfl

end Encoder

theorem sweepTurns_iff (c : Configuration) (d : FaceDesc) (dir : Direction) (b : Nat) :
    (!pointArc d && sweepTurns c d dir b) = true ↔
      d.arcStart ≠ d.arcEnd
        ∧ ((dir = .clockwise ∧ clockwiseFrom c.acwStop d.arcEnd ≤ clockwiseFrom c.acwStop b
              ∧ clockwiseFrom c.acwStop b ≤ clockwiseFrom c.acwStop c.cwStop)
          ∨ (dir = .anticlockwise ∧ clockwiseFrom c.acwStop b ≤ clockwiseFrom c.acwStop d.arcStart)) := by
  cases dir <;> simp [pointArc, sweepTurns]

/-- Settles O14. -/
theorem encoderReports : Obligations.EncoderReports := by
  unfold Obligations.EncoderReports
  intro b s hs hm kept
  have hkept (he : takeEncoderReport b.val s = bearingKept b.val s) : exec (.encoderReport b) s = .next kept :=
    exec_of_same hs hm he rfl rfl rfl rfl rfl
  refine ⟨fun h => hkept (takeEncoderReport_idle h), fun ch hc hst hb => hkept ?_, fun ch hc hst hb => ?_,
    fun ch dir hc hst hd => ⟨fun h => hkept ?_, fun h => ?_⟩⟩
  · rw [takeEncoderReport_slewing hc hst, if_neg hb]
  · have heff : effectOf (.encoderReport b) s = enterClaiming ch (bearingKept b.val s) :=
      (takeEncoderReport_slewing hc hst).trans (if_pos hb)
    have honly : onlyChanges [.cannon, .claim, .line] s (enterClaiming ch (bearingKept b.val s)) :=
      only_trans (only_mono (onCannon_only s _) (by decide)) (enterClaiming_only ch _)
    refine ⟨_, exec_eq hm heff, ?_, fun hcut hrun hnone => ?_, fun hcut => ?_, ?_⟩
    · rw [closeArrival_cannon, enterClaiming_cannon]
      simp [bearingKept, State.onCannon, Cannon.haltSegment, Cannon.waitLeg, Cannon.halt, hst]
    · rw [closeArrival_claim, enterClaiming_of_calm (s := bearingKept b.val s) hcut,
        askClaim_claim (by exact hrun) (by exact hnone)]
      exact ⟨rfl, rfl, rfl, rfl, rfl, rfl⟩
    · rw [closeArrival_claim, enterClaiming_of_cutOut (s := bearingKept b.val s) hcut]
      rfl
    · refine close_only_of_conditions honly (hs.1 hm) ?_
      have hr := (enterClaiming_reports ch (bearingKept b.val s)).after (onCannon_reports s _)
      refine hr.conditions ?_ (honly .station (by decide)) (honly .account (by decide)) (honly .wind (by decide))
        (honly .forecast (by decide))
      rw [enterClaiming_cannon, hst]
      exact ⟨nofun, nofun⟩
  · rw [takeEncoderReport_spraying hc hst hd, if_neg fun ht => h ((sweepTurns_iff _ _ _ _).mp ht)]
  · refine exec_of_same hs hm ((takeEncoderReport_spraying hc hst hd).trans (if_pos ((sweepTurns_iff _ _ _ _).mpr h)))
      rfl rfl rfl rfl rfl

/-! ### The timers (O15) -/

theorem isDue_running {due now : Nat} (h : due ≤ now) : (Timer.running due).isDue now = true := decide_eq_true h

theorem pauseWatch_eq (now : Nat) (t : Timer) :
    t.pauseWatch now =
      match t with
      | .running d => if d ≤ now then .running d else .paused (d - now)
      | w => w := by
  cases t with
  | running d =>
    by_cases h : d ≤ now
    · simp [Timer.pauseWatch, Timer.isDue, h]
    · simp [Timer.pauseWatch, Timer.isDue, Timer.pause, h]
  | paused left => rfl
  | stopped => rfl

/-- Settles O15. -/
theorem cannonTimers : Obligations.CannonTimers := by
  unfold Obligations.CannonTimers
  intro due s hs hm hdue
  refine ⟨fun hon => ?_, fun onTime hper hst hot => ?_, fun hsb hst hreq => ?_⟩
  · have he : effectOf .onTimerExpiry s = s.onCannon (Cannon.closeValve s.now) := by
      show takeOnTimer s = _
      unfold takeOnTimer
      rw [hon, isDue_running hdue]
      rfl
    rw [exec_of_same hs hm he rfl rfl rfl rfl rfl]
    unfold State.onCannon Cannon.closeValve
    rw [pauseWatch_eq] <;> rfl
  · have he : effectOf .periodTimerExpiry s = s.onCannon fun c => c.openValve s.now s.cfg.period onTime := by
      show takePeriodTimer s = _
      unfold takePeriodTimer
      rw [hper, isDue_running hdue, if_pos rfl, if_pos hst, State.onCannon, hot]
      rfl
    rw [exec_of_same hs hm he rfl rfl rfl rfl rfl]
    unfold State.onCannon Cannon.openValve Timer.resume Timer.startAt
    rfl
  · have he : effectOf .standbyExpiry s =
        s.onCannon fun c => { c with state := .standby, branchOpen := false, primed := false, standby := .stopped } := by
      show takeStandby s = _
      unfold takeStandby
      rw [hsb, isDue_running hdue]
      exact (if_pos rfl).trans ((if_pos hst).trans (if_pos hreq))
    refine exec_of_same hs hm he rfl ?_ rfl rfl ?_
    · exact SameReports.conditions ⟨rfl, rfl⟩ (by simp [hst]) rfl rfl rfl rfl
    · simp [State.reportedItems, hst, CannonState.cls, State.locked, State.faceClasses, State.faceClass]

/-! ### The ends of a priming and of a drain (O16) -/

/-- `chainFormed` speaks of the time, the settings, the queue and the cannon alone. -/
theorem chainFormed_congr {e : Entry} {w : Bool} {s s' t t' : State} (h : chainFormed e w s t) (hn : s'.now = s.now)
    (hst : s'.station = s.station) (hq : t'.queue = t.queue) (hc : t'.cannon = t.cannon) : chainFormed e w s' t' := by
  have hcfg : s'.cfg = s.cfg := by simp only [State.cfg, hst]
  unfold chainFormed at *
  rw [State.sec, hn, hcfg, hq, hc]
  exact h

/-- A wait that has ended: the timer stopped, and the cannon primed at the end of a priming. -/
structure WaitEnds (primes : Bool) (c d : Cannon) : Prop where
  primed : d.primed = (c.primed || primes)
  state : d.state = c.state
  branch : d.branchOpen = c.branchOpen
  valve : d.valveOpen = c.valveOpen
  bearing : d.bearing = c.bearing
  chain : d.chain = c.chain

/-- At the end of a priming, and of a drain with no lock, a chain that waited begins to slew and a cannon without one
parks. -/
theorem waitEnd_cases {due : Nat} {s : State} {c : Instr} (hdue : due ≤ s.now)
    (h : (c = .primingExpiry ∧ s.cannon.state = .priming ∧ s.cannon.priming = .running due)
      ∨ (c = .drainExpiry ∧ s.cannon.state = .draining ∧ s.cannon.drain = .running due ∧ s.lockout.locks = [])) :
    ∃ d : Cannon, WaitEnds (decide (c = .primingExpiry)) s.cannon d
      ∧ effectOf c s =
        match s.cannon.chain with
        | some ch => startWaiting ch (s.setCannon d)
        | none => enterParked (s.setCannon d) := by
  rcases h with ⟨rfl, hst, ht⟩ | ⟨rfl, hst, ht, hl⟩
  · refine ⟨{ s.cannon with priming := .stopped, primed := true }, ⟨by simp, rfl, rfl, rfl, rfl, rfl⟩, ?_⟩
    show takePriming s = _
    unfold takePriming
    rw [ht, isDue_running hdue, if_pos rfl, if_pos hst]
    rfl
  · have hlock : ¬ s.locked = true := fun hlk => (locked_iff s).mp hlk hl
    refine ⟨{ s.cannon with drain := .stopped }, ⟨by simp, rfl, rfl, rfl, rfl, rfl⟩, ?_⟩
    show takeDrain s = _
    unfold takeDrain
    simp only
    rw [ht, isDue_running hdue, if_pos rfl, if_pos hst, if_neg hlock]
    rfl

theorem waitEnd_ordinary {due : Nat} {s : State} {c : Instr}
    (h : (c = .primingExpiry ∧ s.cannon.state = .priming ∧ s.cannon.priming = .running due)
      ∨ (c = .drainExpiry ∧ s.cannon.state = .draining ∧ s.cannon.drain = .running due ∧ s.lockout.locks = [])) :
    Instr.ordinary c := by
  rcases h with ⟨rfl, -⟩ | ⟨rfl, -⟩ <;> exact nofun

theorem enterParked_of_open {s : State} (h : s.queue.request = true) : enterParked s = parkCannon s := if_pos h

theorem enterParked_of_closed {s : State} (h : s.queue.request = false) :
    enterParked s = trySelection ((parkCannon s).setRequest true) := if_neg (by simp [parkCannon, State.onCannon, h])

/-- Parked without a chain in RUN and without locks, the best candidate is selected. -/
theorem park_tries {s : State} (hm : s.station.mode = .run) (hl : s.lockout.locks = []) (hc : s.cannon.chain = none) :
    Tries ((parkCannon s).setRequest true) :=
  ⟨rfl, hm, by simp [Cannon.selectable, parkCannon, State.onCannon, State.setRequest, hc], hl⟩

section WaitEnd

variable {s : State} {d : Cannon} {primes : Bool} (hw : WaitEnds primes s.cannon d)
include hw

/-- A chain that waited begins to slew, or claims at once where the cannon stands on bearing. -/
theorem startWaiting_slews (ch : Chain) :
    let t := startWaiting ch (s.setCannon d)
    let aimed := s.cannon.bearing = some (s.descOf ch.face).arcStart
    t.cannon.valveOpen = (if aimed then false else s.cannon.valveOpen)
      ∧ t.cannon.state = (if aimed then CannonState.claiming else .slewing)
      ∧ (¬ aimed → t.cannon.slew = .running (s.now + s.cfg.slewTimeout * 1000) ∧ t.cannon.drive.isSome = true
          ∧ t.claim = s.claim)
      ∧ t.cannon.primed = (s.cannon.primed || primes)
      ∧ t.cannon.chain = some { ch with waiting := false } := by
  intro t aimed
  let u := (s.setCannon d).onCannon fun c => { c with chain := some { ch with waiting := false } }
  have ht : t = enterSlewing { ch with waiting := false } u := rfl
  have hk := enterSlewing_keeps { ch with waiting := false } u
  refine ⟨?_, ?_, ?_, by rw [ht, hk.primed]; exact hw.primed, by rw [ht, hk.chain]; rfl⟩
  all_goals by_cases ha : aimed
  · rw [if_pos ha, ht, enterSlewing_of_on (hw.bearing.trans ha), enterClaiming_cannon]
    rfl
  · rw [if_neg ha, ht, enterSlewing_cannon_of_off (fun h => ha (hw.bearing.symm.trans h))]
    exact hw.valve
  · rw [if_pos ha, ht, enterSlewing_of_on (hw.bearing.trans ha), enterClaiming_cannon]
  · rw [if_neg ha, ht, enterSlewing_cannon_of_off (fun h => ha (hw.bearing.symm.trans h))]
  · exact fun h => absurd ha h
  · intro _
    have hoff : u.cannon.bearing ≠ some (u.descOf ch.face).arcStart := fun h => ha (hw.bearing.symm.trans h)
    rw [ht, enterSlewing_cannon_of_off (ch := { ch with waiting := false }) hoff]
    refine ⟨rfl, rfl, ?_⟩
    unfold enterSlewing
    simp only
    rw [if_neg hoff]
    rfl

end WaitEnd

/-- A chain that waited touches no queue. -/
theorem startWaiting_spares (ch : Chain) (s : State) :
    onlyChanges [.cannon, .claim, .line, .free] s (startWaiting ch s) :=
  only_trans (only_mono (onCannon_only s _) (by decide)) (enterSlewing_only _ _)

/-- Settles O16, by `waitEnd_cases`. -/
theorem primingAndDrainEnd : Obligations.PrimingAndDrainEnd := by
  unfold Obligations.PrimingAndDrainEnd
  intro due s hs hm hdue hbranch
  refine ⟨fun c hc => ?_, fun hst ht hl => ?_⟩
  · obtain ⟨d, hw, heff⟩ := waitEnd_cases hdue hc
    have hord := waitEnd_ordinary hc
    have hnofault : s.cannon.state ≠ .fault := by
      rcases hc with ⟨-, hst, -⟩ | ⟨-, hst, -⟩ <;> rw [hst] <;> exact nofun
    have hclose {fs : List Field} {t : State} (honly : onlyChanges fs s t) (hr : SameReports s t)
        (hf : t.cannon.state ≠ .fault) (hfs : ∀ f ∈ [Field.station, .account, .wind, .forecast], f ∉ fs)
        (ha : Field.alarms ∉ fs) (hl : Field.line ∈ fs) : onlyChanges fs s (closeArrival s t) :=
      close_only_of_conditions honly (hs.1 hm)
        (hr.conditions (by simp [hf, hnofault]) (honly .station (hfs _ (by decide))) (honly .account (hfs _ (by decide)))
          (honly .wind (hfs _ (by decide))) (honly .forecast (hfs _ (by decide)))) ha hl (hfs _ (by decide))
    refine ⟨fun ch hch => ?_, fun hch hreq => ?_, fun hch hreq hl => ?_⟩
    · rw [hch] at heff
      obtain ⟨hvalve, hstate, hoff, hprimed, hchain⟩ := startWaiting_slews hw ch
      have heff' : effectOf c s = startWaiting ch (s.setCannon d) := heff
      refine ⟨_, exec_eq hm heff' hord, by rw [closeArrival_cannon, hvalve], by rw [closeArrival_cannon, hstate], ?_,
        by rw [closeArrival_cannon, hprimed], by rw [closeArrival_cannon, hchain], ?_⟩
      · rw [closeArrival_cannon, closeArrival_claim]
        exact hoff
      · refine hclose (only_trans (only_mono (setCannon_only s _) (by decide)) (startWaiting_spares ch _)) ?_ ?_
          (by decide) (by decide) (by decide)
        · exact .after (enterSlewing_reports _ _) ⟨rfl, rfl⟩
        · rw [hstate]
          split <;> exact nofun
    · rw [hch] at heff
      have heff' : effectOf c s = parkCannon (s.setCannon d) := heff.trans (enterParked_of_open hreq)
      refine ⟨_, exec_eq hm heff' hord, by rw [closeArrival_cannon]; rfl, ?_, ?_, ?_⟩
      · rw [closeArrival_cannon]
        show (d.primed && d.branchOpen) = _
        rw [hw.branch, hbranch, Bool.and_true, hw.primed]
      · rw [closeArrival_cannon]
        show s.standbyTimer = _
        simp only [State.standbyTimer, Bool.and_eq_true, decide_eq_true_eq, Timer.startAt]
      · exact hclose (fs := [.cannon, .line])
          (only_trans (only_mono (setCannon_only s _) (by decide)) (only_mono (onCannon_only _ _) (by decide)))
          ⟨rfl, rfl⟩ nofun (by decide) (by decide) (by decide)
    · rw [hch] at heff
      let u := (parkCannon (s.setCannon d)).setRequest true
      have heff' : effectOf c s = trySelection u := heff.trans (enterParked_of_closed hreq)
      have hprimed : u.cannon.primed = (s.cannon.primed || decide (c = .primingExpiry)) := by
        show (d.primed && d.branchOpen) = _
        rw [hw.branch, hbranch, Bool.and_true, hw.primed]
      have hchoose : u.choose = s.choose := rfl
      have hk := trySelection_keeps u
      refine ⟨_, exec_eq hm heff' hord, fun h => ?_, fun e he hrun => ?_, ?_⟩
      · have hsame : trySelection u = u := by
          rcases h with h | h
          · exact trySelection_of_not fun ht => h ht.run
          · exact trySelection_of_none (hchoose.trans h)
        rw [closeArrival_cannon, closeArrival_queue, hsame]
        exact ⟨rfl, rfl, hw.chain.trans hch⟩
      · have htries : Tries u := park_tries (s := s.setCannon d) hrun hl (hw.chain.trans hch)
        have hstart := trySelection_of_choose htries (hchoose.trans he)
        rw [closeArrival_cannon, hstart]
        refine ⟨?_, fun hp hcd => ?_, fun hp => ?_⟩
        · exact chainFormed_congr (startChain_formed (s := u) (choose_mem (hchoose.trans he))) rfl rfl (by simp) (by simp)
        · subst hcd
          rw [startChain_of_unprimed rfl (by rw [hprimed, hp]; rfl)]
          rfl
        · have hyes : u.cannon.primed = true := by
            rw [hprimed]
            rcases hp with hp | hp <;> simp [hp]
          rw [startChain_of_primed rfl hyes]
          exact enterSlewing_state _ _
      · refine hclose (only_trans (only_mono (setCannon_only s _) (by decide))
          (only_trans (only_mono (onCannon_only _ _) (by decide))
            (only_trans (only_mono (setRequest_only _ true) (by decide)) (trySelection_only u)))) ?_ ?_
          (by decide) (by decide) (by decide)
        · exact .after (trySelection_reports u) ⟨rfl, rfl⟩
        · rcases hk.state with h | h | h | h <;> rw [h] <;> exact nofun
  · have hlock : s.locked = true := (locked_iff s).mpr hl
    have heff : effectOf .drainExpiry s = lockCannon (s.onCannon fun c => { c with drain := .stopped }) := by
      show takeDrain s = _
      unfold takeDrain
      simp only
      rw [ht, isDue_running hdue, if_pos rfl, if_pos hst, if_pos hlock]
    have honly : onlyChanges [.queue, .cannon, .line] s (lockCannon (s.onCannon fun c => { c with drain := .stopped })) :=
      only_trans (only_mono (onCannon_only s _) (by decide)) (only_mono (lockCannon_only _) (by decide))
    refine ⟨_, exec_eq hm heff, by rw [closeArrival_cannon]; rfl, by rw [closeArrival_queue]; rfl,
      by rw [closeArrival_cannon]; rfl, close_only_of_conditions honly (hs.1 hm) ?_⟩
    exact SameReports.conditions ⟨rfl, rfl⟩ (by rw [hst]; exact ⟨nofun, nofun⟩) rfl rfl rfl rfl

end Sys2Proof.Machine
end


section
/-! PROOFS. The Spray Queue's own moments: the deadlines that local time has reached and the end of a fault hold (O13). -/

namespace Sys2Proof.Machine

/-! ### One deadline after the other (R64) -/

/-- The removal record of an entry that missed its deadline (R65, R70). -/
def missedRemoval (sec : Nat) (e : Entry) : Removal :=
  { face := e.face, cls := e.cls, origin := e.origin, requested := e.requested, delivered := e.delivered
    deadline := e.deadline, time := sec, reason := .deadline }

/-- An entry after the deadlines of `l`: a running one is marked and another leaves. -/
def afterDeadlines (l : List Entry) (x : Entry) : Option Entry :=
  match findEntry x.face x.cls l with
  | some y => if y.running then some { x with reached := true } else none
  | none => some x

theorem changeEntry_eq_filterMap (f : FaceId) (c : DemandClass) (g : Entry → Entry) (es : List Entry) :
    changeEntry f c g es = es.filterMap fun x => if x.isOf f c then some (g x) else some x := by
  rw [changeEntry, ← List.filterMap_eq_map]
  refine filterMap_congr_mem fun x _ => ?_
  simp only [Function.comp_apply]
  split <;> rfl

theorem dropEntry_eq_filterMap (f : FaceId) (c : DemandClass) (es : List Entry) :
    dropEntry f c es = es.filterMap fun x => if x.isOf f c then none else some x := by
  rw [dropEntry, ← List.filterMap_eq_filter]
  refine filterMap_congr_mem fun x _ => ?_
  cases h : x.isOf f c <;> simp [Option.guard, h]

theorem isOf_comm (a b : Entry) : a.isOf b.face b.cls = b.isOf a.face a.cls := by
  simp only [Entry.isOf, eq_comm (a := a.face), eq_comm (a := a.cls)]

/-- The entries after one more deadline. -/
theorem afterDeadlines_cons {e : Entry} {l : List Entry} (hnew : ∀ y ∈ l, y.face ≠ e.face) (x : Entry) :
    afterDeadlines (e :: l) x =
      (if x.isOf e.face e.cls then (if e.running then some { x with reached := true } else none)
       else some x).bind (afterDeadlines l) := by
  have hnone (h : x.isOf e.face e.cls = true) : findEntry x.face x.cls l = none := by
    refine List.find?_eq_none.mpr fun y hy hof => hnew y hy ?_
    exact (Entry.isOf_iff.mp hof).1.trans (Entry.isOf_iff.mp h).1
  unfold afterDeadlines findEntry
  rw [List.find?_cons, ← isOf_comm x e]
  cases h : x.isOf e.face e.cls with
  | true =>
    have hn := hnone h
    unfold findEntry at hn
    cases hr : e.running <;> simp [hn, hr]
  | false => rfl

/-- The last removal record is that of the last entry that left. -/
theorem getLast_or_cons {β : Type} (g : Entry → β) (e : Entry) (l : List Entry) (r : Option β) :
    ((e :: l).getLast?.map g).or r = (l.getLast?.map g).or (some (g e)) := by
  rw [List.getLast?_cons]
  cases l.getLast? <;> rfl

/-- What the deadlines of some entries make of a state. -/
structure DeadlinesPassed (l : List Entry) (s t : State) : Prop where
  now : t.now = s.now
  queue : t.queue =
    { s.queue with
      entries := s.queue.entries.filterMap (afterDeadlines l)
      lastRemoval := ((l.filter fun e => !e.running).getLast?.map (missedRemoval s.sec)).or s.queue.lastRemoval }
  timer : t.face.timer = s.face.timer
  records : ∀ f, t.face.records.get f =
    match (l.filter fun e => !e.running).find? fun e => decide (e.face = f) with
    | some e => (s.face.records.get f).map fun r => { r with lastPrewet := some (.missed, e.deadline.getD 0) }
    | none => s.face.records.get f
  alarms : t.alarms =
    { s.alarms with
      flags := { s.alarms.flags with
        prewetMissed := (l.filter fun e => !e.running).foldl (fun g _ => g.event s.sec) s.alarms.flags.prewetMissed } }

theorem passDeadline_running {e : Entry} (h : e.running = true) (s : State) :
    passDeadline e s =
      s.setEntries (changeEntry e.face e.cls (fun e => { e with reached := true }) s.queue.entries) := if_pos h

/-- A PREWET that misses its deadline leaves, is recorded and reported (R64, R65). -/
theorem passDeadline_waiting {e : Entry} (h : e.running = false) (hp : e.cls = .prewet) (s : State) :
    passDeadline e s =
      raisePrewetMissed
        (changeRecord e.face (fun r => { r with lastPrewet := some (.missed, e.deadline.getD 0) })
          (s.setQueue
            { s.queue with
              entries := dropEntry e.face e.cls s.queue.entries, lastRemoval := some (missedRemoval s.sec e) })) := by
  refine (if_neg (by simp [h])).trans ?_
  unfold removeEntry recordPrewet missedRemoval
  simp only [hp, RemovalReason.prewet]

theorem passDeadline_fold (l : List Entry) (hp : ∀ e ∈ l, e.cls = .prewet) (hnd : (l.map Entry.face).Nodup) (s : State) :
    DeadlinesPassed l s (l.foldl (fun s e => passDeadline e s) s) := by
  induction l generalizing s with
  | nil =>
    have hid : s.queue.entries.filterMap (afterDeadlines []) = s.queue.entries :=
      (filterMap_congr_mem fun _ _ => rfl).trans List.filterMap_some
    exact ⟨rfl, by simp only [List.foldl_nil, hid]; rfl, rfl, fun _ => rfl, rfl⟩
  | cons e l ih =>
    rw [List.map_cons, List.nodup_cons, List.mem_map] at hnd
    obtain ⟨hne, hnd⟩ := hnd
    have hnew : ∀ y ∈ l, y.face ≠ e.face := fun y hy hf => hne ⟨y, hy, hf⟩
    have hcls := hp e List.mem_cons_self
    obtain ⟨hnow, hqueue, htimer, hrec, halarm⟩ :=
      ih (fun x hx => hp x (List.mem_cons_of_mem _ hx)) hnd (passDeadline e s)
    have hcons : s.queue.entries.filterMap (afterDeadlines (e :: l)) =
        (s.queue.entries.filterMap fun x =>
          if x.isOf e.face e.cls then (if e.running then some { x with reached := true } else none)
          else some x).filterMap (afterDeadlines l) := by
      rw [List.filterMap_filterMap]
      exact filterMap_congr_mem fun x _ => afterDeadlines_cons hnew x
    rw [List.foldl_cons]
    cases hr : e.running with
    | true =>
      rw [passDeadline_running hr] at *
      have hmiss : ((e :: l).filter fun e => !e.running) = l.filter fun e => !e.running := by simp [hr]
      refine ⟨hnow, ?_, htimer, by rw [hmiss]; exact hrec, by rw [hmiss]; exact halarm⟩
      rw [hqueue, hmiss, hcons]
      simp only [hr, if_true, State.setEntries, State.setQueue_queue, changeEntry_eq_filterMap]
      rfl
    | false =>
      rw [passDeadline_waiting hr hcls] at *
      have hmiss : ((e :: l).filter fun e => !e.running) = e :: l.filter fun e => !e.running := by simp [hr]
      have hnone : ((l.filter fun e => !e.running).find? fun x => decide (x.face = e.face)) = none := by
        refine List.find?_eq_none.mpr fun x hx => ?_
        simpa using hnew x (List.mem_filter.mp hx).1
      refine ⟨hnow, ?_, htimer, fun f => ?_, ?_⟩
      · rw [hqueue, hmiss, hcons]
        simp only [hr, dropEntry_eq_filterMap, Bool.false_eq_true, if_false, getLast_or_cons (r := s.queue.lastRemoval)]
        rfl
      · rw [hrec f, hmiss, List.find?_cons]
        by_cases hf : e.face = f
        · subst hf
          simp [hnone, raisePrewetMissed]
        · simp only [hf, decide_false]
          have : (raisePrewetMissed (changeRecord e.face (fun r => { r with lastPrewet := some (.missed, e.deadline.getD 0) })
            (s.setQueue
            { s.queue with
              entries := dropEntry e.face e.cls s.queue.entries, lastRemoval := some (missedRemoval s.sec e) }))).face.records.get f
              = s.face.records.get f := by
            simp [raisePrewetMissed, Ne.symm hf]
          rw [this]
      · rw [halarm, hmiss]
        rfl

theorem deadlineDue_eq (sec : Nat) (e : Entry) :
    e.deadlineDue sec =
      (decide (e.cls = .prewet) && !e.reached && e.deadline.any fun d => decide (d ≤ sec)) := by
  unfold Entry.deadlineDue
  cases e.deadline <;> rfl

/-- The deadlines that local time has reached are those of different faces. -/
theorem due_faces_nodup {es : List Entry} (h : entriesInv es) (sec : Nat) :
    ((es.filter (Entry.deadlineDue sec)).map Entry.face).Nodup := by
  have hcls : ∀ e ∈ es.filter (Entry.deadlineDue sec), e.cls = .prewet := fun e he => by
    have := (List.mem_filter.mp he).2
    simp only [deadlineDue_eq, Bool.and_eq_true, decide_eq_true_eq] at this
    exact this.1.1
  have hnd := h.2.1.sublist (List.filter_sublist (p := Entry.deadlineDue sec).map _)
  refine List.pairwise_map.2 ((List.pairwise_map.1 hnd).imp_of_mem fun ha hb hne hf => hne ?_)
  exact Prod.ext hf ((hcls _ ha).trans (hcls _ hb).symm)

/-- What the due deadlines make of an entry of the queue. -/
theorem afterDeadlines_due {es : List Entry} (h : entriesInv es) {sec : Nat} {x : Entry} (hx : x ∈ es) :
    afterDeadlines (es.filter (Entry.deadlineDue sec)) x =
      if x.deadlineDue sec then (if x.running then some { x with reached := true } else none) else some x := by
  unfold afterDeadlines
  cases hf : findEntry x.face x.cls (es.filter (Entry.deadlineDue sec)) with
  | some y =>
    obtain ⟨hy, hface, hcls⟩ := findEntry_some hf
    obtain ⟨hym, hyd⟩ := List.mem_filter.mp hy
    rw [entry_unique h hym hx hface hcls] at hyd ⊢
    rw [if_pos hyd]
  | none =>
    have hno : ¬ x.deadlineDue sec = true := fun hd =>
      List.find?_eq_none.mp hf x (List.mem_filter.mpr ⟨hx, hd⟩) x.isOf_self
    rw [if_neg hno]

theorem removal_or (sec : Nat) (o : Option Entry) (r : Option Removal) :
    (o.map (missedRemoval sec)).or r = match o with | some e => some (missedRemoval sec e) | none => r := by
  cases o <;> rfl

theorem passDeadlines_passed {s : State} (h : queueInv s.queue) :
    DeadlinesPassed (s.queue.entries.filter (Entry.deadlineDue s.sec)) s (passDeadlines s) := by
  refine passDeadline_fold _ (fun e he => ?_) (due_faces_nodup ((queueInv_iff _).mp h).1 s.sec) s
  have := (List.mem_filter.mp he).2
  simp only [deadlineDue_eq, Bool.and_eq_true, decide_eq_true_eq] at this
  exact this.1.1

/-! ### The end of a fault hold (R66) -/

/-- A selection takes the cannon neither to FAULT nor out of it, and touches no other condition. -/
theorem trySelection_conditions (s : State) : (trySelection s).conditions = s.conditions := by
  have honly := trySelection_only s
  refine (trySelection_reports s).conditions ?_ (honly .station (by decide)) (honly .account (by decide))
    (honly .wind (by decide)) (honly .forecast (by decide))
  by_cases hf : s.cannon.state = .fault
  · rw [trySelection_of_state (by rw [hf]; exact ⟨nofun, nofun, nofun, nofun⟩)]
  · rcases (trySelection_keeps s).state with h | h | h | h <;> simp [h, hf]

/-- `requestTried` speaks of the cannon, the queue and the claim alone. -/
theorem requestTried_congr {s t t' : State} (h : requestTried s t) (hc : t'.cannon = t.cannon) (hq : t'.queue = t.queue)
    (hcl : t'.claim = t.claim) : requestTried s t' := by
  refine ⟨fun e hr ha hl he => chainFormed_congr (h.1 e hr ha hl he) rfl rfl hq hc, fun hn => ?_⟩
  rw [hc, hq, hcl]
  exact h.2 hn

/-- Settles O13, by the fold of the due deadlines and by `trySelection_tried`. -/
theorem queueMoments : Obligations.QueueMoments := by
  unfold Obligations.QueueMoments
  intro s hs hm
  refine ⟨fun hq => ?_, fun f due hhold hdue => ?_⟩
  · have he := ((queueInv_iff _).mp hq).1
    have hp := passDeadlines_passed hq
    have honly := passDeadlines_only s
    have hexec : exec .deadline s = .next (syncAlarms (passDeadlines s)) := by
      refine exec_quiet hs hm rfl (congrArg Line.left (honly .line (by decide))) ?_
      have hcannon : (passDeadlines s).cannon = s.cannon := honly .cannon (by decide)
      have hlock : (passDeadlines s).lockout = s.lockout := honly .lockout (by decide)
      have hdust : (passDeadlines s).dust = s.dust := honly .dust (by decide)
      simp only [State.reportedItems, State.locked, hcannon, hlock, hdust, prewet_classes (passDeadlines_prewet s)]
    have hcond : (passDeadlines s).conditions = s.conditions :=
      (SameReports.of_only honly).conditions (by rw [show (passDeadlines s).cannon = s.cannon from honly .cannon (by decide)])
        (honly .station (by decide)) (honly .account (by decide)) (honly .wind (by decide)) (honly .forecast (by decide))
    have hmissed : ((s.queue.entries.filter (Entry.deadlineDue s.sec)).filter fun e => !e.running) =
        s.queue.entries.filter fun e =>
          (decide (e.cls = .prewet) && !e.reached && e.deadline.any fun d => decide (d ≤ s.sec)) && !e.running := by
      rw [List.filter_filter]
      refine List.filter_congr fun e _ => ?_
      rw [deadlineDue_eq, Bool.and_comm]
    refine ⟨_, hexec, ⟨?_, hp.timer, fun f => ?_, ?_, fun hnone => ?_⟩,
      only_trans (only_mono honly (by decide)) (only_mono (syncAlarms_only _) (by decide)), fun i hi => ?_⟩
    · show (passDeadlines s).queue = _
      rw [hp.queue, hmissed]
      refine congr (congrArg (fun es r => ({ s.queue with entries := es, lastRemoval := r } : SprayQueue)) ?_) ?_
      · refine filterMap_congr_mem fun e hmem => ?_
        rw [afterDeadlines_due he hmem, deadlineDue_eq]
      · exact removal_or _ _ _
    · show (passDeadlines s).face.records.get f = _
      rw [hp.records, hmissed] <;> rfl
    · show ((syncAlarms (passDeadlines s)).alarms.flags.get .prewetMissed) = _
      rw [← closeArrival_alarms s, closeArrival_event s _ rfl, hp.alarms, hmissed]
      rfl
    · have halarms : (passDeadlines s).alarms = s.alarms := by
        rw [hp.alarms, hmissed, hnone]
        rfl
      rw [syncAlarms_same (hs.1 hm) halarms hcond (relaySet_of_station (honly .station (by decide)))]
      exact halarms
    · refine syncAlarms_flag_same (hs.1 hm) ?_ (congrArg (PerFlag.get · i) hcond)
      rw [hp.alarms]
      cases i <;> first | rfl | exact absurd (List.mem_singleton.mpr rfl) hi
  · let u := s.setQueue { s.queue with holds := s.queue.holds.set f .stopped }
    have heff : effectOf (.faultHoldExpiry f) s = trySelection u := by
      show takeFaultHold f s = _
      unfold takeFaultHold
      rw [hhold, isDue_running hdue]
      rfl
    have honly : onlyChanges [.queue, .cannon, .claim, .line, .free] s (trySelection u) :=
      only_trans (only_mono (setQueue_only s _) (by decide)) (trySelection_only u)
    refine ⟨_, exec_eq hm heff, fun g => ?_, fun hrun => ?_, fun h => ?_, close_only (only_mono honly (by decide)), fun i _ => ?_⟩
    · rw [closeArrival_queue, (trySelection_keeps u).holds]
      exact PerFace.get_set _ _ _ _
    · exact requestTried_congr (trySelection_tried (s := u) hrun) (closeArrival_cannon s _) (closeArrival_queue s _)
        (closeArrival_claim s _)
    · have hsame : trySelection u = u := by
        rcases h with h | h
        · exact trySelection_of_closed h
        · exact trySelection_of_not fun ht => h ht.run
      have hclose : closeArrival s (trySelection u) = u := by
        rw [hsame]
        exact closeArrival_same (syncAlarms_same (hs.1 hm) rfl rfl rfl) hs.2 rfl
      rw [hclose]
      exact ⟨setQueue_only s _, rfl, rfl, rfl, rfl⟩
    · exact closeArrival_flag (hs.1 hm) (congrArg (fun a : Alarms => a.flags.get i) (honly .alarms (by decide)))
        (congrArg (PerFlag.get · i) (trySelection_conditions u))

end Sys2Proof.Machine
end


section
/-! PROOFS. A litre: its charge to the face and to the account, its count in the chain, and the ends that it may bring
(O19, O20). -/

namespace Sys2Proof.Machine

/-! ### The charge (R22, R81, R110) -/

/-- The state once the litre is charged to the face and to the account, before the chain counts it. -/
def litreCharged (s : State) : State := chargeAccount s.cannon.knockdownChain (chargeFaceLitre s)

theorem litreCharged_only (s : State) : onlyChanges [.face, .account] s (litreCharged s) :=
  only_trans (only_mono (chargeFaceLitre_only s) (by decide)) (only_mono (setAccount_only _ _) (by decide))

theorem takeFlowPulse_eq {s : State} (h : s.operational = true) :
    takeFlowPulse s = gatingEffects s.gate (chargeChain (litreCharged s)) := if_pos h

theorem litreCharged_account (s : State) :
    (litreCharged s).account =
      { s.account with today := s.account.today.charge s.claim.supply.source s.cannon.knockdownChain } := by
  have h := chargeFaceLitre_only s
  have ha : (chargeFaceLitre s).account = s.account := h .account (by decide)
  have hc : (chargeFaceLitre s).claim = s.claim := h .claim (by decide)
  simp only [litreCharged, chargeAccount, State.setAccount_account, ha, hc]

theorem litreCharged_record {s : State} {f : FaceId} {r : FaceRecord} (h : s.face.records.get f = some r) :
    (litreCharged s).face.records.get f =
      some
        (if s.cannon.chargeFace = some f then
          { r with pendingSpray := min 65535 (r.pendingSpray + 1), sprayed := min 4294967295 (r.sprayed + 1) }
        else r) := by
  show (chargeFaceLitre s).face.records.get f = _
  unfold chargeFaceLitre
  cases hc : s.cannon.chargeFace with
  | none => simpa using h
  | some g =>
    rw [changeRecord_get]
    by_cases hfg : f = g
    · subst hfg
      rw [if_pos rfl, if_pos rfl, h]
      rfl
    · rw [if_neg hfg, if_neg (by simpa using Ne.symm hfg)]
      exact h

theorem knockdownChain_iff (c : Cannon) : c.knockdownChain = true ↔ ∃ ch, c.chain = some ch ∧ ch.cls = .knockdown := by
  unfold Cannon.knockdownChain
  cases c.chain <;> simp

/-- A FRESH litre in today's record. -/
theorem charge_fresh (k : Bool) (r : DayRecord) :
    r.charge .fresh k =
      { r with
        fresh := min 4294967295 (r.fresh + 1)
        knockdown :=
          if k = true ∨ r.allowance ≤ r.fresh then min 4294967295 (r.knockdown + 1) else r.knockdown } := by
  simp only [DayRecord.charge, satAdd, maxU32, Bool.or_eq_true, decide_eq_true_eq]

/-- What the chain and the gating do with a litre leaves the account alone. -/
theorem takeFlowPulse_account {s : State} (h : s.operational = true) :
    (takeFlowPulse s).account = (litreCharged s).account := by
  rw [takeFlowPulse_eq h]
  exact ((gatingEffects_only _ _) .account (by decide)).trans (chargeChain_only _ .account (by decide))

/-- Settles O19. -/
theorem litreIsCharged : Obligations.LitreIsCharged := by
  unfold Obligations.LitreIsCharged
  intro s hs
  refine ⟨fun h => ?_, fun h => ?_⟩
  · by_cases hm : s.station.mode = .start
    · exact exec_start (c := .flowPulse) nofun hm
    · refine exec_of_same hs hm (t := s) ?_ rfl rfl rfl rfl rfl
      exact if_neg (by simp [h])
  · have hm := operational_ne_start h
    have haccount := takeFlowPulse_account h
    rw [litreCharged_account] at haccount
    refine ⟨_, exec_eq hm rfl, fun hsrc => ?_, fun hsrc => ?_, fun f r hr => ?_,
      close_only (only_mono (takeFlowPulse_only s) (by decide))⟩
    · rw [closeArrival_account]
      refine haccount.trans ?_
      rw [hsrc]
      rfl
    · have hacc : (closeArrival s (effectOf .flowPulse s)).account =
          { s.account with today := s.account.today.charge .fresh s.cannon.knockdownChain } := by
        rw [closeArrival_account, ← hsrc]
        exact haccount
      rw [hacc, charge_fresh]
      simp only [knockdownChain_iff]
      refine ⟨trivial, fun hp => if_pos hp.symm, fun hn => if_neg fun hp => hn hp.symm, ?_⟩
      exact ⟨trivial, trivial, trivial, trivial, trivial, trivial⟩
    · rw [closeArrival_face]
      have hpre : prewetOnly (litreCharged s) (effectOf .flowPulse s) := by
        show prewetOnly _ (takeFlowPulse s)
        rw [takeFlowPulse_eq h]
        exact prewet_trans (chargeChain_prewet _) (gatingEffects_prewet _ _)
      rcases hpre.2 f with ⟨-, hnone⟩ | ⟨q, p, hq, ht⟩
      · rw [litreCharged_record hr] at hnone
        cases hnone
      · rw [litreCharged_record hr, Option.some.injEq] at hq
        refine ⟨p, ht.trans ?_⟩
        rw [← hq]
        split <;> rfl

/-! ### The gating after the litre (R97) -/

theorem gate_congr {s t : State} (hc : t.claim.supply = s.claim.supply) (ha : t.account = s.account)
    (hst : t.station = s.station) : t.gate = s.gate := by
  have hcfg : t.cfg = s.cfg := by simp only [State.cfg, hst]
  unfold State.gate
  rw [hc, ha, hcfg]

/-- The class gating does not change with a litre. -/
def gateStands (s : State) : Prop :=
  s.claim.supply.source = .reuse ∨ s.account.today.fresh + 1 < s.account.today.allowance
    ∨ s.account.today.allowance ≤ s.account.today.fresh

theorem litreCharged_gate {s : State} (hall : s.account.today.allowance ≤ 4294967295) :
    (gateStands s → (litreCharged s).gate = s.gate)
      ∧ (¬ gateStands s → (litreCharged s).gate = .knockdownOnly ∧ s.gate = .suppressUp
          ∧ (litreCharged s).freshExhausted = true) := by
  have honly := litreCharged_only s
  have hclaim : (litreCharged s).claim = s.claim := honly .claim (by decide)
  have hst : (litreCharged s).station = s.station := honly .station (by decide)
  cases hsrc : s.claim.supply.source with
  | reuse =>
    refine ⟨fun _ => ?_, fun h => absurd (.inl hsrc) h⟩
    have hcfg : (litreCharged s).cfg = s.cfg := by simp only [State.cfg, hst]
    unfold State.gate
    rw [hclaim, hcfg, hsrc]
  | fresh =>
    have hacc := litreCharged_account s
    rw [hsrc, charge_fresh] at hacc
    simp only [State.gate, State.freshExhausted, hclaim, hsrc, hacc, gateStands, reduceCtorEq, false_or]
    refine ⟨fun h => ?_, fun h => ?_⟩
    · rcases h with h | h
      · rw [if_pos (by omega), if_pos (by omega)]
      · rw [if_neg (by omega), if_neg (by omega)]
    · rw [if_neg (by omega), if_pos (by omega)]
      exact ⟨rfl, rfl, by simp; omega⟩

theorem gatingEffects_of_same {g : Gate} {s : State} (h : s.gate = g) : gatingEffects g s = s := if_pos h

theorem gatingEffects_of_chain {g : Gate} {s : State} {ch : Chain} (h : s.gate ≠ g) (hc : s.cannon.chain = some ch) :
    gatingEffects g s = if s.gate.allows ch.cls then s else chainEnd .source s := by
  refine (if_neg h).trans ?_
  simp only [trySelection_of_chain hc, hc]

/-! ### The litre in the chain (R60, R81) -/

/-- The state in which the chain has counted its litre. -/
def litreCounted (ch : Chain) (s : State) : State :=
  (chargeEntry ch s).onCannon fun c => { c.restartWatch s.now s.cfg.noFlowTime with chain := some ch.addLitre }

theorem chargeChain_eq {s : State} {ch : Chain} (hc : s.cannon.chain = some ch)
    (hst : s.cannon.state = .slewing ∨ s.cannon.state = .claiming ∨ s.cannon.state = .spraying) :
    chargeChain s =
      if ch.volume ≤ ch.segment + 1 then completeSegment ch.addLitre (litreCounted ch s) else litreCounted ch s := by
  have hcharge : s.cannon.chargesChain = true := by
    simpa [Cannon.chargesChain, or_assoc] using hst
  unfold chargeChain
  rw [hc]
  exact if_pos hcharge

theorem chargeEntry_rotation (ch : Chain) (s : State) : (chargeEntry ch s).queue.rotation = s.queue.rotation := by
  unfold chargeEntry
  split
  · split
    · exact removeEntry_rotation _ _ s
    · rfl
  · rfl

theorem chargeEntry_entries {ch : Chain} {s : State} (hq : entriesInv s.queue.entries) :
    (chargeEntry ch s).queue.entries =
      s.queue.entries.filterMap fun e =>
        if e.face = ch.face ∧ e.cls = ch.cls ∧ e.running = true then
          if e.requested ≤ e.delivered + 1 then none else some { e with delivered := e.delivered + 1 }
        else some e := by
  unfold chargeEntry
  cases hr : runningEntry ch.face ch.cls s.queue.entries with
  | none =>
    refine (List.filterMap_some.symm.trans (filterMap_congr_mem fun e he => (if_neg fun ⟨hf, hc, hrun⟩ => ?_).symm))
    have := List.find?_eq_none.mp hr e he
    simp [Entry.isOf, hf, hc, hrun] at this
  | some e =>
    obtain ⟨he, hf, hc, hrun⟩ := runningEntry_some hr
    have hone (x : Entry) (hx : x ∈ s.queue.entries) :
        (x.face = ch.face ∧ x.cls = ch.cls ∧ x.running = true ↔ x.isOf ch.face ch.cls = true)
          ∧ (x.isOf ch.face ch.cls = true → x = e) := by
      have huniq (h : x.isOf ch.face ch.cls = true) : x = e := by
        obtain ⟨hxf, hxc⟩ := Entry.isOf_iff.mp h
        exact entry_unique hq hx he (hxf.trans hf.symm) (hxc.trans hc.symm)
      refine ⟨⟨fun h => Entry.isOf_iff.mpr ⟨h.1, h.2.1⟩, fun h => ?_⟩, huniq⟩
      rw [huniq h]
      exact ⟨hf, hc, hrun⟩
    simp only
    by_cases hfull : e.requested ≤ e.delivered + 1
    · rw [if_pos hfull, removeEntry_queue]
      show dropEntry e.face e.cls _ = _
      rw [hf, hc, dropEntry_eq_filterMap]
      refine filterMap_congr_mem fun x hx => ?_
      obtain ⟨hiff, heq⟩ := hone x hx
      by_cases hof : x.isOf ch.face ch.cls = true
      · rw [if_pos hof, if_pos (hiff.mpr hof), heq hof, if_pos hfull]
      · rw [if_neg hof, if_neg fun h => hof (hiff.mp h)]
    · rw [if_neg hfull]
      show changeEntry ch.face ch.cls _ _ = _
      rw [changeEntry_eq_filterMap]
      refine filterMap_congr_mem fun x hx => ?_
      obtain ⟨hiff, heq⟩ := hone x hx
      by_cases hof : x.isOf ch.face ch.cls = true
      · rw [if_pos hof, if_pos (hiff.mpr hof), heq hof, if_neg hfull]
      · rw [if_neg hof, if_neg fun h => hof (hiff.mp h)]

theorem restartWatch_keeps (now n : Nat) (c : Cannon) :
    c.restartWatch now n = { c with noFlow := (c.restartWatch now n).noFlow } := by
  unfold Cannon.restartWatch
  split <;> rfl

/-- The cannon once the litre is counted. -/
theorem litreCounted_cannon (ch : Chain) (s : State) :
    ∃ w : Timer, (litreCounted ch s).cannon = { s.cannon with noFlow := w, chain := some ch.addLitre } := by
  have hc : (chargeEntry ch s).cannon = s.cannon := chargeEntry_only ch s .cannon (by decide)
  refine ⟨(s.cannon.restartWatch s.now s.cfg.noFlowTime).noFlow, ?_⟩
  simp only [litreCounted, State.onCannon, State.setCannon_cannon, hc]
  rw [restartWatch_keeps]

theorem litreCounted_only (ch : Chain) (s : State) :
    onlyChanges [.queue, .face, .alarms, .cannon] s (litreCounted ch s) :=
  only_trans (only_mono (chargeEntry_only ch s) (by decide)) (only_mono (onCannon_only _ _) (by decide))

/-- A chain's end outside NO_FLOW leaves the count of the NO_FLOW stops (R85). -/
theorem afterChain_count {c : Cause} (h : c ≠ .noFlow) (ch : Chain) (s : State) :
    (afterChain c ch s).cannon.noFlowCount = s.cannon.noFlowCount := by
  unfold afterChain
  split
  · split
    · rfl
    · split <;> rfl
    · rfl
    · rfl
    · rfl
  · rfl
  · exact absurd rfl h
  · rfl
  · split
    · rfl
    · rfl
    · split <;> rfl

theorem chainEnd_count {c : Cause} (h : c ≠ .noFlow) {ch : Chain} {s : State} (hc : s.cannon.chain = some ch) :
    (chainEnd c s).cannon.noFlowCount = s.cannon.noFlowCount := by
  rw [chainEnd_eq hc, (trySelection_keeps _).count, chainOver_cannon, afterChain_count h, chainGone_count]

/-- A running timer pauses, and one that does not run is as it was. -/
theorem pause_eq (now : Nat) (t : Timer) :
    t.pause now =
      match t with
      | .running d => .paused (d - now)
      | w => w := by
  cases t <;> rfl

/-! ### The litre that fills the segment (R82) -/

/-- The chain at its next segment. -/
def Chain.nextSegment (ch : Chain) : Chain :=
  { ch with segment := 0, litres := ch.litres + 1, index := ch.index + 1, completed := ch.completed + 1 }

/-- The chain with its last segment completed. -/
def Chain.lastSegment (ch : Chain) : Chain :=
  { ch.addLitre with completed := ch.completed + 1 }

/-- The cannon as a segment ends: it stands, and a sweep leg waits. -/
def segmentEnded (ch : Chain) (s : State) : State :=
  s.onCannon fun c => { c.haltSegment s.now with noFlowCount := 0, chain := some ch.nextSegment }

theorem completeSegment_more {ch : Chain} {s : State} (h : ch.index < ch.planned) :
    completeSegment ch.addLitre s = enterClaiming ch.nextSegment (releaseClaim (segmentEnded ch s)) := if_pos h

theorem completeSegment_last {ch : Chain} {s : State} (h : ch.planned ≤ ch.index) :
    completeSegment ch.addLitre s =
      chainEnd .complete (s.onCannon fun c => { c with noFlowCount := 0, chain := some ch.lastSegment }) :=
  if_neg (Nat.not_lt.mpr h)

/-- The slew timer of a leg that waits, waits on. -/
theorem waitLeg_idem (now : Nat) (c : Cannon) :
    (c.haltSegment now).waitLeg now = if c.state = .slewing then .stopped else c.slew.pause now := by
  unfold Cannon.haltSegment Cannon.waitLeg Cannon.halt
  by_cases h : c.state = .slewing
  · simp [h]
  · simp only [if_neg h]
    cases c.slew <;> rfl

/-- The cannon at the next segment's claim. -/
theorem nextSegment_cannon (ch : Chain) (s : State) :
    (enterClaiming ch.nextSegment (releaseClaim (segmentEnded ch s))).cannon =
      { s.cannon.halt with
        state := .claiming, noFlowCount := 0, chain := some ch.nextSegment
        slew := if s.cannon.state = .slewing then .stopped else s.cannon.slew.pause s.now } := by
  have hnow : (releaseClaim (segmentEnded ch s)).now = s.now := releaseClaim_only _ .now (by decide)
  rw [enterClaiming_cannon, releaseClaim_cannon, hnow]
  have hw := waitLeg_idem s.now s.cannon
  unfold Cannon.waitLeg at hw
  rw [← hw]
  rfl

/-- A chain's end, seen from the state in which the arrival began. -/
theorem endedBy_close {c : Cause} {ch : Chain} {s0 s t u : State} (h : endedBy c ch u t) (hn : u.now = s.now)
    (hl : u.cannon.log = s.cannon.log) (hser : u.cannon.nextSerial = s.cannon.nextSerial)
    (hr : u.queue.rotation = s.queue.rotation) : endedBy c ch s (closeArrival s0 t) :=
  endedBy_congr h hn.symm hl.symm hser.symm hr.symm (by rw [closeArrival_cannon]) (by rw [closeArrival_cannon])
    (by rw [closeArrival_queue])

/-- Settles O20: the gating stands or falls with the litre, and the segment fills with it or not. -/
theorem litreOfTheChain : Obligations.LitreOfTheChain := by
  unfold Obligations.LitreOfTheChain
  intro ch s hop hch hq hst hall stands charged
  have hm := operational_ne_start hop
  let v := litreCharged s
  let w := litreCounted ch v
  have hv := litreCharged_only s
  have hvc : v.cannon = s.cannon := hv .cannon (by decide)
  have hvq : v.queue = s.queue := hv .queue (by decide)
  have hvn : v.now = s.now := hv .now (by decide)
  have hvcl : v.claim = s.claim := hv .claim (by decide)
  have hw := litreCounted_only ch v
  obtain ⟨watch, hwc⟩ := litreCounted_cannon ch v
  have hwchain : w.cannon.chain = some ch.addLitre := by rw [hwc]
  have hwn : w.now = s.now := (hw .now (by decide)).trans hvn
  have hwrot : w.queue.rotation = s.queue.rotation := (chargeEntry_rotation ch v).trans (by rw [hvq])
  have hchain : chargeChain v =
      if ch.volume ≤ ch.segment + 1 then completeSegment ch.addLitre w else w :=
    chargeChain_eq (by rw [hvc]; exact hch) (by rw [hvc]; exact hst)
  have heff : effectOf .flowPulse s = gatingEffects s.gate (chargeChain v) := takeFlowPulse_eq hop
  have hgate : (chargeChain v).gate = v.gate :=
    gate_congr (chargeChain_reports v).supply (chargeChain_only v .account (by decide))
      (chargeChain_only v .station (by decide))
  obtain ⟨hsame, hfalls⟩ := litreCharged_gate (s := s) hall
  have hquiet (h : stands) : effectOf .flowPulse s = chargeChain v :=
    heff.trans (gatingEffects_of_same (hgate.trans (hsame h)))
  have hshort (h : ch.segment + 1 < ch.volume) : chargeChain v = w := hchain.trans (if_neg (Nat.not_le.mpr h))
  have hfull (h : ch.volume ≤ ch.segment + 1) : chargeChain v = completeSegment ch.addLitre w :=
    hchain.trans (if_pos h)
  have hfallen (h : ¬ stands) (hs : ch.segment + 1 < ch.volume) :
      effectOf .flowPulse s = if Gate.knockdownOnly.allows ch.cls then w else chainEnd .source w := by
    obtain ⟨hg, hg', -⟩ := hfalls h
    rw [hshort hs] at heff hgate
    have hne : w.gate ≠ s.gate := by
      rw [hgate, hg, hg']
      exact nofun
    rw [heff, gatingEffects_of_chain hne hwchain, hgate, hg]
    rfl
  refine ⟨_, exec_eq hm rfl, fun h => ?_, fun h hs hcls => ?_, fun h hs => ?_, fun h hvol hidx => ?_, fun h hvol hidx => ?_⟩
  · refine (closeArrival_cond s _ (i := .freshExhausted) rfl).trans ?_
    have hsup : (effectOf .flowPulse s).claim.supply = v.claim.supply := by
      rw [heff]
      exact ((gatingEffects_reports _ _).supply).trans (chargeChain_reports v).supply
    have hacc : (effectOf .flowPulse s).account = v.account := takeFlowPulse_account hop
    show State.freshExhausted _ = true
    unfold State.freshExhausted
    rw [hsup, hacc]
    exact (hfalls h).2.2
  · have hend : effectOf .flowPulse s = chainEnd .source w :=
      (hfallen h hs).trans (if_neg (by simp [Gate.allows, hcls]))
    rw [hend]
    exact ⟨endedBy_close (chainEnd_endedBy hwchain) hwn (by rw [hwc, hvc]) (by rw [hwc, hvc]) hwrot,
      by rw [closeArrival_cannon, chainEnd_valve hwchain]⟩
  · have hdone : effectOf .flowPulse s = w := by
      rcases h with h | h
      · exact (hquiet h).trans (hshort hs)
      · by_cases hstands : stands
        · exact (hquiet hstands).trans (hshort hs)
        · exact (hfallen hstands hs).trans (if_pos (by rw [h]; rfl))
    rw [hdone, closeArrival_cannon, closeArrival_claim, closeArrival_queue]
    refine ⟨by rw [hwc, hvc], (hw .claim (by decide)).trans hvcl, hwchain, ?_⟩
    refine (chargeEntry_entries (ch := ch) (s := v) (by rw [hvq]; exact ((queueInv_iff _).mp hq).1)).trans ?_
    rw [hvq]
  · have hdone : effectOf .flowPulse s = enterClaiming ch.nextSegment (releaseClaim (segmentEnded ch w)) :=
      (hquiet h).trans ((hfull hvol).trans (completeSegment_more hidx))
    rw [hdone, closeArrival_cannon, closeArrival_claim, nextSegment_cannon, hwc, hvc, hwn]
    refine ⟨rfl, rfl, rfl, rfl, rfl, ?_, rfl, ?_⟩
    · show (if _ then _ else s.cannon.slew.pause s.now) = _
      rw [pause_eq] <;> rfl
    · have hnone : (releaseClaim (segmentEnded ch w)).claim.own.state = .none := releaseClaim_state _
      cases hcut : (releaseClaim (segmentEnded ch w)).cutOut with
      | true =>
        rw [enterClaiming_of_cutOut hcut]
        exact .inl hnone
      | false =>
        rw [enterClaiming_of_calm hcut]
        exact (askClaim_state _ _ _).symm.imp_left fun h => h.trans hnone
  · let z := w.onCannon fun c => { c with noFlowCount := 0, chain := some ch.lastSegment }
    have hz : z.cannon.chain = some ch.lastSegment := rfl
    have hdone : effectOf .flowPulse s = chainEnd .complete z :=
      (hquiet h).trans ((hfull hvol).trans (completeSegment_last hidx))
    rw [hdone, closeArrival_cannon]
    refine ⟨(chainEnd_count (c := .complete) nofun hz).trans rfl, ?_⟩
    have hended : endedBy .complete ch.lastSegment s (closeArrival s (chainEnd .complete z)) :=
      endedBy_close (chainEnd_endedBy hz) hwn (by show w.cannon.log = _; rw [hwc, hvc])
        (by show w.cannon.nextSerial = _; rw [hwc, hvc]) hwrot
    exact hended

end Sys2Proof.Machine
end


section
/-! PROOFS. The decision on the own claim, what the transmit queue makes of an offer, and the pressure backstop (O21, O22,
O23, O24). -/

namespace Sys2Proof.Machine

/-! ### The decision (R102, R104; O21) -/

theorem flowOf_mono (c : Configuration) {a b : Nat} (h : a ≤ b) : flowOf c a ≤ flowOf c b :=
  Nat.div_le_div_right (Nat.mul_le_mul_left _ h)

/-- What an on-time of a decision on a room is held to. -/
structure Fits (c : Configuration) (room : Int) (d : Decision) (t : Nat) : Prop where
  flow : d.qg = flowOf c t
  room : Int.ofNat (flowOf c t) ≤ room
  least : c.tOnMin ≤ t
  most : t ≤ c.tOn

section Fit

variable {c : Configuration} {room : Int}

/-- The greatest on-time of a room fits it. -/
theorem flowOf_room (r : Nat) : flowOf c (r * c.period / c.nozzle) ≤ r := by
  refine Nat.div_le_of_le_mul ?_
  rw [Nat.mul_comm c.period r]
  exact Nat.mul_div_le _ _

/-- A room below the full flow gives less than the full on-time. -/
theorem roomTime_lt (hp : 0 < c.period) {r : Nat} (h : r < flowOf c c.tOn) : r * c.period / c.nozzle < c.tOn := by
  refine Nat.div_lt_of_lt_mul ?_
  have h1 : r + 1 ≤ c.nozzle * c.tOn / c.period := h
  rw [Nat.le_div_iff_mul_le hp, Nat.add_mul] at h1
  omega

variable (hmin : c.tOnMin ≤ c.tOn)
include hmin

theorem decideClaim_fits (hp : 0 < c.period) {t : Nat} (h : (decideClaim c room).tHeld = some t) :
    Fits c room (decideClaim c room) t
      ∧ (decideClaim c room).state =
        (if t = c.tOn ∧ Int.ofNat (flowOf c c.tOn) ≤ room then .granted else .throttled) := by
  by_cases hq : Int.ofNat (flowOf c c.tOn) ≤ room
  · rw [decideClaim_grants hq] at h ⊢
    cases h
    exact ⟨⟨rfl, hq, hmin, Nat.le_refl _⟩, (if_pos ⟨rfl, hq⟩).symm⟩
  by_cases hm : Int.ofNat (flowOf c c.tOnMin) ≤ room
  · rw [decideClaim_throttles hq hm] at h ⊢
    cases h
    refine ⟨⟨rfl, ?_, Nat.le_max_left _ _, Nat.max_le.2 ⟨hmin, ?_⟩⟩, (if_neg fun hx => hq hx.2).symm⟩
    · rw [Nat.max_def]
      split
      · have := flowOf_room (c := c) room.toNat
        simp only [Int.ofNat_eq_natCast] at hm ⊢
        omega
      · exact hm
    · have hlt : room.toNat < flowOf c c.tOn := by
        simp only [Int.ofNat_eq_natCast] at hq hm
        omega
      exact Nat.le_of_lt (roomTime_lt hp hlt)
  · rw [decideClaim_defers hq hm] at h
    cases h

theorem decideClaim_none : (decideClaim c room).tHeld = none ↔ room < Int.ofNat (flowOf c c.tOnMin) := by
  have hle : flowOf c c.tOnMin ≤ flowOf c c.tOn := flowOf_mono c hmin
  simp only [Int.ofNat_eq_natCast]
  by_cases hq : Int.ofNat (flowOf c c.tOn) ≤ room
  · rw [decideClaim_grants hq]
    simp only [Int.ofNat_eq_natCast, reduceCtorEq, false_iff] at hq ⊢
    omega
  by_cases hm : Int.ofNat (flowOf c c.tOnMin) ≤ room
  · rw [decideClaim_throttles hq hm]
    simpa using hm
  · rw [decideClaim_defers hq hm]
    simpa using hm

end Fit

theorem limit_none (c : Configuration) (d : Decision) : d.limit c none = d := rfl

theorem limit_some {c : Configuration} {d : Decision} {top t : Nat} (h : d.tHeld = some t) :
    d.limit c (some top) = { state := .throttled, tHeld := some (min t top), qg := flowOf c (min t top) } := by
  unfold Decision.limit
  rw [h]

theorem limit_of_deferred {c : Configuration} {d : Decision} (ceiling : Option Nat) (h : d.tHeld = none) :
    d.limit c ceiling = d := by
  unfold Decision.limit
  rw [h]
  cases ceiling <;> rfl

/-- Settles O21, by the fit of `decideClaim` and the two forms of the ceiling. -/
theorem grantFitsHeader : Obligations.GrantFitsHeader := by
  unfold Obligations.GrantFitsHeader
  intro s _ hp hmin hceil
  have hroom (q : Nat) (h : Int.ofNat q ≤ s.room) : q + s.flowAbove ≤ s.capacityInUse := by
    simp only [State.room, Int.ofNat_eq_natCast] at h
    omega
  refine ⟨fun onTime ht => ?_, ?_⟩
  · unfold State.decision at ht ⊢
    cases hc : s.claim.own.ceiling with
    | none =>
      rw [hc, limit_none] at ht
      obtain ⟨⟨hflow, hfit, hleast, hmost⟩, hstate⟩ := decideClaim_fits hmin hp ht
      rw [limit_none]
      exact ⟨hflow ▸ hroom _ hfit, hflow, hleast, hmost, nofun, fun _ => hstate⟩
    | some top =>
      rw [hc] at ht
      cases hd : (decideClaim s.cfg s.room).tHeld with
      | none =>
        rw [limit_of_deferred _ hd, hd] at ht
        cases ht
      | some t =>
        obtain ⟨⟨-, hfit, hleast, hmost⟩, -⟩ := decideClaim_fits hmin hp hd
        rw [limit_some hd] at ht ⊢
        cases ht
        have hle : flowOf s.cfg (min t top) ≤ flowOf s.cfg t := flowOf_mono _ (Nat.min_le_left _ _)
        refine ⟨hroom _ ?_, rfl, Nat.le_min.2 ⟨hleast, hceil top hc⟩, Nat.le_trans (Nat.min_le_left _ _) hmost, fun _ h => ?_, nofun⟩
        · exact Int.le_trans (Int.ofNat_le.mpr hle) hfit
        · cases h
          exact ⟨Nat.min_le_right _ _, rfl⟩
  · refine Iff.trans ?_ (decideClaim_none (room := s.room) hmin)
    unfold State.decision
    cases hd : (decideClaim s.cfg s.room).tHeld with
    | none => rw [limit_of_deferred _ hd, hd]
    | some t =>
      cases hc : s.claim.own.ceiling with
      | none => rw [limit_none, hd]
      | some top =>
        rw [limit_some hd]
        simp

/-! ### The settle expiry and the entry into SPRAYING (O22) -/

/-- The own claim after a decision, announced or not. -/
theorem takeDecision_own (d : Decision) (s : State) :
    ∃ a r, (takeDecision d s).claim =
      { s.claim with
        own :=
          { s.claim.own with
            state := d.state, tHeld := d.tHeld, qg := d.qg, settle := .stopped, lastAnnounce := a, refresh := r } } := by
  unfold takeDecision
  simp only
  split
  · exact ⟨_, _, rfl⟩
  · rw [announceClaim_claim]
    exact ⟨_, _, rfl⟩

/-- The cannon as it begins to spray (R78, R80, R85). -/
def sprayStarted (t : Nat) (ch : Chain) (s : State) : Cannon :=
  { s.cannon.openValve s.now s.cfg.period t with
    state := .spraying
    chain := some { ch with valveOpened := true }
    drive := if (s.descOf ch.face).arcStart = (s.descOf ch.face).arcEnd then none else some ch.sweep
    slew :=
      if (s.descOf ch.face).arcStart = (s.descOf ch.face).arcEnd then .stopped
      else s.cannon.slew.startLeg s.now (s.cfg.slewTimeout * 1000)
    noFlow := .startAt s.now (s.cfg.noFlowTime * 1000) }

theorem enterSpraying_eq {t : Nat} {s : State} {ch : Chain} (hc : s.cannon.chain = some ch)
    (hst : s.cannon.state = .claiming) :
    enterSpraying t s =
      (s.setCannon (sprayStarted t ch s)).setClaim
        { s.claim with
          lowSince := if s.lowPressure then some s.now else none, stageAt := none, staged := false } := by
  unfold enterSpraying
  rw [hc, hst]
  by_cases hp : (s.descOf ch.face).arcStart = (s.descOf ch.face).arcEnd
  · simp only [pointArc, hp, decide_true, Bool.not_true, Bool.false_eq_true, if_false, sprayStarted, if_true]
    rfl
  · simp only [pointArc, hp, decide_false, Bool.not_false, if_true, sprayStarted, if_false]
    rfl

/-- A decision that holds flow takes a waiting cannon into SPRAYING (R77). -/
theorem settleDecision_of_held {d : Decision} {s : State} {ch : Chain} {t : Nat} (ht : d.tHeld = some t)
    (hc : s.cannon.chain = some ch) (hst : s.cannon.state = .claiming) :
    (settleDecision d s).cannon = sprayStarted t ch s
      ∧ (settleDecision d s).claim.own = (takeDecision d s).claim.own
      ∧ (settleDecision d s).claim.staged = false
      ∧ (settleDecision d s).queue = s.queue := by
  have honly := takeDecision_only d s
  have hcan : (takeDecision d s).cannon = s.cannon := honly .cannon (by decide)
  have hface : (takeDecision d s).face = s.face := honly .face (by decide)
  have hstn : (takeDecision d s).station = s.station := honly .station (by decide)
  have hnow : (takeDecision d s).now = s.now := honly .now (by decide)
  have hdesc : (takeDecision d s).descOf ch.face = s.descOf ch.face := by
    unfold State.descOf State.cfg
    rw [hface, hstn]
  have heq : settleDecision d s = enterSpraying t (takeDecision d s) := by
    unfold settleDecision
    rw [ht]
  rw [heq, enterSpraying_eq (by rw [hcan]; exact hc) (by rw [hcan]; exact hst)]
  refine ⟨?_, rfl, rfl, honly .queue (by decide)⟩
  show sprayStarted t ch (takeDecision d s) = _
  unfold sprayStarted State.cfg
  rw [hcan, hstn, hnow, hdesc]

theorem settleDecision_of_deferred {d : Decision} (h : d.tHeld = none) (s : State) :
    settleDecision d s = takeDecision d s := by
  unfold settleDecision
  rw [h]

theorem decision_of_unlimited {s : State} (h : s.claim.own.ceiling = none) : s.decision = decideClaim s.cfg s.room := by
  unfold State.decision
  rw [h, limit_none]

/-- Settles O22. -/
theorem settleDecides : Obligations.SettleDecides := by
  unfold Obligations.SettleDecides
  intro due ch s hs hrun htimer hdue hset hceil hst hch q qMin
  have hm : s.station.mode ≠ .start := by
    rw [hrun]
    exact nofun
  have heff : effectOf .settleExpiry s = settleDecision s.decision s := by
    show takeSettle s = _
    unfold takeSettle
    rw [htimer, isDue_running hdue]
    exact (if_pos rfl).trans (if_pos hset)
  have hd := decision_of_unlimited hceil
  obtain ⟨a, r, hown⟩ := takeDecision_own s.decision s
  have hclaim : (settleDecision s.decision s).claim.own = (takeDecision s.decision s).claim.own := by
    cases ht : s.decision.tHeld with
    | none => rw [settleDecision_of_deferred ht]
    | some t => exact (settleDecision_of_held ht hch hst).2.1
  rw [hown] at hclaim
  have hheld : (closeArrival s (settleDecision s.decision s)).claim.own.tHeld = s.decision.tHeld := by
    rw [closeArrival_claim, hclaim]
  refine ⟨_, exec_eq hm heff, ?_, ?_, ?_, ?_, fun hq => ?_, fun hq hmin => ?_, fun hq hmin => ?_, fun onTime ht => ?_, ?_⟩
  · rw [closeArrival_claim, hclaim]
  · rw [closeArrival_claim, hclaim]
  · rw [closeArrival_claim, hclaim]
  · rw [closeArrival_claim, hclaim]
  · rw [closeArrival_claim, hclaim, hd, decideClaim_grants hq]
    exact ⟨rfl, rfl, rfl⟩
  · rw [closeArrival_claim, hclaim, hd, decideClaim_throttles (Int.not_le.mpr hq) hmin]
    exact ⟨rfl, rfl, rfl⟩
  · have hdef : s.decision = { state := .deferred, tHeld := none, qg := 0 } := by
      rw [hd, decideClaim_defers (Int.not_le.mpr hq) (Int.not_le.mpr hmin)]
    rw [closeArrival_claim, closeArrival_cannon, hclaim, hdef, settleDecision_of_deferred rfl]
    exact ⟨rfl, rfl, rfl, takeDecision_only _ s .cannon (by decide)⟩
  · obtain ⟨hcannon, -, hstaged, -⟩ := settleDecision_of_held (hheld.symm.trans ht) hch hst
    rw [closeArrival_cannon, closeArrival_claim, hcannon]
    refine ⟨rfl, rfl, rfl, rfl, rfl, rfl, rfl, rfl, ?_, hstaged⟩
    show (if _ then _ else s.cannon.slew.startLeg _ _) = _
    unfold Timer.startLeg Timer.startAt
    rfl
  · have honly := settleDecision_only s.decision s
    refine close_only_of_conditions honly (hs.1 hm) ?_
    refine (settleDecision_reports s.decision s).conditions ?_ (honly .station (by decide)) (honly .account (by decide))
      (honly .wind (by decide)) (honly .forecast (by decide))
    rw [hst]
    cases ht : s.decision.tHeld with
    | none =>
      rw [settleDecision_of_deferred ht, show (takeDecision s.decision s).cannon = s.cannon from
        takeDecision_only _ s .cannon (by decide), hst]
    | some t =>
      rw [(settleDecision_of_held ht hch hst).1]
      exact ⟨nofun, nofun⟩

/-! ### Offers to the transmit queue (R149, R154, R155; O23) -/

theorem findIdx?_first {α : Type} {p : α → Bool} {pre post : List α} {a : α} (h : p a = true)
    (hpre : ∀ x ∈ pre, p x = false) : (pre ++ a :: post).findIdx? p = some pre.length := by
  rw [List.findIdx?_append, List.findIdx?_eq_none_iff.mpr hpre, List.findIdx?_cons, if_pos h]
  simp

theorem modify_first {α : Type} (g : α → α) (pre post : List α) (a : α) :
    (pre ++ a :: post).modify pre.length g = pre ++ g a :: post := by
  rw [List.modify_eq_take_cons_drop (by simp)]
  simp

theorem eraseIdx_first {α : Type} (pre post : List α) (a : α) : (pre ++ a :: post).eraseIdx pre.length = pre ++ post := by
  rw [List.eraseIdx_append_of_length_le (Nat.le_refl _)]
  simp

theorem replacedBy_iff (c : Content) (f : TxFrame) : TxFrame.replacedBy c f = true ↔ replacedBy c f := by
  cases c <;> cases hf : f.content <;>
    simp [TxFrame.replacedBy, replacedBy, TxFrame.waitingStatus, TxFrame.isClaim, hf, and_comm]

theorem waitingStatus_iff (f : TxFrame) : f.waitingStatus = true ↔ statusWaits f := by
  cases hf : f.content <;> simp [TxFrame.waitingStatus, statusWaits, hf]

section Offer

variable {c : Content} {s : State}

theorem lineOffer_of_idle (h : s.station.mode ≠ .run) : lineOffer c s = (s, false) :=
  if_neg (by simpa [State.inRun] using h)

theorem lineOffer_of_run (h : s.station.mode = .run) :
    lineOffer c s = (s.setLine (s.line.offer s.sec c).1, (s.line.offer s.sec c).2) :=
  if_pos (decide_eq_true h)

variable {l : Line} {sec : Nat}

theorem offer_replaces {pre post : List TxFrame} {f : TxFrame} (hq : l.queue = pre ++ f :: post) (hf : replacedBy c f)
    (hpre : ∀ g ∈ pre, ¬ replacedBy c g) :
    l.offer sec c = ({ l with queue := pre ++ { f with content := c } :: post }, true) := by
  have hplace : replacedPlace c l.queue = some pre.length := by
    unfold replacedPlace
    rw [hq]
    exact findIdx?_first ((replacedBy_iff c f).mpr hf) fun g hg =>
      Bool.eq_false_iff.mpr fun h => hpre g hg ((replacedBy_iff c g).mp h)
  unfold Line.offer
  rw [hplace]
  simp only [hq, modify_first]
  rfl

variable (hnone : ∀ f ∈ l.queue, ¬ replacedBy c f)
include hnone

theorem replacedPlace_none : replacedPlace c l.queue = none :=
  List.findIdx?_eq_none_iff.mpr fun f hf => Bool.eq_false_iff.mpr fun h => hnone f hf ((replacedBy_iff c f).mp h)

theorem offer_appends (hroom : l.queue.length < 8) :
    l.offer sec c =
      ({ l with
          queue := l.queue ++ [TxFrame.fresh sec c], access := if l.access = .idle then .waiting else l.access },
        true) := by
  unfold Line.offer
  rw [replacedPlace_none hnone]
  simp only [if_pos hroom, Line.settleAccess]
  cases ha : l.access <;> simp

theorem offer_full (hfull : 8 ≤ l.queue.length) :
    l.offer sec c =
      match c.urgent, l.queue.findIdx? TxFrame.waitingStatus with
      | true, some i =>
        ({ l with queue := l.queue.eraseIdx i ++ [TxFrame.fresh sec c], due := true, refused := true }, true)
      | _, _ => (l, false) := by
  unfold Line.offer
  rw [replacedPlace_none hnone]
  exact if_neg (Nat.not_lt.mpr hfull)

theorem offer_evicts (hfull : 8 ≤ l.queue.length) (hu : c.urgent = true) {pre post : List TxFrame} {f : TxFrame}
    (hq : l.queue = pre ++ f :: post) (hf : statusWaits f) (hpre : ∀ g ∈ pre, ¬ statusWaits g) :
    l.offer sec c =
      ({ l with queue := pre ++ post ++ [TxFrame.fresh sec c], due := true, refused := true }, true) := by
  have hplace : l.queue.findIdx? TxFrame.waitingStatus = some pre.length := by
    rw [hq]
    exact findIdx?_first ((waitingStatus_iff f).mpr hf) fun g hg =>
      Bool.eq_false_iff.mpr fun h => hpre g hg ((waitingStatus_iff g).mp h)
  rw [offer_full hnone hfull, hu, hplace]
  simp only [hq, eraseIdx_first]

theorem offer_refuses (hfull : 8 ≤ l.queue.length) (h : c.urgent = false ∨ ∀ f ∈ l.queue, ¬ statusWaits f) :
    l.offer sec c = (l, false) := by
  rw [offer_full hnone hfull]
  rcases h with h | h
  · rw [h]
  · rw [List.findIdx?_eq_none_iff.mpr fun f hf => Bool.eq_false_iff.mpr fun hw => h f hf ((waitingStatus_iff f).mp hw)]
    cases c.urgent <;> rfl

end Offer

theorem settleAccess_left (l : Line) : l.settleAccess.left = l.left := by
  unfold Line.settleAccess
  split <;> rfl

theorem offer_left (sec : Nat) (c : Content) (l : Line) : (l.offer sec c).1.left = l.left := by
  unfold Line.offer
  split
  · rfl
  · split
    · exact settleAccess_left _
    · split <;> rfl

theorem lineOffer_left (c : Content) (s : State) : (lineOffer c s).1.line.left = s.line.left := by
  unfold lineOffer
  split
  · exact offer_left _ _ _
  · rfl

theorem announceClaim_line (s : State) : (announceClaim s).line = (lineOffer s.claimContent s).1.line := rfl

theorem claimContent_eq (s : State) :
    s.claimContent =
      .claim (s.claim.own.serial.getD 0) (s.claim.own.cls.getD .test)
        (if s.claim.own.state = .throttled then s.claim.own.qg else s.cfg.nozzle * s.cfg.tOn / s.cfg.period)
        (s.claim.own.basis.elim 0 fun b => min 255 ((s.sec - b) / 60)) := by
  unfold State.claimContent State.waitAge State.announcedFlow flowOf
  cases s.claim.own.basis <;> rfl

/-- Settles O23. -/
theorem claimIsRefreshed : Obligations.ClaimIsRefreshed := by
  unfold Obligations.ClaimIsRefreshed
  refine ⟨fun c s => ⟨lineOffer_of_idle, fun hrun => ⟨fun pre f post hq hf hpre => ?_, fun hnone => ⟨fun hroom => ?_,
    fun pre f post hfull hu hq hf hpre => ?_, fun hfull h => ?_⟩⟩⟩, fun due s hs hrun htimer hdue hset => ?_⟩
  · rw [lineOffer_of_run hrun, offer_replaces hq hf hpre]
  · rw [lineOffer_of_run hrun, offer_appends hnone hroom]
    rfl
  · rw [lineOffer_of_run hrun, offer_evicts hnone hfull hu hq hf hpre]
    rfl
  · rw [lineOffer_of_run hrun, offer_refuses hnone hfull h]
    rfl
  · have hm : s.station.mode ≠ .start := by
      rw [hrun]
      exact nofun
    have honly := announceClaim_only s
    have heff : effectOf .claimRefresh s = announceClaim s := by
      show takeClaimRefresh s = _
      unfold takeClaimRefresh
      rw [htimer, isDue_running hdue]
      exact (if_pos rfl).trans (if_neg hset)
    have hcond : (announceClaim s).conditions = s.conditions :=
      (announceClaim_reports s).conditions (by rw [show (announceClaim s).cannon = s.cannon from honly .cannon (by decide)])
        (honly .station (by decide)) (honly .account (by decide)) (honly .wind (by decide)) (honly .forecast (by decide))
    refine ⟨_, exec_of_same hs hm heff (honly .alarms (by decide)) hcond (relaySet_of_station (honly .station (by decide)))
      (lineOffer_left _ s) ?_, announceClaim_claim s, ?_, honly⟩
    · have hface : (announceClaim s).face = s.face := honly .face (by decide)
      have hfaces : (announceClaim s).faceClasses = s.faceClasses := faceClasses_of_get fun f => by rw [hface]
      simp only [State.reportedItems, State.locked, show (announceClaim s).cannon = s.cannon from honly .cannon (by decide),
        show (announceClaim s).lockout = s.lockout from honly .lockout (by decide),
        show (announceClaim s).dust = s.dust from honly .dust (by decide), hfaces]
    · intro c
      rw [announceClaim_line, claimContent_eq]
      refine ⟨rfl, fun hroom hnone => ?_⟩
      rw [lineOffer_of_run hrun, offer_appends hnone hroom]
      rfl

/-! ### The pressure backstop (O24) -/

/-- A change of the own claim alone. -/
def OwnOnly (s t : State) : Prop := ∃ o, t.claim = { s.claim with own := o }

theorem OwnOnly.after {s t u : State} (k : OwnOnly t u) (h : OwnOnly s t) : OwnOnly s u := by
  obtain ⟨o, ho⟩ := h
  obtain ⟨p, hp⟩ := k
  exact ⟨p, by rw [hp, ho]⟩

theorem askClaim_own (c : DemandClass) (b : Nat) (s : State) : OwnOnly s (askClaim c b s) := by
  unfold askClaim
  split
  · exact ⟨_, announceClaim_claim _⟩
  · exact ⟨_, rfl⟩

theorem enterClaiming_own (ch : Chain) (s : State) : OwnOnly s (enterClaiming ch s) := by
  unfold enterClaiming
  simp only
  split
  · exact ⟨_, rfl⟩
  · exact askClaim_own _ _ _

theorem enterSlewing_own (ch : Chain) (s : State) : OwnOnly s (enterSlewing ch s) := by
  unfold enterSlewing
  simp only
  split
  · exact enterClaiming_own ch s
  · exact ⟨_, rfl⟩

/-- A selection may ask for the claim, and changes nothing else of the Water Claim Unit. -/
theorem trySelection_own (s : State) : OwnOnly s (trySelection s) := by
  rcases trySelection_cases s with h | ⟨e, -, -, h⟩ <;> rw [h]
  · exact ⟨_, rfl⟩
  · rw [startChain_eq]
    split
    · split
      · exact (enterSlewing_own _ _).after ⟨_, rfl⟩
      · exact ⟨_, rfl⟩
    · exact ⟨_, rfl⟩
    · exact ⟨_, rfl⟩

/-- A chain's end without a claim to release is no change of the claim. -/
theorem chainOver_claim_eq (c : Cause) (ch : Chain) (s : State) :
    (chainOver c ch s).claim = (endClaim c (s.onCannon Cannon.halt)).claim :=
  (queueChainEnd_only ch c _ .claim (by decide)).trans (afterChain_only c ch _ .claim (by decide))

theorem noClaim_low (s : State) : (noClaim s).claim.lowSince = none ∧ (noClaim s).claim.stageAt = none := ⟨rfl, rfl⟩

/-- With the release of the claim the low spell ends (R107). -/
theorem chainEnd_low {c : Cause} {ch : Chain} {s : State} (hc : s.cannon.chain = some ch)
    (hcl : s.claim.own.state ≠ .none) : (chainEnd c s).claim.lowSince = none ∧ (chainEnd c s).claim.stageAt = none := by
  have hend : (endClaim c (s.onCannon Cannon.halt)).claim.lowSince = none
      ∧ (endClaim c (s.onCannon Cannon.halt)).claim.stageAt = none := by
    unfold endClaim
    split
    · exact noClaim_low _
    · exact noClaim_low _
    · unfold releaseClaim
      rw [if_neg (by exact hcl)]
      exact noClaim_low _
  obtain ⟨o, ho⟩ := trySelection_own (chainOver c ch s)
  rw [chainEnd_eq hc, ho, chainOver_claim_eq]
  exact hend

theorem applyOnTime_state (now t : Nat) (c : Cannon) : (c.applyOnTime now t).state = c.state := by
  unfold Cannon.applyOnTime
  split
  · split <;> rfl
  · rfl

/-- Settles O24. -/
theorem pressureBackstop : Obligations.PressureBackstop := by
  unfold Obligations.PressureBackstop
  intro s hs hm
  refine ⟨fun p hst => ?_, fun p hst => ?_, fun htop => ⟨?_, ?_⟩, fun low onTime htop hst hlow hdue hstage hheld hholds => ?_,
    fun low stage ch htop hst hlow hstage hdue hch hcl => ?_⟩
  · have he : effectOf (.pressureReading p) s = s.setClaim
        { s.claim with
          pressure := some p
          lowSince := if p < s.cfg.pMin then some (s.claim.lowSince.getD s.now) else none
          stageAt := if p < s.cfg.pMin then s.claim.stageAt else none } := by
      show takePressure p s = _
      unfold takePressure
      by_cases hp : p < s.cfg.pMin <;> simp [hst, hp]
    exact exec_of_same hs hm he rfl rfl rfl rfl rfl
  · exact exec_of_same hs hm (if_neg hst) rfl rfl rfl rfl rfl
  · refine exec_of_same hs hm (t := s) (if_neg ?_) rfl rfl rfl rfl rfl
    simp [State.firstStageDue, htop]
  · refine exec_of_same hs hm (t := s) (if_neg ?_) rfl rfl rfl rfl rfl
    simp [State.secondStageDue, htop]
  · intro half
    let u := s.setClaim
      { s.claim with
        own := { s.claim.own with
          state := .throttled, tHeld := some half, ceiling := some half, qg := flowOf s.cfg half }
        stageAt := some s.now, staged := true }
    have hholds' : s.claim.own.state.holdsFlow = true := by
      rcases hholds with h | h <;> rw [h] <;> rfl
    have heff : effectOf .firstStage s = announceClaim (changeOnTime half u) := by
      show takeFirstStage s = _
      unfold takeFirstStage
      rw [if_pos (by simp [State.firstStageDue, hst, hholds', hstage, hlow, hdue, htop]), hheld]
      rfl
    have hchange : changeOnTime half u = u.onCannon fun c => c.applyOnTime u.now half := if_pos hst
    rw [hchange] at heff
    have honly : onlyChanges [.cannon, .claim, .line] s (announceClaim (u.onCannon fun c => c.applyOnTime u.now half)) :=
      only_trans (only_mono (setClaim_only s _) (by decide))
        (only_trans (only_mono (onCannon_only _ _) (by decide)) (only_mono (announceClaim_only _) (by decide)))
    have hcannon : (announceClaim (u.onCannon fun c => c.applyOnTime u.now half)).cannon =
        s.cannon.applyOnTime s.now half := announceClaim_only _ .cannon (by decide)
    refine ⟨_, exec_eq hm heff, ?_⟩
    rw [closeArrival_claim, closeArrival_cannon, announceClaim_claim]
    refine ⟨rfl, rfl, rfl, rfl, rfl, rfl, rfl, rfl, hcannon, close_only_of_conditions honly (hs.1 hm) ?_⟩
    have hreports : SameReports s (announceClaim (u.onCannon fun c => c.applyOnTime u.now half)) :=
      (announceClaim_reports _).after ⟨rfl, rfl⟩
    refine hreports.conditions ?_ (honly .station (by decide))
      (honly .account (by decide)) (honly .wind (by decide)) (honly .forecast (by decide))
    rw [hcannon, applyOnTime_state]
  · let u := s.setClaim { s.claim with stageAt := none }
    have hu : u.cannon.chain = some ch := hch
    have heff : effectOf .secondStage s = chainEnd .pressure u :=
      if_pos (by simp [State.secondStageDue, hst, hlow, hstage, hdue, htop])
    obtain ⟨hl, hsg⟩ := chainEnd_low (c := .pressure) hu hcl
    refine ⟨_, exec_eq hm heff, ?_, ?_, fun hq => ?_, ?_, ?_, ?_⟩
    · exact endedBy_close (chainEnd_endedBy hu) rfl rfl rfl rfl
    · rw [closeArrival_cannon, chainEnd_valve hu]
    · exact attemptCounted_congr (chainEnd_attempt (c := .pressure) hu rfl hq) rfl rfl (closeArrival_queue s _)
    · rw [closeArrival_claim, hl]
    · rw [closeArrival_claim, hsg]
    · exact close_only (only_trans (only_mono (setClaim_only s _) (by decide))
        (only_mono (chainEnd_only .pressure u) (by decide)))

end Sys2Proof.Machine
end


section
/-! PROOFS. The recompute of the own claim and the results of a changed gating (R97, R104, R105), with the two moments of a
stale supply (O26). -/

namespace Sys2Proof.Machine

/-! ### The recompute -/

/-- A state that differs from another in what other members and the supply say at most: the station, the cannon, the
queue, the locks and the own claim are the same. -/
structure SameOwn (s u : State) : Prop where
  now : u.now = s.now
  station : u.station = s.station
  cannon : u.cannon = s.cannon
  queue : u.queue = s.queue
  own : u.claim.own = s.claim.own
  lockout : u.lockout = s.lockout

theorem SameOwn.refl (s : State) : SameOwn s s := ⟨rfl, rfl, rfl, rfl, rfl, rfl⟩

theorem SameOwn.trans {s t u : State} (h : SameOwn s t) (k : SameOwn t u) : SameOwn s u :=
  ⟨k.now.trans h.now, k.station.trans h.station, k.cannon.trans h.cannon, k.queue.trans h.queue, k.own.trans h.own,
    k.lockout.trans h.lockout⟩

theorem sameOwn_of_only {fs : List Field} {s u : State} (h : onlyChanges fs s u)
    (hf : ∀ f ∈ [Field.now, .station, .cannon, .queue, .claim, .lockout], f ∉ fs := by decide) : SameOwn s u := by
  have hc : u.claim = s.claim := h .claim (hf _ (by decide))
  exact ⟨h .now (hf _ (by decide)), h .station (hf _ (by decide)), h .cannon (hf _ (by decide)),
    h .queue (hf _ (by decide)), by rw [hc], h .lockout (hf _ (by decide))⟩

theorem SameOwn.cfg {s u : State} (h : SameOwn s u) : u.cfg = s.cfg := by
  unfold State.cfg
  rw [h.station]

/-- The decision depends on the own claim, the peer claims, the supply and the time alone. -/
theorem decision_congr {s u : State} (h : SameOwn s u) (hp : u.peers = s.peers)
    (hs : u.claim.supply = s.claim.supply) : u.decision = s.decision := by
  have hcap : u.capacityInUse = s.capacityInUse := by
    unfold State.capacityInUse
    rw [hs, h.cfg]
  have hrank : u.ownRank = s.ownRank := by
    unfold State.ownRank State.announcedFlow State.waitAge State.sec
    rw [h.own, h.cfg, h.now, h.station]
  have hlive : u.liveClaims = s.liveClaims := by
    unfold State.liveClaims State.sec
    rw [h.now, hp]
  have habove : u.flowAbove = s.flowAbove := by
    unfold State.flowAbove
    rw [hlive, hrank]
  unfold State.decision State.room
  rw [hcap, habove, h.cfg, h.own]

theorem recompute_of_deferred {s : State} (h : s.claim.own.state = .deferred) {t : Nat} (ht : s.decision.tHeld = some t) :
    recompute s = settleDecision s.decision s := by
  have hne : ¬ s.decision.state = .deferred := fun hd => by
    have := decision_holds s
    rw [ht, hd] at this
    cases this
  unfold recompute
  rw [h]
  exact if_neg hne

theorem recompute_of_held {s : State} (h : s.claim.own.state = .granted ∨ s.claim.own.state = .throttled) :
    recompute s =
      match s.decision.tHeld with
      | some t => changeOnTime t (takeDecision s.decision s)
      | none => chainEnd .yielded s := by
  unfold recompute
  rcases h with h | h <;> rw [h] <;> rfl

theorem recompute_of_idle {s : State}
    (h : s.claim.own.state = .none ∨ s.claim.own.state = .settling
      ∨ (s.claim.own.state = .deferred ∧ s.decision.tHeld = none)) : recompute s = s := by
  unfold recompute
  rcases h with h | h | ⟨h, hd⟩ <;> rw [h]
  exact if_pos (decision_deferred hd)

/-- The end of a chain that had sprayed drains the cannon, and a selection that follows waits (R74, R84). -/
theorem chainEnd_drains {c : Cause} (hcause : c = .yielded ∨ c = .windCut) {ch : Chain} {s : State}
    (hc : s.cannon.chain = some ch) (hst : s.cannon.state = .spraying)
    (hv : ch.valveOpened = true) :
    (chainEnd c s).claim.own.state = .none ∧ (chainEnd c s).cannon.state = .draining := by
  have hdrain : (chainOver c ch s).cannon.state = .draining := by
    rw [chainOver_cannon]
    unfold afterChain
    rw [chainGone_state, hst]
    rcases hcause with rfl | rfl <;>
    · simp only [hv, if_true]
      rfl
  rw [chainEnd_eq hc]
  rcases trySelection_cases (chainOver c ch s) with h | ⟨e, -, -, h⟩ <;> rw [h]
  · exact ⟨chainOver_claim _ ch s, hdrain⟩
  · rw [startChain_eq, hdrain]
    exact ⟨chainOver_claim _ ch s, hdrain⟩

theorem chainEnd_yielded {ch : Chain} {s : State} (hc : s.cannon.chain = some ch) (hst : s.cannon.state = .spraying)
    (hv : ch.valveOpened = true) :
    (chainEnd .yielded s).claim.own.state = .none ∧ (chainEnd .yielded s).cannon.state = .draining :=
  chainEnd_drains (.inl rfl) hc hst hv

/-- What a recompute makes of the own claim, seen from a state that differs in the peers and the supply (R104, R105). -/
theorem recompute_recomputed {s u : State} (h : SameOwn s u) (s0 : State) :
    recomputed s (closeArrival s0 (recompute u)) := by
  have honly := recompute_only u
  have hpeers : (closeArrival s0 (recompute u)).peers = u.peers :=
    (closeArrival_peers s0 _).trans (honly .peers (by decide))
  have hsup : (closeArrival s0 (recompute u)).claim.supply = u.claim.supply := by
    rw [closeArrival_claim]
    exact (recompute_reports u).supply
  have hd : ((s.setPeers (closeArrival s0 (recompute u)).peers).setClaim
      { s.claim with supply := (closeArrival s0 (recompute u)).claim.supply }).decision = u.decision := by
    refine (decision_congr (s := (s.setPeers (closeArrival s0 (recompute u)).peers).setClaim
      { s.claim with supply := (closeArrival s0 (recompute u)).claim.supply }) ?_ hpeers.symm hsup.symm).symm
    exact ⟨h.now, h.station, h.cannon, h.queue, h.own, h.lockout⟩
  unfold recomputed
  simp only [hd]
  rw [closeArrival_claim, closeArrival_cannon, closeArrival_queue, ← h.own, ← h.cannon, ← h.queue, ← h.now]
  refine ⟨fun hidle => ?_, fun t hst ht ch hch hcl => ?_, fun t hst ht => ?_, fun ch hst ht hch => ?_⟩
  · rw [recompute_of_idle hidle]
    exact ⟨rfl, rfl, rfl⟩
  · obtain ⟨hcan, hown, -, hq⟩ := settleDecision_of_held ht hch hcl
    obtain ⟨a, r, htaken⟩ := takeDecision_own u.decision u
    rw [htaken] at hown
    rw [recompute_of_deferred hst ht, hown, hcan, hq]
    exact ⟨rfl, ht, rfl, rfl, rfl, rfl, rfl, rfl⟩
  · obtain ⟨a, r, htaken⟩ := takeDecision_own u.decision u
    have hcan : (takeDecision u.decision u).cannon = u.cannon := takeDecision_only _ u .cannon (by decide)
    have hq : (takeDecision u.decision u).queue = u.queue := takeDecision_only _ u .queue (by decide)
    have hnow : (takeDecision u.decision u).now = u.now := takeDecision_only _ u .now (by decide)
    have hend : recompute u = changeOnTime t (takeDecision u.decision u) := by
      rw [recompute_of_held hst, ht]
    rw [hend]
    unfold changeOnTime
    rw [hcan]
    by_cases hsp : u.cannon.state = .spraying
    · rw [if_pos hsp, if_pos hsp]
      simp only [State.onCannon, State.setCannon_cannon, State.setCannon_claim, State.setCannon_queue, htaken, hcan, hq,
        hnow]
      exact ⟨trivial, ht, trivial, trivial, trivial⟩
    · rw [if_neg hsp, if_neg hsp, htaken, hcan, hq]
      exact ⟨rfl, ht, rfl, rfl, rfl⟩
  · have hend : recompute u = chainEnd .yielded u := by
      rw [recompute_of_held hst, ht]
    rw [hend]
    refine ⟨?_, chainEnd_valve hch, chainEnd_yielded hch⟩
    exact endedBy_close (chainEnd_endedBy hch) h.now (by rw [h.cannon]) (by rw [h.cannon]) (by rw [h.queue])

/-! ### The results of a changed gating (R97) -/

theorem choose_congr {s u : State} (hq : u.queue = s.queue) (hg : u.gate = s.gate) (hst : u.station = s.station) :
    u.choose = s.choose := by
  have hcand : u.candidate = s.candidate := by
    funext e
    unfold State.candidate State.held
    rw [hg, hq]
  have horder : u.faceOrder = s.faceOrder := by
    unfold State.faceOrder State.cfg
    rw [hst, hq]
  unfold State.choose
  rw [hq, hcand, horder]

theorem chosen_allowed {s : State} {e : Entry} (h : s.choose = some e) : s.gate.allows e.cls = true :=
  (candidate_iff.mp (mem_bestCandidates.mp (choose_some h).1).2.1).2.1

theorem trySelection_gate (s : State) : (trySelection s).gate = s.gate :=
  gate_congr (trySelection_reports s).supply (trySelection_only s .account (by decide))
    (trySelection_only s .station (by decide))

/-- A selection that the new gating allows stays. -/
theorem gatingEffects_selects {g : Gate} {s : State} {e : Entry} (hg : s.gate ≠ g) (ht : Tries s)
    (he : s.choose = some e) : gatingEffects g s = startChain e s := by
  have hsel := trySelection_of_choose ht he
  have hgate := trySelection_gate s
  have hchain : (startChain e s).cannon.chain = some (s.planFor e) := (startChain_keeps e s).chain
  have hcls : (s.planFor e).cls = e.cls := rfl
  refine (if_neg hg).trans ?_
  simp only [hsel, hchain, hcls]
  rw [← hsel, hgate, chosen_allowed he, if_pos rfl]

theorem gatingEffects_gate (g : Gate) (s : State) : (gatingEffects g s).gate = s.gate :=
  gate_congr (gatingEffects_reports g s).supply (gatingEffects_only g s .account (by decide))
    (gatingEffects_only g s .station (by decide))

theorem gatingEffects_stops {g : Gate} {s : State} {ch : Chain} (hg : s.gate ≠ g) (hc : s.cannon.chain = some ch)
    (hno : s.gate.allows ch.cls = false) : gatingEffects g s = chainEnd .source s :=
  (gatingEffects_of_chain hg hc).trans (if_neg (by simp [hno]))

theorem closeArrival_gate (s0 s : State) : (closeArrival s0 s).gate = s.gate :=
  gate_congr (by rw [closeArrival_claim]) (closeArrival_account s0 s) (closeArrival_station s0 s)

/-- What `gatingFollowed` takes: the stop of a chain whose class is not allowed any more and the selection of an open
request, as the two operations on the state with the new gating. -/
theorem gatingFollowed_of {s u v : State} (h : SameOwn s u) (s0 : State) (hg : v.gate = u.gate)
    (hst : v.station = u.station)
    (hstop : ∀ ch, u.gate ≠ s.gate → u.cannon.chain = some ch → u.gate.allows ch.cls = false → v = chainEnd .source u)
    (hselect : ∀ e, u.gate ≠ s.gate → Tries u → u.choose = some e → v = startChain e u) :
    gatingFollowed s (closeArrival s0 v) := by
  intro hne
  rw [closeArrival_gate, hg] at hne
  refine ⟨fun ch hch hno => ?_, fun hch hreq hrun hlock hable e he => ?_, ?_⟩
  · rw [closeArrival_gate, hg] at hno
    have hch' : u.cannon.chain = some ch := by rw [h.cannon, hch]
    rw [hstop ch hne hch' hno]
    refine ⟨endedBy_close (chainEnd_endedBy hch') h.now (by rw [h.cannon]) (by rw [h.cannon]) (by rw [h.queue]), ?_⟩
    rw [closeArrival_cannon, chainEnd_valve hch']
  · have htries : Tries u :=
      ⟨by rw [h.queue, hreq], by rw [h.station, hrun], by rw [h.cannon, hable], by rw [h.lockout, hlock]⟩
    have hmixed : ((s.setClaim (closeArrival s0 v).claim).setAccount (closeArrival s0 v).account).gate = v.gate :=
      gate_congr (by rw [State.setAccount_claim, State.setClaim_claim, closeArrival_claim]) (closeArrival_account s0 v)
        (h.station.symm.trans hst.symm)
    have hchoose : u.choose = some e :=
      (choose_congr (s := (s.setClaim (closeArrival s0 v).claim).setAccount (closeArrival s0 v).account) h.queue
        (hg.symm.trans hmixed.symm) h.station).trans he
    rw [hselect e hne htries hchoose]
    have hw : chainWaits u = chainWaits s := by
      unfold chainWaits
      rw [h.cannon]
    rw [← hw]
    exact chainFormed_congr (startChain_formed (choose_mem hchoose)) h.now.symm h.station.symm (by simp) (by simp)
  · refine (closeArrival_cond s0 v (i := .freshExhausted) rfl).trans ?_
    rw [closeArrival_claim, closeArrival_account]
    rfl

/-! ### The claim after a chain's end or a selection -/

theorem enterSlewing_claimState (ch : Chain) (s : State) :
    (enterSlewing ch s).claim.own.state = s.claim.own.state ∨ (enterSlewing ch s).claim.own.state = .settling := by
  by_cases h : s.cannon.bearing = some (s.descOf ch.face).arcStart
  · rw [enterSlewing_of_on h]
    cases hc : s.cutOut with
    | true =>
      rw [enterClaiming_of_cutOut hc]
      exact .inl rfl
    | false =>
      rw [enterClaiming_of_calm hc]
      exact (askClaim_state _ _ _).symm
  · unfold enterSlewing
    simp only [if_neg h]
    exact .inl rfl

/-- A selection leaves the claim or asks for it (R77, R101). -/
theorem startChain_claimState (e : Entry) (s : State) :
    (startChain e s).claim.own.state = s.claim.own.state ∨ (startChain e s).claim.own.state = .settling := by
  rw [startChain_eq]
  split
  · split
    · exact enterSlewing_claimState _ _
    · exact .inl rfl
  · exact .inl rfl
  · exact .inl rfl

theorem recompute_of_asked {s : State} (h : s.claim.own.state = .none ∨ s.claim.own.state = .settling) :
    recompute s = s := recompute_of_idle (h.imp_right .inl)

theorem recompute_startChain {e : Entry} {s : State} (h : s.claim.own.state = .none) :
    recompute (startChain e s) = startChain e s := by
  refine recompute_of_asked ?_
  rw [← h]
  exact h ▸ startChain_claimState e s

theorem recompute_chainEnd {c : Cause} {ch : Chain} {s : State} (h : s.cannon.chain = some ch) :
    recompute (chainEnd c s) = chainEnd c s := by
  have hn := chainOver_claim c ch s
  rw [chainEnd_eq h]
  rcases trySelection_cases (chainOver c ch s) with ht | ⟨e, -, -, ht⟩ <;> rw [ht]
  · exact recompute_of_asked (.inl hn)
  · exact recompute_startChain hn

/-! ### A stale supply (O26) -/

/-- The account after the rollover of a stale supply (R113). -/
def rolledAccount (s : State) : Account :=
  { today := { DayRecord.empty with
      day := s.account.today.day.map fun d => (d + 1) % 65536, allowance := s.claim.supply.allowance }
    yesterday := s.account.today, dayStart := s.sec }

theorem staleRollover_account (s : State) : (staleRollover s).account = rolledAccount s := rfl

theorem staleRollover_only (s : State) : onlyChanges [.account, .face] s (staleRollover s) := rollover_only _ _ s

/-- A rollover leaves every runoff 0 (R23). -/
theorem rollover_runoff (day : Option Nat) (a : Nat) (s : State) {f : FaceId} {r : FaceRecord}
    (h : (rollover day a s).face.records.get f = some r) : r.runoff = 0 := by
  have hget : (rollover day a s).face.records.get f = (s.face.records.get f).map fun r => { r with runoff := 0 } :=
    PerFace.get_map _ _ f
  rw [hget] at h
  obtain ⟨q, -, rfl⟩ := Option.map_eq_some_iff.mp h
  rfl

theorem rollStale_of_over {s : State} (hs : s.claim.supply.stale = true) (h : s.account.dayStart + 86400 ≤ s.sec) :
    rollStale s = gatingEffects s.gate (staleRollover s) :=
  if_pos (by simp [hs, State.dayOver, h])

theorem rollStale_of_day {s : State} (h : s.sec < s.account.dayStart + 86400) : rollStale s = s :=
  if_neg (by simp [State.dayOver]; omega)

/-- Settles O26. -/
theorem staleSupply : Obligations.StaleSupply := by
  unfold Obligations.StaleSupply
  intro s hm rolled
  refine ⟨fun due htimer hdue hstale => ?_, fun hstale hover => ?_⟩
  · let u := s.setClaim { s.claim with supply := { s.claim.supply with stale := true } }
    let v := recomputeOnCapacity s.capacityInUse u
    have hvonly : onlyChanges [.queue, .cannon, .claim, .line, .face, .alarms, .free] u v := recomputeOnCapacity_only _ u
    have hvrep : SameReports u v := .ite (.refl u) (recompute_reports u)
    have hvacc : v.account = s.account := hvonly .account (by decide)
    have hvnow : v.now = s.now := hvonly .now (by decide)
    have heff : effectOf .supplyStaleExpiry s = rollStale v :=
      if_pos (by simp [State.supplyStaleDue, hstale, htimer, isDue_running hdue])
    have hrolled : SameReports v (rollStale v) :=
      .ite (.after (gatingEffects_reports _ _) (.of_only (staleRollover_only v))) (.refl v)
    have hsup : (rollStale v).claim.supply = { s.claim.supply with stale := true } := hrolled.supply.trans hvrep.supply
    refine ⟨_, exec_eq hm heff, by rw [closeArrival_claim, hsup], ?_, ?_, fun hday hcap => ?_, ?_⟩
    · rw [closeArrival_account]
      by_cases hover : s.account.dayStart + 86400 ≤ s.sec
      · rw [if_pos hover, rollStale_of_over (by rw [hvrep.supply]; rfl) (by rw [hvacc, State.sec, hvnow]; exact hover)]
        refine (gatingEffects_only _ _ .account (by decide)).trans ?_
        rw [staleRollover_account, rolledAccount, hvacc, hvrep.supply, State.sec, hvnow]
        rfl
      · rw [if_neg hover, rollStale_of_day (by rw [hvacc, State.sec, hvnow]; exact Nat.lt_of_not_le hover), hvacc]
    · refine (closeArrival_cond s _ (i := .supplyStale) rfl).trans ?_
      show (rollStale v).claim.supply.stale = true
      rw [hsup]
    · have hv : rollStale v = v := rollStale_of_day (by rw [hvacc, State.sec, hvnow]; exact hday)
      rw [hv] at hcap ⊢
      have hvcap : (closeArrival s v).capacityInUse = u.capacityInUse := by
        have hst : v.station = u.station := hvonly .station (by decide)
        unfold State.capacityInUse State.cfg
        rw [closeArrival_claim, closeArrival_station, hvrep.supply, hst]
      have hrec : v = recompute u := if_neg fun h => hcap (hvcap.trans h)
      rw [hrec]
      exact recompute_recomputed (s := s) (u := u) ⟨rfl, rfl, rfl, rfl, rfl, rfl⟩ s
    · exact close_only (only_trans (only_mono (setClaim_only s _) (by decide))
        (only_trans (only_mono hvonly (by decide)) (only_mono (rollStale_only v) (by decide))))
  · have heff : effectOf .staleRollover s = gatingEffects s.gate (staleRollover s) := rollStale_of_over hstale hover
    have honly := gatingEffects_only s.gate (staleRollover s)
    have hro := staleRollover_only s
    refine ⟨_, exec_eq hm heff, ?_, ?_, ?_, fun f r hr => ?_, ?_⟩
    · rw [closeArrival_account]
      exact honly .account (by decide)
    · rw [closeArrival_claim, (gatingEffects_reports _ _).supply]
      exact congrArg ClaimUnit.supply (hro .claim (by decide))
    · exact gatingFollowed_of (u := staleRollover s) (sameOwn_of_only hro) s (gatingEffects_gate _ _)
        (honly .station (by decide)) (fun ch hne hc hno => gatingEffects_stops hne hc hno)
        (fun e hne ht he => gatingEffects_selects hne ht he)
    · rw [closeArrival_face] at hr
      rcases (gatingEffects_prewet s.gate (staleRollover s)).2 f with ⟨hnone, -⟩ | ⟨q, p, hq, ht⟩
      · rw [hnone] at hr
        cases hr
      · rw [ht, Option.some.injEq] at hr
        rw [← hr]
        have hzero : q.runoff = 0 := rollover_runoff _ _ s hq
        exact hzero
    · exact close_only (only_trans (only_mono hro (by decide)) (only_mono honly (by decide)))

end Sys2Proof.Machine
end


section
/-! PROOFS. What a frame leaves in the Peer Map and in the reception, and the sweep (O25, O30, O31, O32, O38). -/

namespace Sys2Proof.Machine

/-! ### The entries of the map -/

theorem findPeer_cons (n : Nat) (p : Peer) (ps : List Peer) :
    findPeer n (p :: ps) = if p.node = n then some p else findPeer n ps := by
  unfold findPeer
  rw [List.find?_cons]
  by_cases h : p.node = n
  · simp [h]
  · rw [if_neg h, (beq_eq_false_iff_ne).mpr h]

theorem findPeer_putPeer_same (p : Peer) (ps : List Peer) : findPeer p.node (putPeer p ps) = some p := by
  induction ps with
  | nil => simp [putPeer, findPeer]
  | cons q ps ih =>
    unfold putPeer
    split
    · rw [findPeer_cons, if_pos rfl]
    · split
      · rw [findPeer_cons, if_pos rfl]
      · rename_i hne
        rw [findPeer_cons, if_neg (Ne.symm hne), ih]

theorem findPeer_putPeer_ne {m : Nat} {p : Peer} (h : m ≠ p.node) (ps : List Peer) :
    findPeer m (putPeer p ps) = findPeer m ps := by
  induction ps with
  | nil => simp [putPeer, findPeer, Ne.symm h]
  | cons q ps ih =>
    unfold putPeer
    split
    · rw [findPeer_cons, if_neg (Ne.symm h)]
    · split
      · rename_i heq
        rw [findPeer_cons, findPeer_cons, if_neg (Ne.symm h), if_neg (by omega)]
      · rw [findPeer_cons, findPeer_cons, ih]

theorem findPeer_changePeer {n : Nat} {g : Peer → Peer} (hg : ∀ p, (g p).node = p.node) (m : Nat) (ps : List Peer) :
    findPeer m (changePeer n g ps) = (findPeer m ps).map fun p => if m = n then g p else p := by
  induction ps with
  | nil => rfl
  | cons q ps ih =>
    have hcons : changePeer n g (q :: ps) = (if q.node = n then g q else q) :: changePeer n g ps := rfl
    have hnode : (if q.node = n then g q else q).node = q.node := by
      split
      · exact hg q
      · rfl
    rw [hcons, findPeer_cons, findPeer_cons, hnode, ih]
    by_cases hq : q.node = m
    · rw [if_pos hq, if_pos hq, hq]
      rfl
    · rw [if_neg hq, if_neg hq]

/-! ### The common part (R138, R139) -/

theorem Peer.refresh_kind (sec : Nat) (k : MemberKind) (p : Peer) : (p.refresh sec k).kind = k := by
  unfold Peer.refresh
  simp only
  generalize (if p.liveness sec = .lost then p.stripped else p) = q
  by_cases h : q.kind = k
  · rw [if_pos h]
    exact h
  · rw [if_neg h]

/-- The common part leaves a claim part or removes it. -/
theorem Peer.refresh_claim {sec : Nat} {k : MemberKind} {p : Peer} {c : ClaimPart}
    (h : (p.refresh sec k).claim = some c) : p.claim = some c := by
  unfold Peer.refresh at h
  simp only at h
  by_cases hlost : p.liveness sec = .lost
  · rw [if_pos hlost] at h
    split at h <;> cases h
  · rw [if_neg hlost] at h
    split at h
    · exact h
    · cases h

/-- What the common part of a frame says of the sender's entry: the kind, the time and the position it carries. -/
structure Peer.Common (k : MemberKind) (sec : Nat) (pos : Option (Nat × Nat)) (p : Peer) : Prop where
  kind : p.kind = k
  heard : p.heard = sec
  position : ∀ xy, pos = some xy → p.position = some xy

theorem refreshedPeer_common (sec n : Nat) (k : MemberKind) (pos : Option (Nat × Nat)) (ps : List Peer) :
    (refreshedPeer sec n k pos ps).Common k sec pos := by
  unfold refreshedPeer
  cases findPeer n ps with
  | none =>
    cases pos with
    | none => exact ⟨rfl, rfl, nofun⟩
    | some xy => exact ⟨rfl, rfl, fun _ h => h⟩
  | some p =>
    have hk := p.refresh_kind sec k
    cases pos with
    | none => exact ⟨hk, rfl, nofun⟩
    | some xy => exact ⟨hk, rfl, fun _ h => h⟩

theorem refreshedPeer_claim (sec n : Nat) (k : MemberKind) (ps : List Peer) :
    (refreshedPeer sec n k none ps).claim = (findPeer n ps).bind fun p => (p.refresh sec k).claim := by
  unfold refreshedPeer
  cases findPeer n ps <;> rfl

/-! ### A frame noted (R137 to R139, R162) -/

/-- The reception after a complete frame of another member: it has ended, and the isolation watch starts again. -/
def heardReception (s : State) : Nat × Bool × List Byte × Timer × Bool × Bool :=
  (s.now, false, [], if s.operational then .startAt s.now 300000 else s.line.isolation,
    if s.operational then false else s.line.isolated, s.line.duplicate)

/-- A frame of member `n` has been noted: its entry is `q`, every other entry is as it was, and the reception has
ended. -/
structure Noted (n : Nat) (q : Peer) (s u : State) : Prop where
  entry : findPeer n u.peers.entries = some q
  others : ∀ m, m ≠ n → findPeer m u.peers.entries = findPeer m s.peers.entries
  sweep : u.peers.sweep = s.peers.sweep
  reception : u.line.reception = heardReception s

theorem Noted.after {n : Nat} {q : Peer} {s u v : State} (h : Noted n q s u) (hp : v.peers = u.peers)
    (hr : v.line.reception = u.line.reception) : Noted n q s v :=
  ⟨by rw [hp]; exact h.entry, by rw [hp]; exact h.others, by rw [hp]; exact h.sweep, hr.trans h.reception⟩

/-- A later change of the entry. -/
theorem Noted.change {n : Nat} {q : Peer} {s u : State} (h : Noted n q s u) {g : Peer → Peer}
    (hg : ∀ p, (g p).node = p.node) : Noted n (g q) s (u.setPeerEntries (changePeer n g u.peers.entries)) := by
  refine ⟨?_, fun m hm => ?_, h.sweep, h.reception⟩
  · exact (findPeer_changePeer hg n u.peers.entries).trans (by rw [h.entry, Option.map_some, if_pos rfl])
  · refine (findPeer_changePeer hg m u.peers.entries).trans ?_
    rw [h.others m hm]
    simp [hm]

theorem Noted.recompute {n : Nat} {q : Peer} {s u : State} (h : Noted n q s u) : Noted n q s (recompute u) :=
  h.after (recompute_only u .peers (by decide)) (recompute_reports u).reception

theorem Noted.close {n : Nat} {q : Peer} {s u : State} (h : Noted n q s u) (s0 : State) :
    Noted n q s (closeArrival s0 u) := h.after (closeArrival_peers s0 u) (closeArrival_reports s0 u).reception

theorem hearFrame_reception (s : State) : (hearFrame (frameEnds s)).line.reception = heardReception s := by
  unfold hearFrame heardReception
  show (if s.operational = true then _ else _ : State).line.reception = _
  cases s.operational <;> rfl

theorem hearFrame_peers (s : State) : (hearFrame s).peers = s.peers := hearFrame_only s .peers (by decide)

theorem noted_of_put {n : Nat} {p : Peer} (h : p.node = n) (s : State) :
    Noted n p s ((hearFrame (frameEnds s)).setPeerEntries (putPeer p s.peers.entries)) := by
  subst h
  refine ⟨findPeer_putPeer_same p s.peers.entries, fun m hm => findPeer_putPeer_ne hm s.peers.entries, ?_,
    hearFrame_reception s⟩
  show (hearFrame (frameEnds s)).peers.sweep = _
  rw [hearFrame_peers]
  rfl

/-- A frame with its common part and its own part is noted. -/
theorem heard_noted {k : FrameKind} {n : Nat} {pos : Option (Nat × Nat)} {part : Peer → Peer}
    (hpart : ∀ p, (part p).node = p.node) (s : State) :
    Noted n (part (refreshedPeer s.sec n k.member pos s.peers.entries)) s (heard k n pos part (frameEnds s)) := by
  have hput := noted_of_put ((hpart _).trans (refreshedPeer_node s.sec n k.member pos s.peers.entries)) s
  show Noted n _ s (if _ then _ else _)
  split
  · exact hput.recompute
  · exact hput

theorem handClaimKind_noted (k : FrameKind) (n : Nat) (s : State) :
    Noted n (refreshedPeer s.sec n k.member none s.peers.entries) s (handClaimKind k n (frameEnds s)) :=
  noted_of_put (refreshedPeer_node s.sec n k.member none s.peers.entries) s

/-! ### What each kind of frame writes (R99, R127, R140 to R142) -/

/-- The position that a frame carries (R139). -/
def framePosition : FrameKind → List Byte → Option (Nat × Nat)
  | .status, p => some (payloadPosition p)
  | .plume, p => some (payloadPosition p)
  | .wind, p => some (payloadPosition p)
  | .machine, p => some (payloadPosition p)
  | _, _ => none

/-- A frame of a kind is noted, with the common part and a fact of its own part. -/
def NotedAs (k : FrameKind) (n : Nat) (p : List Byte) (s u : State) (own : Peer → Prop) : Prop :=
  ∃ q, Noted n q s u ∧ q.Common k.member s.sec (framePosition k p) ∧ own q

/-- The part of a STATUS in its sender's entry (R127, R140). -/
def statusPart (p : List Byte) (s : State) (q : Peer) : Prop :=
  ∀ c, decodeStatus p = some c →
    q.summary =
        some
          { cannonClass := c.cannonClass, locked := c.locked, level := c.level, serial := c.serial
            faces := c.faces, runoff := c.runoff, fresh := c.fresh }
      ∧ q.wind = (c.wind.bind fun w =>
          if w.2 ≤ 359 then some { speed := min 400 w.1, bearing := w.2, arrival := s.sec } else none)
      ∧ (s.operational = true → c.level = .clear ∨ c.level = .elevated → q.acted = none)

theorem handStatus_noted (n : Nat) (p : List Byte) (s : State) :
    NotedAs .status n p s (handStatus n p (frameEnds s)) (statusPart p s) := by
  have hcommon := refreshedPeer_common s.sec n .station (some (payloadPosition p)) s.peers.entries
  unfold handStatus
  cases hd : decodeStatus p with
  | none => exact ⟨_, heard_noted (fun _ => rfl) s, hcommon, fun c hc => by simp [hd] at hc⟩
  | some c =>
    let part := Peer.takeStatus s.sec c
    have hn := heard_noted (k := .status) (n := n) (pos := some (payloadPosition p)) (part := part) (fun _ => rfl) s
    have hop : (heard .status n (some (payloadPosition p)) part (frameEnds s)).operational = s.operational := by
      unfold State.operational
      rw [show (heard .status n (some (payloadPosition p)) part (frameEnds s)).station = s.station from
        heard_only _ _ _ _ s .station (by decide)]
    have hparts : ∀ acted, statusPart p s { part (refreshedPeer s.sec n .station (some (payloadPosition p))
        s.peers.entries) with acted := acted } ↔ (s.operational = true → c.level = .clear ∨ c.level = .elevated →
          acted = none) := by
      intro acted
      unfold statusPart
      simp only [hd, Option.some.injEq, forall_eq']
      exact ⟨fun h => h.2.2, fun h => ⟨rfl, rfl, h⟩⟩
    show NotedAs .status n p s (clearActed n c.level (heard .status n (some (payloadPosition p)) part (frameEnds s))) _
    unfold clearActed
    rw [hop]
    by_cases hclear : s.operational = true ∧ (c.level = .clear ∨ c.level = .elevated)
    · rw [if_pos hclear]
      exact ⟨_, hn.change fun _ => rfl, ⟨hcommon.kind, hcommon.heard, hcommon.position⟩,
        (hparts none).mpr fun _ _ => rfl⟩
    · rw [if_neg hclear]
      exact ⟨_, hn, ⟨hcommon.kind, hcommon.heard, hcommon.position⟩,
        (hparts _).mpr fun ho hl => absurd ⟨ho, hl⟩ hclear⟩

/-- The part of a WIND frame in its sender's entry (R141). -/
def windReportPart (p : List Byte) (s : State) (q : Peer) : Prop :=
  word16At p 8 ≤ 359 →
    q.wind = some { speed := min 400 (word16At p 4), bearing := word16At p 8, arrival := s.sec }

theorem Peer.takeWind_common {k : MemberKind} {sec : Nat} {pos : Option (Nat × Nat)} {p : Peer} (speed bearing : Nat)
    (h : p.Common k sec pos) : (p.takeWind sec speed bearing).Common k sec pos := by
  unfold Peer.takeWind
  split
  · exact ⟨h.kind, h.heard, h.position⟩
  · exact h

theorem Peer.takeWind_of_bearing {bearing : Nat} (h : bearing ≤ 359) (sec speed : Nat) (p : Peer) :
    p.takeWind sec speed bearing =
      { p with wind := some { speed := min 400 speed, bearing := bearing, arrival := sec } } := by
  unfold Peer.takeWind windReport
  rw [if_pos h]

theorem handWind_noted (n : Nat) (p : List Byte) (s : State) :
    NotedAs .wind n p s (handWind n p (frameEnds s)) (windReportPart p s) := by
  refine ⟨_, heard_noted (Peer.takeWind_node s.sec _ _) s,
    Peer.takeWind_common _ _ (refreshedPeer_common s.sec n .mast _ s.peers.entries), fun hb => ?_⟩
  exact congrArg Peer.wind (Peer.takeWind_of_bearing hb s.sec (word16At p 4) _)

/-- The part of a MACHINE frame in its sender's entry (R142). -/
def machinePart (p : List Byte) (q : Peer) : Prop := ∀ b, boolOf (byteAt p 4) = some b → q.machine = some b

theorem handMachine_noted (n : Nat) (p : List Byte) (s : State) :
    NotedAs .machine n p s (handMachine n p (frameEnds s)) (machinePart p) := by
  have hcommon := refreshedPeer_common s.sec n .machine (some (payloadPosition p)) s.peers.entries
  unfold handMachine decodeMachine machinePart
  cases hb : boolOf (byteAt p 4) with
  | none => exact ⟨_, heard_noted (fun _ => rfl) s, hcommon, nofun⟩
  | some b =>
    exact ⟨_, heard_noted (part := fun p => { p with machine := some b }) (fun _ => rfl) s,
      ⟨hcommon.kind, hcommon.heard, hcommon.position⟩, fun _ h => h⟩

/-- The part of a CLAIM in its sender's entry (R99). -/
def claimedPart (p : List Byte) (s : State) (q : Peer) : Prop :=
  ∀ c, s.operational = true → demandClassOf (byteAt p 1) = some c →
    q.claim =
      some
        { cls := c, flow := min 2000 (word16At p 2), wait := min 255 (byteAt p 4), serial := byteAt p 0
          announce := s.sec }

theorem handClaimKind_operational (k : FrameKind) (n : Nat) (s : State) :
    (handClaimKind k n (frameEnds s)).operational = s.operational := by
  unfold State.operational
  rw [show (handClaimKind k n (frameEnds s)).station = s.station from
    handClaimKind_only k n (frameEnds s) .station (by decide)]

theorem handClaim_of_class {n : Nat} {p : List Byte} {s : State} {c : DemandClass}
    (hc : demandClassOf (byteAt p 1) = some c) (hop : s.operational = true) :
    handClaim n p (frameEnds s) =
      recompute ((handClaimKind .claim n (frameEnds s)).setPeerEntries
        (changePeer n
          (fun q => { q with claim := some (claimPart s.sec (byteAt p 0) c (word16At p 2) (byteAt p 4)) })
          (handClaimKind .claim n (frameEnds s)).peers.entries)) := by
  unfold handClaim decodeClaim
  rw [hc]
  exact if_pos ((handClaimKind_operational .claim n s).trans hop)

theorem handClaim_noted (n : Nat) (p : List Byte) (s : State) :
    NotedAs .claim n p s (handClaim n p (frameEnds s)) (claimedPart p s) := by
  have hcommon := refreshedPeer_common s.sec n .station none s.peers.entries
  have hn := handClaimKind_noted .claim n s
  cases hc : demandClassOf (byteAt p 1) with
  | none =>
    unfold handClaim decodeClaim
    rw [hc]
    exact ⟨_, heard_noted (fun _ => rfl) s, hcommon, fun c _ h => by simp [hc] at h⟩
  | some c =>
    cases hop : s.operational with
    | true =>
      rw [handClaim_of_class hc hop]
      let part := claimPart s.sec (byteAt p 0) c (word16At p 2) (byteAt p 4)
      refine ⟨_, (hn.change (g := fun q => { q with claim := some part }) fun _ => rfl).recompute,
        ⟨hcommon.kind, hcommon.heard, hcommon.position⟩, fun d _ hd => ?_⟩
      rw [hc, Option.some.injEq] at hd
      rw [← hd]
      rfl
    | false =>
      unfold handClaim decodeClaim takeClaimPart
      simp only [hc, handClaimKind_operational, hop, Bool.false_eq_true, if_false]
      refine ⟨_, ?_, hcommon, fun d h => by simp [hop] at h⟩
      split
      · exact hn.recompute
      · exact hn

/-- The claim part after a RELEASE (R99). -/
def releasedPart (n : Nat) (p : List Byte) (s : State) (q : Peer) : Prop :=
  s.operational = true →
    q.claim =
      ((findPeer n s.peers.entries).bind fun q => (q.refresh s.sec .station).claim).filter fun c =>
        decide (c.serial ≠ byteAt p 0)

theorem claimOf_of_entry {n serial : Nat} {s : State} {q : Peer} (h : findPeer n s.peers.entries = some q) :
    s.claimOf n serial = true ↔ ∃ c, q.claim = some c ∧ c.serial = serial := by
  unfold State.claimOf
  rw [h, Option.bind_some]
  cases q.claim <;> simp

theorem handRelease_noted (n : Nat) (p : List Byte) (s : State) :
    NotedAs .release n p s (handRelease n p (frameEnds s)) (releasedPart n p s) := by
  have hcommon := refreshedPeer_common s.sec n .station none s.peers.entries
  have hn := handClaimKind_noted .release n s
  have hclaim := refreshedPeer_claim s.sec n .station s.peers.entries
  have hof := claimOf_of_entry (serial := byteAt p 0) hn.entry
  unfold handRelease
  simp only [handClaimKind_operational]
  by_cases hrel : (s.operational && (handClaimKind .release n (frameEnds s)).claimOf n (byteAt p 0)) = true
  · rw [if_pos hrel]
    refine ⟨_, (hn.change (g := fun q => { q with claim := none }) fun _ => rfl).recompute,
      ⟨hcommon.kind, hcommon.heard, hcommon.position⟩, fun _ => ?_⟩
    rw [Bool.and_eq_true] at hrel
    obtain ⟨c, hc, hser⟩ := hof.mp hrel.2
    rw [← hclaim]
    show none = Option.filter _ (refreshedPeer s.sec n FrameKind.release.member none s.peers.entries).claim
    rw [hc]
    simp [Option.filter, hser]
  · rw [if_neg hrel]
    refine ⟨_, ?_, hcommon, fun hop => ?_⟩
    · split
      · exact hn.recompute
      · exact hn
    · rw [← hclaim]
      show (refreshedPeer s.sec n FrameKind.release.member none s.peers.entries).claim
        = Option.filter _ (refreshedPeer s.sec n FrameKind.release.member none s.peers.entries).claim
      cases hc : (refreshedPeer s.sec n FrameKind.release.member none s.peers.entries).claim with
      | none => rfl
      | some c =>
        have hser : c.serial ≠ byteAt p 0 := fun h => hrel (by rw [hop, Bool.true_and]; exact hof.mpr ⟨c, hc, h⟩)
        simp [Option.filter, hser]

/-! ### The frames that another block takes -/

theorem offerKnockdowns_reports (theta node : Nat) (p : State × Nat) (f : FaceId) :
    SameReports p.1 (offerKnockdowns theta node p f).1 := by
  unfold offerKnockdowns
  split
  · split
    · rename_i r _ _
      have h := offerDemand_reports
        { face := f, cls := .knockdown, volume := p.1.cfg.vKnock, origin := .peerNotice node, deadline := none } p.1
      split <;> (rename_i heq; rw [heq] at h; exact h)
    · exact .refl _
  · exact .refl _

theorem foldl_knockdowns_reports (theta node : Nat) (l : List FaceId) (p : State × Nat) :
    SameReports p.1 (l.foldl (offerKnockdowns theta node) p).1 := by
  induction l generalizing p with
  | nil => exact .refl _
  | cons f l ih => exact (offerKnockdowns_reports theta node p f).trans (ih _)

theorem formAnswer_reports (theta node : Nat) (s : State) : SameReports s (formAnswer theta node s).1 := by
  unfold formAnswer
  split
  · exact .refl s
  · split
    · exact .refl s
    · split
      · exact .refl s
      · exact foldl_knockdowns_reports theta node allFaces (s, 0)

theorem sendAnswer_reports (a : PendingAnswer) (s : State) : SameReports s (sendAnswer a s) :=
  (lineOffer_reports a.content s).trans ⟨rfl, rfl⟩

theorem acceptSupply_reception (m : SupplyMsg) (s : State) :
    (acceptSupply m s).line.reception = s.line.reception := by
  let u := takeSupplyState m (takeDay m.day m.allowance s)
  have hu : u.line = s.line := takeDay_only m.day m.allowance s .line (by decide)
  have hg : SameReports u (gatingEffects s.gate u) := gatingEffects_reports _ u
  have hr : SameReports u (recomputeOnCapacity s.capacityInUse (gatingEffects s.gate u)) :=
    hg.trans (.ite (.refl _) (recompute_reports _))
  exact hr.reception.trans (congrArg Line.reception hu)

theorem handPlume_noted (n : Nat) (p : List Byte) (s : State) :
    NotedAs .plume n p s (handPlume n p (frameEnds s)) fun _ => True := by
  have hcommon := refreshedPeer_common s.sec n .station (some (payloadPosition p)) s.peers.entries
  have hn := heard_noted (k := .plume) (n := n) (pos := some (payloadPosition p)) (part := id) (fun _ => rfl) s
  show NotedAs .plume n p s (takePlume n (decodePlume p) (heard .plume n (some (payloadPosition p)) id (frameEnds s))) _
  unfold takePlume
  split
  · have h1 := hn.change (g := fun q => { q with acted := some (decodePlume p).serial }) fun _ => rfl
    have h2 := h1.after (formAnswer_only (decodePlume p).theta n _ .peers (by decide)) (formAnswer_reports _ n _).reception
    exact ⟨_, h2.after (sendAnswer_only _ _ .peers (by decide)) (sendAnswer_reports _ _).reception,
      ⟨hcommon.kind, hcommon.heard, hcommon.position⟩, trivial⟩
  · exact ⟨_, hn, hcommon, trivial⟩

theorem handCover_noted (n : Nat) (p : List Byte) (s : State) :
    NotedAs .cover n p s (handCover n p (frameEnds s)) fun _ => True := by
  have hcommon := refreshedPeer_common s.sec n .station none s.peers.entries
  have hn := heard_noted (k := .cover) (n := n) (pos := none) (part := id) (fun _ => rfl) s
  unfold handCover
  cases decodeCover p with
  | none => exact ⟨_, hn, hcommon, trivial⟩
  | some m =>
    exact ⟨_, hn.after (takeCoverFrame_only n m _ .peers (by decide))
      (congrArg Line.reception (takeCoverFrame_only n m _ .line (by decide))), hcommon, trivial⟩

theorem handForecast_noted (n : Nat) (p : List Byte) (s : State) :
    NotedAs .forecast n p s (handForecast n p (frameEnds s)) fun _ => True := by
  have hn := heard_noted (k := .forecast) (n := n) (pos := none) (part := id) (fun _ => rfl) s
  exact ⟨_, hn.after (takeForecast_only n (decodeForecast p) _ .peers (by decide))
    (congrArg Line.reception (takeForecast_only n (decodeForecast p) _ .line (by decide))),
    refreshedPeer_common s.sec n .mast none s.peers.entries, trivial⟩

theorem handSupply_noted (n : Nat) (p : List Byte) (s : State) :
    NotedAs .supply n p s (handSupply n p (frameEnds s)) fun _ => True := by
  have hcommon := refreshedPeer_common s.sec n .supply none s.peers.entries
  have hn := heard_noted (k := .supply) (n := n) (pos := none) (part := id) (fun _ => rfl) s
  unfold handSupply
  cases decodeSupply p with
  | none => exact ⟨_, hn, hcommon, trivial⟩
  | some m =>
    show NotedAs .supply n p s (takeSupply n m (heard .supply n none id (frameEnds s))) _
    unfold takeSupply
    split
    · exact ⟨_, hn.after (acceptSupply_only m _ .peers (by decide)) (acceptSupply_reception m _), hcommon, trivial⟩
    · exact ⟨_, hn, hcommon, trivial⟩

/-! ### A frame of another member (O31, O32) -/

/-- The parts that a frame handed on can change, whatever its kind. -/
theorem handKind_only (k : FrameKind) (n : Nat) (p : List Byte) (s : State) :
    onlyChanges (.account :: .forecast :: .dust :: handed) s (handKind k n p s) := by
  cases k with
  | status => exact only_mono (handStatus_only n p s) (by decide)
  | claim => exact only_mono (handClaim_only n p s) (by decide)
  | release => exact only_mono (handRelease_only n p s) (by decide)
  | plume => exact only_mono (handPlume_only n p s) (by decide)
  | cover => exact only_mono (handCover_only n p s) (by decide)
  | wind => exact only_mono (handWind_only n p s) (by decide)
  | forecast => exact only_mono (handForecast_only n p s) (by decide)
  | supply => exact only_mono (handSupply_only n p s) (by decide)
  | machine => exact only_mono (handMachine_only n p s) (by decide)

/-- A frame of another member is its handing on and the end of the arrival. -/
theorem exec_command {k : FrameKind} {n : Nat} {p : List Byte} {s : State} (hm : s.station.mode ≠ .start)
    (hw : frameWellFormed k n p = true) (hn : n ≠ s.station.node) :
    exec (Received.command ⟨n, k, p⟩) s = .next (closeArrival s (handKind k n p (frameEnds s))) := by
  rw [exec_started (command_ordinary _) hm, effectOf_command, takeFrame_of_other hw hn]

theorem handKind_noted (k : FrameKind) (n : Nat) (p : List Byte) (s : State) :
    NotedAs k n p s (handKind k n p (frameEnds s)) fun _ => True := by
  have weaken : ∀ {u own}, NotedAs k n p s u own → NotedAs k n p s u fun _ => True := fun ⟨q, h, hc, _⟩ =>
    ⟨q, h, hc, trivial⟩
  cases k with
  | status => exact weaken (handStatus_noted n p s)
  | claim => exact weaken (handClaim_noted n p s)
  | release => exact weaken (handRelease_noted n p s)
  | plume => exact handPlume_noted n p s
  | cover => exact handCover_noted n p s
  | wind => exact weaken (handWind_noted n p s)
  | forecast => exact handForecast_noted n p s
  | supply => exact handSupply_noted n p s
  | machine => exact weaken (handMachine_noted n p s)

/-- Settles O31. -/
theorem frameRefreshesSender : Obligations.FrameRefreshesSender := by
  unfold Obligations.FrameRefreshesSender
  intro k n p s hm hw hn
  obtain ⟨q, hnoted, hcommon, -⟩ := handKind_noted k n p s
  let u := handKind k n p (frameEnds s)
  have hu : onlyChanges (.account :: .forecast :: .dust :: handed) s u :=
    only_trans (only_mono (onLine_only s _) (by decide)) (handKind_only k n p _)
  have hall : onlyChanges (.account :: .forecast :: .dust :: handed) s (closeArrival s u) := close_only hu
  have hclosed := hnoted.close s
  have hrec := hclosed.reception
  refine ⟨closeArrival s u, q, exec_command hm hw hn, hclosed.entry, hcommon.kind, hcommon.heard, fun hk => ?_,
    hclosed.others, hclosed.sweep, fun hop => ?_, congrArg (fun r => r.2.1) hrec, congrArg (fun r => r.2.2.1) hrec,
    hall .station (by decide), hall .wind (by decide), hall .look (by decide), hall .lockout (by decide),
    hall .store (by decide), hall .panel (by decide), hall .pins (by decide), hall .now (by decide),
    hall .pending (by decide)⟩
  · refine hcommon.position _ ?_
    rcases hk with rfl | rfl | rfl | rfl <;> rfl
  · have hiso := congrArg (fun r => r.2.2.2.1) hrec
    have hisd := congrArg (fun r => r.2.2.2.2.1) hrec
    simp only [heardReception, hop, if_true] at hiso hisd
    exact ⟨hiso, hisd⟩

/-- A RELEASE of a serial that the sender holds is a recompute, with the claim part gone. -/
theorem handRelease_recomputes {n : Nat} {p : List Byte} {s : State} (hop : s.operational = true)
    (h : s.claimOf n (byteAt p 0) = true) : ∃ u, handRelease n p (frameEnds s) = recompute u ∧ SameOwn s u := by
  have hk : SameOwn s (handClaimKind .release n (frameEnds s)) :=
    (sameOwn_of_only (u := frameEnds s) (onLine_only s _)).trans (sameOwn_of_only (handClaimKind_only .release n _))
  have hn := handClaimKind_noted .release n s
  unfold handRelease
  simp only [handClaimKind_operational, hop, Bool.true_and]
  split
  · exact ⟨_, rfl, hk.trans (sameOwn_of_only (setPeerEntries_only _ _))⟩
  · rename_i hnot
    have hloses : (frameEnds s).losesClaim .release n = true := by
      cases hq : findPeer n s.peers.entries with
      | none => simp [State.claimOf, hq] at h
      | some q =>
        obtain ⟨c, hc, hser⟩ := (claimOf_of_entry hq).mp h
        have hgone : (q.refresh s.sec .station).claim = none := by
          cases hr : (q.refresh s.sec .station).claim with
          | none => rfl
          | some d =>
            have hd := refreshedPeer_claim s.sec n .station s.peers.entries
            rw [hq, Option.bind_some, hr] at hd
            have hsame : q.claim = some d := Peer.refresh_claim hr
            rw [hc, Option.some.injEq] at hsame
            exact absurd ((claimOf_of_entry hn.entry).mpr ⟨d, hd, hsame ▸ hser⟩) hnot
        show refreshRemovesClaim s.sec n .station s.peers.entries = true
        unfold refreshRemovesClaim
        rw [hq]
        simp [hc, hgone]
    rw [if_pos hloses]
    exact ⟨_, rfl, hk⟩

theorem handClaim_recomputes {n : Nat} {p : List Byte} {s : State} (hop : s.operational = true)
    (hc : (demandClassOf (byteAt p 1)).isSome = true) :
    ∃ u, handClaim n p (frameEnds s) = recompute u ∧ SameOwn s u := by
  obtain ⟨c, hc⟩ := Option.isSome_iff_exists.mp hc
  have hk : SameOwn s (handClaimKind .claim n (frameEnds s)) :=
    (sameOwn_of_only (u := frameEnds s) (onLine_only s _)).trans (sameOwn_of_only (handClaimKind_only .claim n _))
  exact ⟨_, handClaim_of_class hc hop, hk.trans (sameOwn_of_only (setPeerEntries_only _ _))⟩

/-- What O32 says of the sender's entry, whatever the kind of the frame. -/
def partsWritten (k : FrameKind) (n : Nat) (p : List Byte) (s : State) (q : Peer) : Prop :=
  (k = .status → statusPart p s q) ∧ (k = .wind → windReportPart p s q) ∧ (k = .machine → machinePart p q)
    ∧ (k = .claim → claimedPart p s q) ∧ (k = .release → releasedPart n p s q)

theorem handKind_parts (k : FrameKind) (n : Nat) (p : List Byte) (s : State) :
    ∃ q, Noted n q s (handKind k n p (frameEnds s)) ∧ partsWritten k n p s q := by
  cases k with
  | status =>
    obtain ⟨q, h, -, hown⟩ := handStatus_noted n p s
    exact ⟨q, h, fun _ => hown, nofun, nofun, nofun, nofun⟩
  | wind =>
    obtain ⟨q, h, -, hown⟩ := handWind_noted n p s
    exact ⟨q, h, nofun, fun _ => hown, nofun, nofun, nofun⟩
  | machine =>
    obtain ⟨q, h, -, hown⟩ := handMachine_noted n p s
    exact ⟨q, h, nofun, nofun, fun _ => hown, nofun, nofun⟩
  | claim =>
    obtain ⟨q, h, -, hown⟩ := handClaim_noted n p s
    exact ⟨q, h, nofun, nofun, nofun, fun _ => hown, nofun⟩
  | release =>
    obtain ⟨q, h, -, hown⟩ := handRelease_noted n p s
    exact ⟨q, h, nofun, nofun, nofun, nofun, fun _ => hown⟩
  | plume | cover | forecast | supply =>
    obtain ⟨q, h, -⟩ := handKind_noted _ n p s
    exact ⟨q, h, nofun, nofun, nofun, nofun, nofun⟩

/-- Settles O32. -/
theorem frameParts : Obligations.FrameParts := by
  unfold Obligations.FrameParts
  intro k n p s hop hw hn
  obtain ⟨q, hnoted, hstatus, hwind, hmachine, hclaim, hrelease⟩ := handKind_parts k n p s
  refine ⟨_, q, exec_command (operational_ne_start hop) hw hn, (hnoted.close s).entry, fun c hk hc => ?_, hwind,
    fun b hk => hmachine hk b, fun c hk => hclaim hk c hop, fun hk => hrelease hk hop, fun hk hc => ?_,
    fun hk hc => ?_⟩
  · obtain ⟨hsummary, hreport, hacted⟩ := hstatus hk c hc
    exact ⟨hsummary, hreport, hacted hop⟩
  · subst hk
    obtain ⟨u, hu, hsame⟩ := handClaim_recomputes (n := n) hop hc
    show recomputed s (closeArrival s (handClaim n p (frameEnds s)))
    rw [hu]
    exact recompute_recomputed hsame s
  · subst hk
    obtain ⟨u, hu, hsame⟩ := handRelease_recomputes (n := n) hop hc
    show recomputed s (closeArrival s (handRelease n p (frameEnds s)))
    rw [hu]
    exact recompute_recomputed hsame s

end Sys2Proof.Machine
end


section
/-! PROOFS. The answers to a notice, the sweep of the Peer Map and the supply frame (O25, O30, O38). -/

namespace Sys2Proof.Machine

/-! ### The cover list (O30) -/

theorem putCover_of_present {e : CoverEntry} {cs : List CoverEntry} (h : ∃ c ∈ cs, c.responder = e.responder) :
    putCover e cs = cs.map fun c => if c.responder = e.responder then e else c :=
  if_pos (by simpa using h)

theorem putCover_of_new {e : CoverEntry} {cs : List CoverEntry} (h : ∀ c ∈ cs, c.responder ≠ e.responder) :
    putCover e cs = if cs.length < 8 then cs ++ [e] else cs :=
  if_neg (by simpa using h)

theorem takeCover_cover (sec : Nat) (e : CoverEntry) (d : Dust) : (d.takeCover sec e).cover = putCover e d.cover := by
  unfold Dust.takeCover
  simp only
  split <;> rfl

/-- A covered notice, and an answer that does not cover, leave the marker and the response window. -/
theorem takeCover_of_spent {e : CoverEntry} {d : Dust} (sec : Nat) (h : d.covered = true ∨ e.covers = false) :
    d.takeCover sec e = { d with cover := putCover e d.cover } := by
  unfold Dust.takeCover
  simp only
  rw [if_neg]
  rcases h with h | h <;> simp [h]

theorem takeCover_of_first {e : CoverEntry} {d : Dust} (sec : Nat) (h : d.covered = false) (hc : e.covers = true) :
    d.takeCover sec e =
      { d with cover := putCover e d.cover, covered := true, coverage := some sec, response := .stopped } := by
  unfold Dust.takeCover
  simp only
  rw [if_pos (by simp [h, hc])]

/-- Settles O30. -/
theorem coverIsTaken : Obligations.CoverIsTaken := by
  unfold Obligations.CoverIsTaken
  intro n p s hop hw hn _
  have hexec := exec_command (operational_ne_start hop) hw hn
  let u := heard .cover n none id (frameEnds s)
  have hu : onlyChanges handed s u := heard_only .cover n none id s
  have hdust : u.dust = s.dust := hu .dust (by decide)
  have hstation : u.station = s.station := hu .station (by decide)
  have hsec : u.sec = s.sec := congrArg (· / 1000) (hu .now (by decide))
  refine ⟨_, hexec, fun answer hanswer htarget hlevel hserial => ?_, fun hother => ?_, close_only ?_⟩
  · rw [closeArrival_dust]
    have heff : handKind .cover n p (frameEnds s) =
        u.setDust (s.dust.takeCover s.sec
          { responder := n, answer := answer, count := if answer = .queued then byteAt p 3 else 0, time := s.sec }) := by
      show handCover n p (frameEnds s) = _
      unfold handCover decodeCover
      rw [hanswer]
      show takeCoverFrame n { target := byteAt p 0, serial := byteAt p 1, answer := answer, count := byteAt p 3 } u = _
      unfold takeCoverFrame
      rw [if_pos, State.onDust, hdust, hsec]
      refine ⟨?_, htarget.trans (by rw [hstation]), ?_, by rw [hdust]; exact hserial⟩
      · unfold State.operational
        rw [hstation]
        exact hop
      · unfold State.noticeStands
        rw [hdust]
        simpa using hlevel
    rw [heff, State.setDust_dust]
    refine ⟨fun h => ?_, fun h => ?_, fun h => ?_, fun h hc => ?_⟩
    · rw [takeCover_cover]
      exact putCover_of_present h
    · rw [takeCover_cover]
      exact putCover_of_new h
    · rw [takeCover_of_spent]
      · exact ⟨rfl, rfl, rfl⟩
      · refine h.imp id fun h => ?_
        simp only [CoverEntry.covers]
        refine Bool.eq_false_iff.2 fun hcov => ?_
        rw [Bool.and_eq_true, decide_eq_true_eq, decide_eq_true_eq] at hcov
        obtain ⟨hq, hcount⟩ := hcov
        rw [if_pos hq] at hcount
        exact h ⟨hq, hcount⟩
    · rw [takeCover_of_first s.sec h]
      · exact ⟨rfl, rfl, rfl⟩
      · simp [CoverEntry.covers, hc.1, hc.2]
  · rw [closeArrival_dust]
    show (handCover n p (frameEnds s)).dust = _
    unfold handCover decodeCover
    cases hanswer : coverAnswerOf (byteAt p 2) with
    | none => exact hdust
    | some answer =>
      show (takeCoverFrame n { target := byteAt p 0, serial := byteAt p 1, answer := answer, count := byteAt p 3 }
        u).dust = _
      unfold takeCoverFrame
      rw [if_neg]
      · exact hdust
      · rintro ⟨-, htarget, hstands, hserial⟩
        rw [hstation] at htarget
        rw [hdust] at hserial
        unfold State.noticeStands at hstands
        rw [hdust] at hstands
        rcases hother with h | h | h | h | h
        · rw [hanswer] at h
          cases h
        · exact h htarget
        · simp [h] at hstands
        · simp [h] at hstands
        · exact h hserial
  · exact only_mono (only_trans (only_mono (onLine_only s _) (by decide)) (handCover_only n p _)) (by decide)

/-! ### The sweep (O38) -/

theorem liveness_lost_iff (sec : Nat) (p : Peer) : p.liveness sec = .lost ↔ 150 < sec - p.heard := by
  unfold Peer.liveness livenessOf Peer.age
  by_cases h1 : sec - p.heard ≤ 60
  · rw [if_pos h1]
    exact ⟨nofun, fun h => by omega⟩
  · rw [if_neg h1]
    by_cases h2 : sec - p.heard ≤ 150
    · rw [if_pos h2]
      exact ⟨nofun, fun h => by omega⟩
    · rw [if_neg h2]
      exact ⟨fun _ => by omega, fun _ => rfl⟩

/-- An entry without parts is as it is after the LOST transition. -/
theorem Peer.stripped_of_bare {p : Peer} (h : p.hasPart = false) : p.stripped = p := by
  simp only [Peer.hasPart, Bool.or_eq_false_iff, Option.isSome_eq_false_iff, Option.isNone_iff_eq_none] at h
  obtain ⟨⟨⟨⟨hs, hw⟩, hc⟩, ha⟩, hm⟩ := h
  unfold Peer.stripped
  rw [← hs, ← hw, ← hc, ← ha, ← hm]

/-- One entry at a sweep (R144, R145). -/
theorem Peer.swept_eq (sec : Nat) (p : Peer) :
    p.swept sec =
      if 150 < sec - p.heard then p.stripped
      else { p with claim := p.claim.filter fun c => decide (sec - c.announce ≤ 75) } := by
  unfold Peer.swept
  by_cases hold : 150 < sec - p.heard
  · rw [if_pos hold]
    cases hp : p.hasPart with
    | true => rw [if_pos ⟨(liveness_lost_iff sec p).mpr hold, rfl⟩]
    | false =>
      rw [if_neg (by simp), Peer.stripped_of_bare hp]
      simp only [Peer.hasPart, Bool.or_eq_false_iff, Option.isSome_eq_false_iff, Option.isNone_iff_eq_none] at hp
      obtain ⟨⟨⟨⟨-, -⟩, hc⟩, -⟩, -⟩ := hp
      rw [hc]
  · rw [if_neg (by exact fun h => hold ((liveness_lost_iff sec p).mp h.1)), if_neg hold]
    obtain ⟨node, kind, position, heard, summary, wind, claim, acted, machine⟩ := p
    cases claim with
    | none => rfl
    | some c =>
      simp only [ClaimPart.live, Option.filter]
      by_cases hlive : sec - c.announce ≤ 75
      · simp only [decide_eq_true hlive, if_true]
      · simp only [decide_eq_false hlive, Bool.false_eq_true, if_false]

/-- A sweep removes a claim part exactly where one is stale or its entry is LOST. -/
theorem sweepRemovesClaim_iff (sec : Nat) (ps : List Peer) :
    sweepRemovesClaim sec ps = true ↔
      ∃ p ∈ ps, ∃ c, p.claim = some c ∧ (75 < sec - c.announce ∨ 150 < sec - p.heard) := by
  unfold sweepRemovesClaim
  simp only [List.any_eq_true, Bool.and_eq_true, Option.isSome_iff_exists, Option.isNone_iff_eq_none]
  refine exists_congr fun p => and_congr_right fun _ => ⟨fun ⟨⟨c, hc⟩, hgone⟩ => ⟨c, hc, ?_⟩,
    fun ⟨c, hc, hold⟩ => ⟨⟨c, hc⟩, ?_⟩⟩
  · rw [Peer.swept_eq, hc] at hgone
    refine Classical.byContradiction fun hlive => ?_
    rw [not_or] at hlive
    rw [if_neg hlive.2] at hgone
    simp at hgone
    omega
  · rw [Peer.swept_eq, hc]
    by_cases hl : 150 < sec - p.heard
    · rw [if_pos hl]
      rfl
    · rw [if_neg hl]
      have h75 := hold.resolve_right hl
      simp
      omega

/-- Settles O38. -/
theorem sweepAndIsolation : Obligations.SweepAndIsolation := by
  unfold Obligations.SweepAndIsolation
  intro due s hs hm hdue
  refine ⟨fun hsweep => ?_, fun hiso => ?_⟩
  · let u := s.setPeers { entries := s.peers.entries.map (Peer.swept s.sec), sweep := .running (due + 10000) }
    have heff : effectOf .sweep s = if sweepRemovesClaim s.sec s.peers.entries then recompute u else u := by
      show takeSweep s = _
      unfold takeSweep
      rw [hsweep, isDue_running hdue]
      rfl
    have hown : SameOwn s u := ⟨rfl, rfl, rfl, rfl, rfl, rfl⟩
    have hpeers : (if sweepRemovesClaim s.sec s.peers.entries then recompute u else u).peers = u.peers := by
      split
      · exact recompute_only u .peers (by decide)
      · rfl
    refine ⟨_, exec_eq hm heff, ?_, ?_, fun hlive => ?_, fun hstale => ?_, close_only ?_⟩
    · rw [closeArrival_peers, hpeers]
      rfl
    · rw [closeArrival_peers, hpeers]
      exact List.map_congr_left fun p _ => Peer.swept_eq s.sec p
    · have hno : sweepRemovesClaim s.sec s.peers.entries = false := by
        rw [Bool.eq_false_iff, Ne, sweepRemovesClaim_iff]
        rintro ⟨p, hp, c, hc, hold⟩
        have := hlive p hp c hc
        omega
      have hexec := exec_of_same (c := .sweep) hs hm (heff.trans (if_neg (by simp [hno]))) rfl rfl rfl rfl rfl
      rw [exec_eq hm heff] at hexec
      rw [Host.Outcome.next.inj hexec]
      exact setPeers_only s _
    · rw [if_pos ((sweepRemovesClaim_iff _ _).mpr hstale)]
      exact recompute_recomputed hown s
    · exact only_trans (only_mono (setPeers_only s _) (by decide))
        (only_ite (only_mono (recompute_only u) (by decide)) (only_refl _ u))
  · have heff : effectOf .isolationExpiry s = s.setLine { s.line with isolation := .stopped, isolated := true } := by
      show takeIsolation s = _
      unfold takeIsolation
      rw [hiso, isDue_running hdue]
      rfl
    refine ⟨_, exec_quiet hs hm heff rfl rfl, rfl, ?_, only_trans (only_mono (setLine_only s _) (by decide))
      (only_mono (syncAlarms_only _) (by decide)), fun i hi => ?_⟩
    · rw [← closeArrival_alarms s]
      exact closeArrival_follow s _ (i := .lineIsolated) rfl
    · refine syncAlarms_flag_same (hs.1 hm) rfl ?_
      cases i <;> first | rfl | exact absurd (List.mem_singleton.mpr rfl) hi

/-! ### The supply frame (O25) -/

/-- The state in which an accepted frame has replaced the supply state and set the day, before its effects. -/
def supplyTaken (m : SupplyMsg) (s : State) : State := takeSupplyState m (takeDay m.day m.allowance s)

theorem acceptSupply_eq (m : SupplyMsg) (s : State) :
    acceptSupply m s = recomputeOnCapacity s.capacityInUse (gatingEffects s.gate (supplyTaken m s)) := rfl

theorem supplyTaken_only (m : SupplyMsg) (s : State) : onlyChanges [.account, .face, .claim] s (supplyTaken m s) :=
  only_trans (only_mono (takeDay_only _ _ s) (by decide)) (only_mono (setClaim_only _ _) (by decide))

theorem supplyTaken_claim (m : SupplyMsg) (s : State) :
    (supplyTaken m s).claim =
      { s.claim with
        supply :=
          { capacity := some m.capacity, source := m.source, pond := some m.pond, day := some m.day
            allowance := m.allowance, lastArrival := some s.sec, staleTimer := .running (s.now + 300000),
            stale := false } } := by
  have hday := takeDay_only m.day m.allowance s
  have hc : (takeDay m.day m.allowance s).claim = s.claim := hday .claim (by decide)
  have hn : (takeDay m.day m.allowance s).now = s.now := hday .now (by decide)
  unfold supplyTaken takeSupplyState
  rw [State.setClaim_claim, hc, State.sec, hn]
  rfl

theorem supplyTaken_sameOwn (m : SupplyMsg) (s : State) : SameOwn s (supplyTaken m s) := by
  have h := supplyTaken_only m s
  exact ⟨h .now (by decide), h .station (by decide), h .cannon (by decide), h .queue (by decide),
    by rw [supplyTaken_claim], h .lockout (by decide)⟩

theorem takeDay_account_of_same {d a : Nat} {s : State}
    (h : s.account.today.day = none ∨ s.account.today.day = some d) :
    (takeDay d a s).account =
      { s.account with
        today := { s.account.today with day := some d, allowance := max s.account.today.allowance a } } := by
  unfold takeDay
  rcases h with h | h
  · rw [h]
    rfl
  · rw [h]
    simp only [if_true]
    rw [← h]
    rfl

theorem takeDay_of_new {d a day : Nat} {s : State} (h : s.account.today.day = some day) (hne : day ≠ d) :
    takeDay d a s = rollover (some d) a s := by
  unfold takeDay
  rw [h]
  exact if_neg hne

/-- The effects of an accepted frame leave the supply state and the account as the frame has set them. -/
theorem acceptSupply_reports (m : SupplyMsg) (s : State) : SameReports (supplyTaken m s) (acceptSupply m s) :=
  (gatingEffects_reports _ _).trans (.ite (.refl _) (recompute_reports _))

theorem acceptSupply_effects_only (m : SupplyMsg) (s : State) : onlyChanges deep (supplyTaken m s) (acceptSupply m s) :=
  only_trans (gatingEffects_only _ _) (recomputeOnCapacity_only _ _)

theorem acceptSupply_prewet (m : SupplyMsg) (s : State) : prewetOnly (supplyTaken m s) (acceptSupply m s) :=
  prewet_trans (gatingEffects_prewet _ _) (prewet_ite (prewet_refl _) (recompute_prewet _))

theorem recomputeOnCapacity_of_asked {n : Nat} {s : State} (h : recompute s = s) : recomputeOnCapacity n s = s := by
  unfold recomputeOnCapacity
  rw [h, ite_self]

theorem capacityInUse_congr {s t : State} (hc : t.claim.supply = s.claim.supply) (hst : t.station = s.station) :
    t.capacityInUse = s.capacityInUse := by
  unfold State.capacityInUse State.cfg
  rw [hc, hst]

/-- An accepted frame has the results of a changed gating, and the recompute of a changed capacity in use (R95). -/
theorem acceptSupply_followed {m : SupplyMsg} {s u : State} (hsame : SameOwn s u) (hgate : u.gate = s.gate)
    (hcap : u.capacityInUse = s.capacityInUse) (hinv : cannonInv s) :
    gatingFollowed s (closeArrival s (acceptSupply m u))
      ∧ ((closeArrival s (acceptSupply m u)).gate = s.gate →
          (closeArrival s (acceptSupply m u)).capacityInUse ≠ s.capacityInUse →
          recomputed s (closeArrival s (acceptSupply m u))) := by
  let w := supplyTaken m u
  have hw : SameOwn s w := hsame.trans (supplyTaken_sameOwn m u)
  have hrep := acceptSupply_reports m u
  have honly := acceptSupply_effects_only m u
  have hst : (acceptSupply m u).station = w.station := honly .station (by decide)
  have hg : (acceptSupply m u).gate = w.gate := gate_congr hrep.supply (honly .account (by decide)) hst
  refine ⟨gatingFollowed_of hw s hg hst (fun ch hne hc hno => ?_) fun e hne ht he => ?_, fun hsamegate hcapne => ?_⟩
  · rw [acceptSupply_eq, hgate, gatingEffects_stops (s := w) hne hc hno]
    exact recomputeOnCapacity_of_asked (recompute_chainEnd hc)
  · have hnone : w.claim.own.state = .none := by
      rw [hw.own]
      obtain ⟨-, -, -, hclaim, -, hrequest, -, hchain⟩ := hinv
      refine Classical.byContradiction fun hasked => ?_
      have hsome := hchain (.inr (hclaim hasked))
      rw [hrequest (by rw [← hw.queue]; exact ht.request)] at hsome
      cases hsome
    rw [acceptSupply_eq, hgate, gatingEffects_selects (s := w) hne ht he]
    exact recomputeOnCapacity_of_asked (recompute_startChain hnone)
  · rw [closeArrival_gate, hg] at hsamegate
    have heff : gatingEffects u.gate (supplyTaken m u) = w := gatingEffects_of_same (hsamegate.trans hgate.symm)
    rw [acceptSupply_eq, heff] at hcapne ⊢
    have hrec : recomputeOnCapacity u.capacityInUse w = recompute w := by
      refine if_neg fun h => hcapne ?_
      unfold recomputeOnCapacity
      rw [if_pos h, ← hcap, ← h]
      exact capacityInUse_congr (by rw [closeArrival_claim]) (closeArrival_station s w)
    rw [hrec]
    exact recompute_recomputed hw s

/-- The state with the sender's entry and the reception, before a recompute. -/
def entered (k : FrameKind) (n : Nat) (pos : Option (Nat × Nat)) (part : Peer → Peer) (s : State) : State :=
  (hearFrame (frameEnds s)).setPeerEntries
    (putPeer (part (refreshedPeer s.sec n k.member pos s.peers.entries)) s.peers.entries)

theorem entered_only (k : FrameKind) (n : Nat) (pos : Option (Nat × Nat)) (part : Peer → Peer) (s : State) :
    onlyChanges [.peers, .line] s (entered k n pos part s) :=
  only_trans (only_mono (onLine_only s _) (by decide))
    (only_trans (only_mono (hearFrame_only _) (by decide)) (only_mono (setPeerEntries_only _ _) (by decide)))

theorem heard_cases (k : FrameKind) (n : Nat) (pos : Option (Nat × Nat)) (part : Peer → Peer) (s : State) :
    heard k n pos part (frameEnds s) = entered k n pos part s
      ∨ heard k n pos part (frameEnds s) = recompute (entered k n pos part s) := by
  cases h : refreshRemovesClaim s.sec n k.member s.peers.entries with
  | false => exact .inl (if_neg (by exact Bool.eq_false_iff.mp h))
  | true => exact .inr (if_pos (by exact h))

theorem heard_of_free {k : FrameKind} {n : Nat} {pos : Option (Nat × Nat)} {part : Peer → Peer} {s : State}
    (h : (findPeer n s.peers.entries).bind Peer.claim = none) :
    heard k n pos part (frameEnds s) = entered k n pos part s := by
  have hno : refreshRemovesClaim s.sec n k.member s.peers.entries = false := by
    unfold refreshRemovesClaim
    cases hp : findPeer n s.peers.entries with
    | none => rfl
    | some p =>
      rw [hp, Option.bind_some] at h
      simp [h]
  exact if_neg (by exact Bool.eq_false_iff.mp hno)

/-- Where the sender holds no claim part, its frame leaves the station's own state. -/
theorem heard_sameOwn {k : FrameKind} {n : Nat} {pos : Option (Nat × Nat)} {part : Peer → Peer} {s : State}
    (h : (findPeer n s.peers.entries).bind Peer.claim = none) : SameOwn s (heard k n pos part (frameEnds s)) := by
  rw [heard_of_free h]
  exact sameOwn_of_only (entered_only k n pos part s)

theorem heard_supply (k : FrameKind) (n : Nat) (pos : Option (Nat × Nat)) (part : Peer → Peer) (s : State) :
    (heard k n pos part (frameEnds s)).claim.supply = s.claim.supply := by
  have hu : (entered k n pos part s).claim = s.claim := entered_only k n pos part s .claim (by decide)
  rcases heard_cases k n pos part s with h | h <;> rw [h]
  · rw [hu]
  · rw [(recompute_reports _).supply, hu]

/-- Settles O25. -/
theorem supplyIsTaken : Obligations.SupplyIsTaken := by
  unfold Obligations.SupplyIsTaken
  intro n p s hop hw hn
  let u := heard .supply n none id (frameEnds s)
  have hu : onlyChanges handed s u := heard_only .supply n none id s
  have hsupply : u.claim.supply = s.claim.supply := heard_supply .supply n none id s
  have haccount : u.account = s.account := hu .account (by decide)
  have hstation : u.station = s.station := hu .station (by decide)
  have hnow : u.now = s.now := hu .now (by decide)
  have hcfg : u.cfg = s.cfg := by simp only [State.cfg, hstation]
  have hopu : u.operational = true := by simpa only [State.operational, hstation] using hop
  refine ⟨_, exec_command (operational_ne_start hop) hw hn, fun hother => ?_, fun src hnode hsrc => ?_, close_only ?_⟩
  · rw [closeArrival_account, closeArrival_claim]
    have hheard : handKind .supply n p (frameEnds s) = u := by
      show handSupply n p (frameEnds s) = u
      unfold handSupply decodeSupply
      cases hsrc : waterSourceOf (byteAt p 2) with
      | none => rfl
      | some src =>
        show takeSupply n _ u = u
        unfold takeSupply
        rw [hcfg]
        refine if_neg fun ⟨_, hnode⟩ => ?_
        rcases hother with h | h
        · exact h hnode
        · unfold waterSourceOf at hsrc
          rw [if_neg (by omega), if_neg (by omega)] at hsrc
          cases hsrc
    rw [hheard]
    exact ⟨haccount, hsupply⟩
  · let m : SupplyMsg :=
      { capacity := min 2000 (word16At p 0), source := src, pond := min 100 (byteAt p 3), day := word16At p 4
        allowance := word24At p 6 }
    have heff : handKind .supply n p (frameEnds s) = acceptSupply m u := by
      show handSupply n p (frameEnds s) = _
      unfold handSupply decodeSupply
      rw [hsrc]
      show takeSupply n m u = _
      unfold takeSupply
      rw [hcfg]
      exact if_pos ⟨hopu, hnode⟩
    have honly := acceptSupply_effects_only m u
    have hacc : (acceptSupply m u).account = (takeDay (word16At p 4) (word24At p 6) u).account :=
      honly .account (by decide)
    rw [heff, closeArrival_account, closeArrival_claim, closeArrival_face, hacc]
    refine ⟨?_, fun hday => ?_, fun day hday hne => ⟨?_, fun f r hr => ?_⟩, fun hinv hfree => ?_⟩
    · rw [(acceptSupply_reports m u).supply, supplyTaken_claim, State.sec, hnow]
      rfl
    · rw [takeDay_account_of_same (by rw [haccount]; exact hday), haccount]
    · rw [takeDay_of_new (by rw [haccount]; exact hday) hne]
      show Account.mk _ u.account.today u.sec = _
      rw [haccount, State.sec, hnow]
      rfl
    · rcases (acceptSupply_prewet m u).2 f with ⟨hnone, -⟩ | ⟨q, x, hq, ht⟩
      · rw [hnone] at hr
        cases hr
      · rw [ht, Option.some.injEq] at hr
        rw [← hr]
        have hday : takeDay m.day m.allowance u = rollover (some m.day) m.allowance u :=
          takeDay_of_new (by rw [haccount]; exact hday) hne
        have hface : (supplyTaken m u).face = (takeDay m.day m.allowance u).face :=
          setClaim_only (takeDay m.day m.allowance u) _ .face (by decide)
        rw [hface, hday] at hq
        have hzero : q.runoff = 0 := rollover_runoff _ _ u hq
        exact hzero
    · exact acceptSupply_followed (heard_sameOwn hfree) (gate_congr hsupply haccount hstation)
        (capacityInUse_congr hsupply hstation) hinv
  · exact only_mono (only_trans (only_mono (onLine_only s _) (by decide)) (handSupply_only n p _)) (by decide)

end Sys2Proof.Machine
end


section
/-! PROOFS. The duplicate, the access to the line, the end of a transmission and STATUS (O34 to O37). -/

namespace Sys2Proof.Machine

/-! ### A STATUS offered (R161) -/

/-- A queued STATUS that waits, or a place: the queue takes a STATUS. -/
def Line.takesStatus (l : Line) : Prop := l.queue.length < 8 ∨ ∃ f ∈ l.queue, f.waitingStatus = true

/-- STATUS was offered and taken: it stands in the queue, and its measures start again. -/
structure StatusTaken (s t : State) : Prop where
  queued : ∃ f ∈ t.line.queue, f.content = buildStatus s
  period : t.line.period = .running (s.now + 30000)
  spacing : t.line.spacing = .running (s.now + 2000)
  lastStatus : t.line.lastStatus = some s.now
  due : t.line.due = false

theorem findIdx?_split {α : Type} {p : α → Bool} {q : List α} (h : ∃ x ∈ q, p x = true) :
    ∃ pre a post, q = pre ++ a :: post ∧ p a = true ∧ ∀ x ∈ pre, p x = false := by
  induction q with
  | nil => simp at h
  | cons x q ih =>
    cases hx : p x with
    | true => exact ⟨[], x, q, rfl, hx, by simp⟩
    | false =>
      obtain ⟨y, hy, hpy⟩ := h
      rcases List.mem_cons.mp hy with rfl | hy
      · rw [hx] at hpy
        cases hpy
      · obtain ⟨pre, a, post, rfl, ha, hpre⟩ := ih ⟨y, hy, hpy⟩
        refine ⟨x :: pre, a, post, rfl, ha, fun z hz => ?_⟩
        rcases List.mem_cons.mp hz with rfl | hz
        · exact hx
        · exact hpre z hz

theorem offerStatus_taken {s : State} (hrun : s.station.mode = .run) (h : s.line.takesStatus) :
    StatusTaken s (offerStatus s) := by
  have htaken : ∃ l, s.line.offer s.sec (buildStatus s) = (l, true) ∧ ∃ f ∈ l.queue, f.content = buildStatus s := by
    by_cases hw : ∃ f ∈ s.line.queue, f.waitingStatus = true
    · obtain ⟨pre, f, post, hq, hf, hpre⟩ := findIdx?_split hw
      have hrep : ∀ g, replacedBy (buildStatus s) g ↔ g.waitingStatus = true := fun g =>
        (replacedBy_iff (buildStatus s) g).symm
      exact ⟨_, offer_replaces hq ((hrep f).mpr hf)
        fun g hg h => Bool.eq_false_iff.mp (hpre g hg) ((hrep g).mp h), _, List.mem_append_right _ List.mem_cons_self, rfl⟩
    · have hnone : ∀ f ∈ s.line.queue, ¬ replacedBy (buildStatus s) f := fun f hf h =>
        hw ⟨f, hf, (replacedBy_iff (buildStatus s) f).mpr h⟩
      exact ⟨_, offer_appends hnone (h.resolve_right hw), _, List.mem_append_right _ List.mem_cons_self, rfl⟩
  obtain ⟨l, hl, f, hf, hc⟩ := htaken
  unfold offerStatus
  rw [lineOffer_of_run hrun, hl]
  exact ⟨⟨f, hf, hc⟩, rfl, rfl, rfl, rfl⟩

theorem offerStatus_refused {s : State} (hrun : s.station.mode = .run) (h : ¬ s.line.takesStatus) :
    offerStatus s = s.setLine { s.line with due := true, refused := true } := by
  rw [Line.takesStatus, not_or, Nat.not_lt] at h
  have hnone : ∀ f ∈ s.line.queue, ¬ replacedBy (buildStatus s) f := fun f hf hr =>
    h.2 ⟨f, hf, (replacedBy_iff (buildStatus s) f).mpr hr⟩
  unfold offerStatus
  rw [lineOffer_of_run hrun, offer_refuses hnone h.1 (.inl rfl)]
  rfl

theorem offerStatus_left (s : State) : (offerStatus s).line.left = s.line.left := by
  unfold offerStatus
  simp only
  split <;> exact lineOffer_left _ s

/-! ### A frame leaves the queue (R158 to R161; O36) -/

/-- The line after the frame in transmission has left, with the frames that stay. -/
def Line.without (now : Nat) (rest : List TxFrame) (l : Line) : Line :=
  { l with
    queue := rest, access := if rest.isEmpty then .idle else .waiting, quietSince := now, left := true }

section Transmission

variable {pre post : List TxFrame} {f : TxFrame} {l : Line}

theorem txIndex_first (hq : l.queue = pre ++ f :: post) (hf : f.inTx = true) (hrest : ∀ g ∈ pre ++ post, g.inTx = false) :
    l.txIndex = some pre.length := by
  unfold Line.txIndex
  rw [hq]
  exact findIdx?_first hf fun g hg => hrest g (List.mem_append_left _ hg)

theorem txFrame_first (hq : l.queue = pre ++ f :: post) (hf : f.inTx = true)
    (hrest : ∀ g ∈ pre ++ post, g.inTx = false) : l.txFrame? = some f := by
  unfold Line.txFrame?
  rw [txIndex_first hq hf hrest, hq]
  simp

theorem dropTx_first (hq : l.queue = pre ++ f :: post) (hf : f.inTx = true) (hrest : ∀ g ∈ pre ++ post, g.inTx = false)
    (now : Nat) : l.dropTx now = l.without now (pre ++ post) := by
  unfold Line.dropTx
  rw [txIndex_first hq hf hrest]
  simp only [hq, eraseIdx_first]
  rfl

theorem backOff_first (hq : l.queue = pre ++ f :: post) (hf : f.inTx = true)
    (hrest : ∀ g ∈ pre ++ post, g.inTx = false) (now node attempts : Nat) :
    l.backOff now node attempts =
      { l with
        queue := pre ++ { f with inTx := false, attempts := attempts } :: post
        access := .backoff, quietSince := now, backoff := .running (now + ((node + 7 * attempts) % 16 + 1)) } := by
  have hstay : ∀ q : List TxFrame, (∀ g ∈ q, g.inTx = false) →
      q.map (fun g => if g.inTx then { g with inTx := false, attempts := attempts } else g) = q := by
    intro q h
    exact (List.map_congr_left fun g hg => if_neg (by simp [h g hg])).trans (List.map_id q)
  unfold Line.backOff
  rw [hq, List.map_append, List.map_cons, hstay pre fun g hg => hrest g (List.mem_append_left _ hg),
    hstay post fun g hg => hrest g (List.mem_append_right _ hg), hf]
  rfl

end Transmission

/-- A frame has left the queue, and the frames `rest` stayed: what the end of the arrival makes of the line. -/
structure FrameLeft (s t : State) (rest : List TxFrame) : Prop where
  urgent : (t.line.queue.filter fun g => g.content.urgent) = rest.filter fun g => g.content.urgent
  still : s.line.due = false ∨ s.line.refused = false →
    t.line.queue = rest ∧ t.line.access = (if rest.isEmpty then .idle else .waiting)
  quietSince : t.line.quietSince = s.now
  retried : s.line.due = true → s.line.refused = true → rest.length < 8 →
    t.line.due = false ∧ t.line.lastStatus = some s.now ∧ ∃ g ∈ t.line.queue, g.content = buildStatus s

theorem closeStatus_of_items {s0 s : State} (hrun : s.station.mode = .run) (hi : s.reportedItems = s0.reportedItems) :
    closeStatus s0 s = clearLeft (statusRetry s) := by
  unfold closeStatus
  rw [if_pos (by simpa [State.inRun] using hrun)]
  simp only [if_pos hi]

/-- An arrival that lets a frame go: the flags stay, and STATUS is tried again where it is due. -/
theorem closeArrival_frameLeft {s u : State} {rest : List TxFrame} (hs : settled s) (hrun : s.station.mode = .run)
    (honly : onlyChanges [.claim, .dust, .line] s u) (hl : u.line = s.line.without s.now rest)
    (hcond : u.conditions = s.conditions) (hi : u.reportedItems = s.reportedItems)
    (hstatus : buildStatus u = buildStatus s) : FrameLeft s (closeArrival s u) rest ∧
      onlyChanges [.line] u (closeArrival s u) := by
  have hm : s.station.mode ≠ .start := by
    rw [hrun]
    exact nofun
  have hstation : u.station = s.station := honly .station (by decide)
  have hnow : u.now = s.now := honly .now (by decide)
  have hsync : syncAlarms u = u :=
    syncAlarms_same (hs.1 hm) (honly .alarms (by decide)) hcond (relaySet_of_station hstation)
  have hrunu : u.station.mode = .run := by rw [hstation, hrun]
  have hclose : closeArrival s u = clearLeft (statusRetry u) := by
    unfold closeArrival
    rw [hsync, closeStatus_of_items hrunu hi]
  have hstat := closeArrival_line s u
  refine ⟨⟨?_, fun hno => ?_, ?_, fun hdue href hroom => ?_⟩, ?_⟩
  · rw [hstat.1, hl]
    rfl
  · have hretry : statusRetry u = u := by
      refine if_neg ?_
      rw [hl]
      rcases hno with h | h <;> simp [Line.without, h]
    rw [hclose, hretry]
    show u.line.queue = rest ∧ u.line.access = _
    rw [hl]
    exact ⟨rfl, rfl⟩
  · rw [(closeArrival_reports s u).quietSince, hl]
    rfl
  · have hretry : statusRetry u = offerStatus u := by
      refine if_pos ?_
      rw [hl]
      simp [Line.without, hdue, href]
    have htaken := offerStatus_taken hrunu (.inl (by rw [hl]; exact hroom))
    rw [hclose, hretry, ← hnow, ← hstatus]
    exact ⟨htaken.due, htaken.lastStatus, htaken.queued⟩
  · rw [hclose]
    exact only_trans (only_ite (offerStatus_only u) (only_refl _ u)) (setLine_only _ _)

/-- What a completed frame tells its originator is a mark in the own claim. -/
theorem frameSent_own (f : TxFrame) (s : State) : ∃ own, frameSent f s = s.setOwn own := by
  unfold frameSent claimSent
  split
  · split
    · exact ⟨_, rfl⟩
    · exact ⟨s.claim.own, rfl⟩
  · exact ⟨s.claim.own, rfl⟩

theorem mem_insertAnswer_self (a : PendingAnswer) (as : List PendingAnswer) : a ∈ insertAnswer a as := by
  induction as with
  | nil => simp [insertAnswer]
  | cons b as ih =>
    unfold insertAnswer
    split
    · exact List.mem_cons_self
    · exact List.mem_cons_of_mem _ ih

/-- What a lost frame tells its originator is a pending answer. -/
theorem frameLost_answers (f : TxFrame) (s : State) :
    ∃ as, frameLost f s = s.setDust { s.dust with answers := as }
      ∧ ∀ target serial answer count formed, f.content = .cover target serial answer count formed →
          ∃ a ∈ as, a.target = target := by
  unfold frameLost
  split
  case h_1 target serial answer count formed hc =>
    unfold returnAnswer
    split
    case isTrue h =>
      refine ⟨s.dust.answers, rfl, fun _ _ _ _ _ hc' => ?_⟩
      rw [hc] at hc'
      cases hc'
      simpa using h
    case isFalse =>
      refine ⟨_, rfl, fun _ _ _ _ _ hc' => ?_⟩
      rw [hc] at hc'
      cases hc'
      exact ⟨_, mem_insertAnswer_self _ _, rfl⟩
  case h_2 h =>
    exact ⟨s.dust.answers, rfl, fun _ _ _ _ _ hc => absurd hc (h _ _ _ _ _)⟩

/-- Settles O36. -/
theorem transmissionEnds : Obligations.TransmissionEnds := by
  unfold Obligations.TransmissionEnds
  intro pre post f s hs hrun hacc hq hf hrest
  have hm : s.station.mode ≠ .start := by
    rw [hrun]
    exact nofun
  have htx := txFrame_first hq hf hrest
  have hdrop := dropTx_first hq hf hrest s.now
  let w := s.setLine (s.line.without s.now (pre ++ post))
  have hw : onlyChanges [.line] s w := setLine_only s _
  have hcollide : ∀ r, (if f.noRetry then s.onLine (Line.dropTx s.now)
      else if 8 ≤ f.attempts + 1 then frameLost f (s.onLine (Line.dropTx s.now))
      else s.onLine (Line.backOff s.now s.station.node (f.attempts + 1))) = r → effectOf .collision s = r := by
    intro r h
    show takeCollision s = r
    unfold takeCollision
    rw [hacc, htx]
    exact h
  refine ⟨?_, fun hretry hatt => ?_, fun hlost => ?_⟩
  · have heff : effectOf .transmissionCompletes s = frameSent f w := by
      show takeTransmission s = _
      unfold takeTransmission
      rw [hacc, htx]
      show frameSent f (s.setLine (s.line.dropTx s.now)) = _
      rw [hdrop]
    obtain ⟨own, hown⟩ := frameSent_own f w
    obtain ⟨hleft, hclosed⟩ := closeArrival_frameLeft (u := w.setOwn own) hs hrun
      (only_trans (only_mono hw (by decide)) (only_mono (setClaim_only w _) (by decide))) rfl rfl rfl rfl
    refine ⟨_, exec_eq hm (heff.trans hown), hleft.urgent, hleft.still, hleft.quietSince,
      fun serial cls flow wait hc hset hser => ?_, fun c hc => ?_, hleft.retried,
      only_trans (only_mono hw (by decide))
        (only_trans (only_mono (setClaim_only w _) (by decide)) (only_mono hclosed (by decide)))⟩
    · rw [closeArrival_claim, ← hown]
      unfold frameSent
      rw [hc]
      show (claimSent serial w).claim.own.sent = true
      unfold claimSent
      rw [if_pos (by exact ⟨hset, hser⟩)]
      rfl
    · rw [closeArrival_claim, ← hown]
      unfold frameSent
      rw [hc]
      rfl
  · refine exec_of_line hs hm (hcollide _ ?_) rfl rfl rfl
    rw [if_neg (by simp [hretry]), if_neg (by omega), State.onLine, backOff_first hq hf hrest]
  · have heff : ∃ as, effectOf .collision s = w.setDust { w.dust with answers := as }
        ∧ ∀ target serial answer count formed, f.noRetry = false →
            f.content = .cover target serial answer count formed → ∃ a ∈ as, a.target = target := by
      cases hnr : f.noRetry with
      | true =>
        refine ⟨s.dust.answers, hcollide _ ?_, nofun⟩
        rw [if_pos hnr, State.onLine, hdrop]
        rfl
      | false =>
        obtain ⟨as, hans, hcover⟩ := frameLost_answers f w
        refine ⟨as, hcollide _ ?_, fun _ _ _ _ _ _ => hcover _ _ _ _ _⟩
        rw [if_neg (by simp [hnr]), if_pos (hlost.resolve_left (by simp [hnr])), State.onLine, hdrop]
        exact hans
    obtain ⟨as, heff, hcover⟩ := heff
    obtain ⟨hleft, hclosed⟩ := closeArrival_frameLeft (u := w.setDust { w.dust with answers := as }) hs hrun
      (only_trans (only_mono hw (by decide)) (only_mono (setDust_only w _) (by decide))) rfl rfl rfl rfl
    refine ⟨_, exec_eq hm heff, hleft.urgent, fun target serial answer count formed hnr hc => ?_, hleft.retried,
      only_trans (only_mono hw (by decide))
        (only_trans (only_mono (setDust_only w _) (by decide)) (only_mono hclosed (by decide)))⟩
    rw [closeArrival_dust]
    exact hcover target serial answer count formed hnr hc

end Sys2Proof.Machine
end


section
/-! PROOFS. STATUS, the duplicate and the access to the line (O34, O35, O37). -/

namespace Sys2Proof.Machine

/-! ### STATUS on change (R161; O37) -/

/-- STATUS is not due, and was offered as the station stands; or it is due, until the 2 s have passed or because the
queue has no room. -/
structure StatusFollows (t : State) : Prop where
  offered : t.line.due = false → t.line.lastStatus = some t.now ∧ ∃ f ∈ t.line.queue, f.content = buildStatus t
  waits : t.line.due = true →
    (∃ mark, t.line.spacing = .running mark ∧ t.now < mark) ∨ (t.line.refused = true ∧ 8 ≤ t.line.queue.length)

theorem buildStatus_congr {s t : State} (h : onlyChanges [.line] s t) : buildStatus t = buildStatus s := by
  have hstation : t.station = s.station := h .station (by decide)
  have hcannon : t.cannon = s.cannon := h .cannon (by decide)
  have hlock : t.lockout = s.lockout := h .lockout (by decide)
  have hdust : t.dust = s.dust := h .dust (by decide)
  have hface : t.face = s.face := h .face (by decide)
  have hacc : t.account = s.account := h .account (by decide)
  have hwind : t.wind = s.wind := h .wind (by decide)
  unfold buildStatus State.cfg State.locked State.noticeStands State.faceClasses State.faceClass
  rw [hstation, hcannon, hlock, hdust, hface, hacc, hwind]

/-- STATUS offered, taken or not. -/
theorem offerStatus_follows {s : State} (hrun : s.station.mode = .run) : StatusFollows (offerStatus s) := by
  by_cases h : s.line.takesStatus
  · have ht := offerStatus_taken hrun h
    have hnow : (offerStatus s).now = s.now := offerStatus_only s .now (by decide)
    refine ⟨fun _ => ⟨by rw [ht.lastStatus, hnow], ?_⟩, fun hd => ?_⟩
    · rw [buildStatus_congr (offerStatus_only s)]
      exact ht.queued
    · rw [ht.due] at hd
      cases hd
  · have hfull : 8 ≤ s.line.queue.length := Nat.le_of_not_lt fun hl => h (.inl hl)
    rw [offerStatus_refused hrun h]
    exact ⟨nofun, fun _ => .inr ⟨rfl, hfull⟩⟩

theorem statusOnChange_follows {s : State} (hrun : s.station.mode = .run) : StatusFollows (statusOnChange s) := by
  unfold statusOnChange
  split
  · rename_i hspaced
    refine ⟨nofun, fun _ => .inl ?_⟩
    unfold Line.spaced Timer.isRunning Timer.isDue at hspaced
    cases ht : s.line.spacing with
    | running mark =>
      rw [ht] at hspaced
      refine ⟨mark, ht, ?_⟩
      simpa using hspaced
    | stopped => simp [ht] at hspaced
    | paused left => simp [ht] at hspaced
  · exact offerStatus_follows hrun

theorem statusRetry_follows {s : State} (hrun : s.station.mode = .run) (h : StatusFollows s) :
    StatusFollows (statusRetry s) := by
  unfold statusRetry
  split
  · exact offerStatus_follows hrun
  · exact h

/-- An arrival that changes a reported item in RUN offers STATUS, or leaves it due. -/
theorem closeArrival_follows {s0 s : State} (hrun : s.station.mode = .run) (hi : s.reportedItems ≠ s0.reportedItems) :
    StatusFollows (closeArrival s0 s) := by
  let u := syncAlarms s
  have hrunu : u.station.mode = .run := hrun
  have hiu : u.reportedItems ≠ s0.reportedItems := hi
  have hchange := statusOnChange_follows hrunu
  have hstation : (statusOnChange u).station = u.station :=
    only_ite (setLine_only u _) (offerStatus_only u) .station (by decide)
  have hretry := statusRetry_follows (by rw [hstation]; exact hrunu) hchange
  have hclose : closeArrival s0 s = clearLeft (statusRetry (statusOnChange u)) := by
    show closeStatus s0 u = _
    unfold closeStatus
    rw [if_pos (by simpa [State.inRun] using hrunu)]
    simp only [if_neg hiu]
  rw [hclose]
  exact ⟨hretry.offered, hretry.waits⟩

/-- Outside START a command is an effect and the end of the arrival, POWER_ON too. -/
theorem exec_closes {s : State} (h : s.station.mode ≠ .start) (c : Instr) :
    ∃ u, exec c s = .next (closeArrival s u) := by
  by_cases hc : Instr.ordinary c
  · exact ⟨_, exec_started hc h⟩
  · simp only [Instr.ordinary, ne_eq, Classical.not_forall, Classical.not_not] at hc
    obtain ⟨straps, key, rfl⟩ := hc
    exact ⟨_, exec_powerOn straps key s⟩

theorem reportedItems_congr {s t : State} (hc : t.cannon = s.cannon) (hl : t.lockout = s.lockout)
    (hd : t.dust = s.dust) (hf : t.face = s.face) : t.reportedItems = s.reportedItems := by
  unfold State.reportedItems State.locked State.faceClasses State.faceClass
  rw [hc, hl, hd, hf]

/-- A STATUS offered by a timer of Station Control is all that the arrival does. -/
theorem exec_of_offerStatus {c : Instr} {s : State} {l : Line} (hs : settled s) (hm : s.station.mode ≠ .start)
    (heff : effectOf c s = offerStatus (s.setLine l)) (hrec : l.reception = s.line.reception)
    (hleft : l.left = s.line.left) (hc : Instr.ordinary c) : exec c s = .next (offerStatus (s.setLine l)) := by
  have honly := offerStatus_only (s.setLine l)
  have hr : SameReports s (offerStatus (s.setLine l)) := .after (offerStatus_reports _) ⟨rfl, hrec⟩
  have hcannon : (offerStatus (s.setLine l)).cannon = s.cannon := honly .cannon (by decide)
  exact exec_of_same hs hm heff (honly .alarms (by decide))
    (hr.conditions (by rw [hcannon]) (honly .station (by decide)) (honly .account (by decide))
      (honly .wind (by decide)) (honly .forecast (by decide)))
    (relaySet_of_station (honly .station (by decide))) ((offerStatus_left _).trans hleft)
    (reportedItems_congr hcannon (honly .lockout (by decide)) (honly .dust (by decide)) (honly .face (by decide))) hc

/-- Settles O37. -/
theorem statusIsOffered : Obligations.StatusIsOffered := by
  unfold Obligations.StatusIsOffered
  intro due s hs hrun hdue
  have hm : s.station.mode ≠ .start := by
    rw [hrun]
    exact nofun
  refine ⟨fun c hc => ?_, fun htimer hno => ?_, fun c t ht htrun hitems => ?_⟩
  · have heff : ∃ l, l.queue = s.line.queue ∧ l.reception = s.line.reception ∧ l.left = s.line.left
        ∧ statusOnly s.line l ∧ exec c s = .next (offerStatus (s.setLine l)) := by
      rcases hc with ⟨rfl, htimer⟩ | ⟨rfl, htimer, hd⟩
      · refine ⟨{ s.line with period := .stopped }, rfl, rfl, rfl, ⟨rfl, .inl rfl, rfl, rfl, rfl, rfl, rfl, rfl, rfl⟩,
          exec_of_offerStatus hs hm ?_ rfl rfl nofun⟩
        show takeStatusPeriod s = _
        unfold takeStatusPeriod
        rw [htimer, isDue_running hdue, if_pos rfl]
        exact if_pos (by simpa [State.inRun] using hrun)
      · refine ⟨{ s.line with spacing := .stopped }, rfl, rfl, rfl, ⟨rfl, .inl rfl, rfl, rfl, rfl, rfl, rfl, rfl, rfl⟩,
          exec_of_offerStatus hs hm ?_ rfl rfl nofun⟩
        show takeStatusDueMark s = _
        unfold takeStatusDueMark
        rw [htimer, isDue_running hdue, if_pos rfl]
        exact if_pos (by simp [State.inRun, hrun, hd])
    obtain ⟨l, hq, -, -, hstat, hexec⟩ := heff
    have honly : onlyChanges [.line] s (offerStatus (s.setLine l)) := only_trans (setLine_only s l) (offerStatus_only _)
    have hline : statusOnly s.line (offerStatus (s.setLine l)).line := statusOnly_trans hstat (offerStatus_line _)
    refine ⟨fun hroom => ?_, fun hfull hnone => ?_⟩
    · have htaken := offerStatus_taken (s := s.setLine l) hrun (by
        show l.takesStatus
        unfold Line.takesStatus
        rw [hq]
        exact hroom)
      obtain ⟨f, hf, hcontent⟩ := htaken.queued
      refine ⟨_, f, _, hexec, hf, hcontent, rfl, rfl, rfl, rfl, rfl, ?_, rfl, rfl, rfl, rfl, htaken.period,
        htaken.spacing, htaken.lastStatus, htaken.due, honly, hline⟩
      show (if (s.setLine l).noticeStands then s.dust.serial else none) = _
      refine ite_congr (propext ?_) (fun _ => rfl) fun _ => rfl
      rw [State.noticeStands, Bool.or_eq_true]
      exact or_congr decide_eq_true_iff decide_eq_true_iff
    · have hno : ¬ l.takesStatus := by
        unfold Line.takesStatus
        rw [hq]
        rintro (h | ⟨f, hf, hw⟩)
        · omega
        · rw [hnone f hf] at hw
          cases hw
      have hrefused := offerStatus_refused (s := s.setLine l) hrun hno
      rw [hrefused] at hexec honly hline
      exact ⟨_, hexec, hq, rfl, honly, hline⟩
  · refine exec_of_line hs hm ?_ rfl rfl rfl
    show takeStatusDueMark s = _
    unfold takeStatusDueMark
    rw [htimer, isDue_running hdue, if_pos rfl]
    exact if_neg (by simp [hno])
  · obtain ⟨u, hu⟩ := exec_closes hm c
    rw [hu, Host.Outcome.next.injEq] at ht
    subst ht
    rw [closeArrival_station] at htrun
    have hchanged : u.reportedItems ≠ s.reportedItems := by
      intro h
      simp only [State.reportedItems, Prod.mk.injEq] at h
      obtain ⟨hcls, hlocked, hlevel, hfaces⟩ := h
      rcases hitems with h | h | h | h
      · exact h (by rw [closeArrival_cannon, hcls])
      · exact h (by unfold State.locked at *; rw [closeArrival_lockout, hlocked])
      · exact h (by rw [closeArrival_dust, hlevel])
      · exact h ((faceClasses_of_get fun f => by rw [closeArrival_face]).trans hfaces)
    have hfollows := closeArrival_follows (s0 := s) htrun hchanged
    exact ⟨hfollows.offered, hfollows.waits⟩

/-! ### The duplicate (R89, R152, R185; O34) -/

/-- Outside RUN the end of an arrival is the flags alone. -/
theorem closeStatus_of_idle {s0 s : State} (h : s.station.mode ≠ .run) : closeStatus s0 s = clearLeft s :=
  if_neg (by simpa [State.inRun] using h)

/-- Outside RUN a chain's end leaves no chain. -/
theorem chainEnd_gone {c : Cause} {s : State} (h : s.station.mode ≠ .run) : (chainEnd c s).cannon.chain = none := by
  cases hch : s.cannon.chain with
  | none => rw [chainEnd_of_none hch, hch]
  | some ch =>
    have hst : (chainOver c ch s).station = s.station := chainOver_only c ch s .station (by decide)
    rw [chainEnd_eq hch, trySelection_of_not fun ht => h (hst ▸ ht.run)]
    exact (chainOver_rest c ch s).chain

/-- Settles O34. -/
theorem duplicateMutes : Obligations.DuplicateMutes := by
  unfold Obligations.DuplicateMutes
  intro s hm hnode
  let v := (frameEnds s).onLine fun l => { l with duplicate := true }
  have hv : onlyChanges [.line] s v := only_trans (onLine_only s _) (onLine_only _ _)
  have hcases : ((s.station.mode = .listen ∨ s.station.mode = .run) ∧ effectOf .duplicate s = enterMute v)
      ∨ ((s.station.mode ≠ .listen ∧ s.station.mode ≠ .run) ∧ effectOf .duplicate s = v) := by
    have hstation : (frameEnds s).station = s.station := rfl
    have heff : effectOf .duplicate s = takeDuplicate (frameEnds s) := rfl
    rw [heff]
    unfold takeDuplicate
    rw [hstation, if_neg hnode]
    cases hmode : s.station.mode with
    | start => exact absurd hmode hm
    | listen => exact .inl ⟨.inl rfl, rfl⟩
    | run => exact .inl ⟨.inr rfl, rfl⟩
    | commission | mute | unconfigured => exact .inr ⟨⟨nofun, nofun⟩, rfl⟩
  rcases hcases with ⟨hmode, heff⟩ | ⟨⟨hlisten, hrun⟩, heff⟩
  · let w := v.onStation fun t => { t with mode := .mute, listen := .stopped }
    let x := chainEnd .duplicate w
    have hx : SameReports w x := chainEnd_reports .duplicate w
    have honly : onlyChanges deep w x := chainEnd_only .duplicate w
    have hw : onlyChanges [.station, .line] s w := only_trans (only_mono hv (by decide)) (only_mono (setStation_only v _) (by decide))
    have hmute : (enterMute v).station = { s.station with mode := .mute, listen := .stopped } := enterMute_station v
    have hclose : closeArrival s (enterMute v) = clearLeft (syncAlarms (enterMute v)) :=
      closeStatus_of_idle (by show (enterMute v).station.mode ≠ .run; rw [hmute]; exact nofun)
    have hdup : x.line.duplicate = true := hx.duplicate
    have hcannon : (closeArrival s (enterMute v)).cannon = x.cannon := closeArrival_cannon s _
    refine ⟨_, exec_eq hm heff, by rw [hclose]; exact hdup, ?_, fun _ => ⟨?_, ?_, ?_, ?_, ?_, ?_, ?_, ?_, fun ch hch => ?_,
      fun hch => ?_⟩, fun _ hl hr => ?_, fun hl hr => ?_, close_only ?_⟩
    · exact (closeArrival_cond s _ (i := .duplicateNode) rfl).trans hdup
    · rw [closeArrival_station, hmute]
    · rw [hclose]
      rfl
    · rw [hclose]
      rfl
    · rw [hclose]
      rfl
    · rw [hclose]
      rfl
    · rw [closeArrival_claim]
      rfl
    · rw [closeArrival_claim]
      exact hx.supply
    · rw [hcannon]
      exact chainEnd_gone (s := w) nofun
    · refine ⟨endedBy_close (endedBy_congr (chainEnd_endedBy (s := w) hch) rfl rfl rfl rfl rfl rfl rfl) rfl rfl rfl rfl, ?_⟩
      rw [hcannon]
      exact chainEnd_valve (s := w) hch
    · rw [hcannon, closeArrival_queue]
      have hsame : x = w := chainEnd_of_none hch
      refine ⟨by rw [hsame]; rfl, ?_⟩
      show x.queue = s.queue
      rw [hsame]
      rfl
    · exact absurd hmode (by simp [hl, hr])
    · exact absurd hmode (by simp [hl, hr])
    · refine only_trans (only_mono hw (by decide)) (only_trans (only_mono honly (by decide)) ?_)
      exact only_trans (only_mono (setClaim_only x _) (by decide)) (only_mono (onLine_only _ _) (by decide))
  · refine ⟨_, exec_eq hm heff, (closeArrival_reports s v).duplicate, closeArrival_cond s v (i := .duplicateNode) rfl,
      fun h => absurd h (by simp [hlisten, hrun]), fun hs _ _ => ⟨?_, ?_, fun i hi => ?_, ?_⟩, fun _ _ => ⟨?_, ?_⟩,
      close_only (only_mono hv (by decide))⟩
    · have hquiet : closeArrival s v = syncAlarms v := closeArrival_quiet hs.2 rfl
      rw [hquiet]
      rfl
    · exact closeArrival_follow s v (i := .duplicateNode) rfl
    · refine closeArrival_flag (hs.1 hm) rfl ?_
      cases i <;> first | rfl | exact absurd (List.mem_singleton.mpr rfl) hi
    · exact close_only (only_mono hv (by decide))
    · exact closeArrival_station s v
    · exact close_only (only_mono hv (by decide))

/-! ### Access to the line (R153, R157 to R159; O35) -/

theorem earliestUrgent_le {q : List TxFrame} {g : TxFrame} (hg : g ∈ q) (hu : g.content.urgent = true) :
    ∃ t, earliestUrgent q = some t ∧ t ≤ g.queueTime := by
  induction q with
  | nil => cases hg
  | cons f q ih =>
    unfold earliestUrgent
    rcases List.mem_cons.mp hg with rfl | hg
    · cases earliestUrgent q with
      | none => exact ⟨_, if_pos hu, Nat.le_refl _⟩
      | some t => exact ⟨_, if_pos hu, Nat.min_le_left _ _⟩
    · obtain ⟨t, ht, hle⟩ := ih hg
      rw [ht]
      simp only
      split
      · exact ⟨_, rfl, Nat.le_trans (Nat.min_le_right _ _) hle⟩
      · exact ⟨t, rfl, hle⟩

/-- The head is an URGENT frame of the earliest queue time, where an URGENT frame is queued (R153). -/
theorem head_earliest {q : List TxFrame} {i : Nat} {f g : TxFrame} (hi : headIndex q = some i) (hf : q[i]? = some f)
    (hg : g ∈ q) (hu : g.content.urgent = true) : f.content.urgent = true ∧ f.queueTime ≤ g.queueTime := by
  obtain ⟨t, ht, hle⟩ := earliestUrgent_le hg hu
  unfold headIndex at hi
  rw [ht] at hi
  simp only [List.findIdx?_eq_some_iff_getElem] at hi
  obtain ⟨hlt, hp, -⟩ := hi
  rw [List.getElem?_eq_getElem hlt, Option.some.injEq] at hf
  rw [hf, Bool.and_eq_true, beq_iff_eq] at hp
  exact ⟨hp.1, hp.2 ▸ hle⟩

/-- The frame that starts is the one whose bytes the station drives (R158). -/
theorem drivenBytes_of_started {s : State} {i : Nat} {f : TxFrame} (hf : s.line.queue[i]? = some f)
    (hnone : ∀ g ∈ s.line.queue, g.inTx = false) :
    (s.setLine
        { s.line with
          access := .sending, queue := s.line.queue.modify i fun g => { g with inTx := true } }).drivenBytes
      = some (makeFrame s.station.node f.content.kind f.content.payload) := by
  obtain ⟨hlt, hget⟩ := List.getElem?_eq_some_iff.mp hf
  have hsplit : s.line.queue = s.line.queue.take i ++ f :: s.line.queue.drop (i + 1) := by
    rw [← hget, List.getElem_cons_drop, List.take_append_drop]
  have hq : s.line.queue.modify i (fun g => { g with inTx := true })
      = s.line.queue.take i ++ { f with inTx := true } :: s.line.queue.drop (i + 1) := by
    rw [List.modify_eq_take_cons_drop hlt, hget]
  have htx := txFrame_first (l := { s.line with
    access := .sending, queue := s.line.queue.modify i fun g => { g with inTx := true } }) hq rfl fun g hg => by
      refine hnone g ?_
      rcases List.mem_append.mp hg with h | h
      · exact List.mem_of_mem_take h
      · exact List.mem_of_mem_drop h
  show Option.map _ _ = _
  rw [State.setLine_line, htx]
  rfl

theorem accessGap_rests {s : State} (hs : settled s) (hm : s.station.mode ≠ .start)
    (h : s.line.access ≠ .waiting ∨ s.line.busy = true) : exec .accessGap s = .next s := by
  refine exec_of_same hs hm ?_ rfl rfl rfl rfl rfl
  show takeAccessGap s = s
  refine if_neg fun hdue => ?_
  rw [Bool.and_eq_true] at hdue
  unfold Line.gapDue at hdue
  rcases h with h | h
  · cases ha : s.line.access <;> simp [ha] at hdue h
  · rw [h] at hdue
    split at hdue <;> simp at hdue

/-- Settles O35. -/
theorem lineAccess : Obligations.LineAccess := by
  unfold Obligations.LineAccess
  intro s hs hrun
  have hm : s.station.mode ≠ .start := by
    rw [hrun]
    exact nofun
  refine ⟨fun i f hacc hbusy hi hf hgap => ⟨⟨_, ?_, rfl, drivenBytes_of_started hf⟩, fun g hg hu => head_earliest hi hf hg hu⟩,
    accessGap_rests hs hm, fun hacc => ?_, fun hbusy => ?_, fun hbusy => ?_, fun due hacc hback hdue => ?_⟩
  · refine exec_of_line hs hm ?_ rfl rfl rfl
    have hdue : s.line.gapDue s.now = true := by
      unfold Line.gapDue Line.head? Line.quietTime accessGapOf
      rw [hacc, hi, Option.bind_some, hf, hbusy]
      simpa using hgap
    show takeAccessGap s = _
    unfold takeAccessGap
    rw [if_pos (by simp [State.inRun, hrun, hdue]), State.onLine]
    unfold Line.startHead
    rw [hi]
    rfl
  · have hbits : s.hearBits = s.setLine { s.line with busy := true } := if_neg (by simp [hm, hacc])
    rw [hbits]
    refine ⟨rfl, rfl, accessGap_rests (s := s.setLine { s.line with busy := true }) ⟨?_, hs.2⟩ hm (.inr rfl), fun b => ?_⟩
    · exact fun _ => syncAlarms_same (hs.1 hm) rfl rfl rfl
    · unfold State.hearByte
      rw [if_neg (by simp [hm, hacc])]
      exact ⟨rfl, rfl⟩
  · unfold State.hearQuiet Line.goQuiet
    rw [if_neg hm, State.onLine, if_pos hbusy]
  · unfold State.hearQuiet
    rw [if_neg hm, State.onLine]
    show s.setLine (if s.line.busy = true then _ else _) = s
    rw [if_neg (by simp [hbusy])]
    rfl
  · refine exec_of_line hs hm ?_ rfl rfl rfl
    show takeBackoff s = _
    unfold takeBackoff
    rw [hback, isDue_running hdue, if_pos rfl]
    show s.setLine (if s.line.access = .backoff then _ else _) = _
    rw [if_pos hacc]
    rfl

end Sys2Proof.Machine
end


section
/-! PROOFS. The frames that the Dust Watch Unit held, offered again (R118, R123, R129), and its timers (O28). -/

namespace Sys2Proof.Machine

/-! ### The URGENT frames of the transmit queue -/

/-- The URGENT frames, in their order. -/
def Line.urgents (l : Line) : List TxFrame := l.queue.filter fun f => f.content.urgent

/-- The frames that no URGENT frame displaces: all but a waiting STATUS (R155). -/
def Line.firm (l : Line) : Nat := (l.queue.filter fun f => !f.waitingStatus).length

theorem Line.firm_le (l : Line) : l.firm ≤ l.queue.length := List.length_filter_le _ _

/-- A content that takes a place of its own among the URGENT frames: it replaces no queued one (R154). -/
structure Content.Placed (c : Content) : Prop where
  urgent : c.urgent = true
  fresh : ∀ f, ¬ replacedBy c f

theorem placed_plume (x y theta mean serial : Nat) : (Content.plume x y theta mean serial).Placed := by
  refine ⟨rfl, fun f h => ?_⟩
  simp [replacedBy] at h

theorem placed_cover (target serial : Nat) (answer : CoverAnswer) (count formed : Nat) :
    (Content.cover target serial answer count formed).Placed := by
  refine ⟨rfl, fun f h => ?_⟩
  simp [replacedBy] at h

theorem waitingStatus_routine {f : TxFrame} (h : f.waitingStatus = true) : f.content.urgent = false := by
  obtain ⟨-, c, hc⟩ := (waitingStatus_iff f).mp h
  rw [hc]
  rfl

theorem waitingStatus_of_urgent {f : TxFrame} (h : f.content.urgent = true) : f.waitingStatus = false := by
  cases hw : f.waitingStatus with
  | false => rfl
  | true =>
    rw [waitingStatus_routine hw] at h
    cases h

/-- An offer of a placed content was taken: it stands behind the URGENT frames. -/
structure Placement (sec : Nat) (c : Content) (l m : Line) : Prop where
  urgents : m.urgents = l.urgents ++ [TxFrame.fresh sec c]
  firm : m.firm = l.firm + 1

theorem filter_evicted {p : TxFrame → Bool} {pre post : List TxFrame} {f g : TxFrame} (hf : p f = false)
    (hg : p g = true) : (pre ++ post ++ [g]).filter p = (pre ++ f :: post).filter p ++ [g] := by
  simp [List.filter_append, hf, hg]

/-- An URGENT content that replaces no queued frame is taken where fewer than 8 frames are firm, and refused on a queue of 8
firm ones (R155). -/
theorem offer_urgent {c : Content} (hc : c.urgent = true) {l : Line} (hnone : ∀ f ∈ l.queue, ¬ replacedBy c f) (sec : Nat) :
    (∃ m, l.offer sec c = (m, true) ∧ Placement sec c l m) ∨ (8 ≤ l.firm ∧ l.offer sec c = (l, false)) := by
  have hfresh : (TxFrame.fresh sec c).content.urgent = true := hc
  have hfirm : (!(TxFrame.fresh sec c).waitingStatus) = true := by rw [waitingStatus_of_urgent hfresh]; rfl
  by_cases hroom : l.queue.length < 8
  · refine .inl ⟨_, offer_appends hnone hroom, ?_, ?_⟩
    · simp [Line.urgents, List.filter_append, hfresh]
    · simp [Line.firm, List.filter_append, hfirm]
  · have hfull := Nat.le_of_not_lt hroom
    by_cases hw : ∃ f ∈ l.queue, f.waitingStatus = true
    · obtain ⟨pre, f, post, hq, hf, hpre⟩ := findIdx?_split hw
      refine .inl ⟨_, offer_evicts hnone hfull hc hq ((waitingStatus_iff f).mp hf)
        fun g hg h => Bool.eq_false_iff.mp (hpre g hg) ((waitingStatus_iff g).mpr h), ?_, ?_⟩
      · unfold Line.urgents
        rw [hq]
        exact filter_evicted (waitingStatus_routine hf) hfresh
      · unfold Line.firm
        rw [hq, filter_evicted (f := f) (by rw [hf]; rfl) hfirm, List.length_append]
        rfl
    · refine .inr ⟨?_, offer_refuses hnone hfull (.inr fun f hf h => hw ⟨f, hf, (waitingStatus_iff f).mpr h⟩)⟩
      unfold Line.firm
      rw [List.filter_eq_self.mpr fun f hf => by
        rw [Bool.eq_false_iff.mpr fun h => hw ⟨f, hf, h⟩]
        rfl]
      exact hfull

theorem offer_placed {c : Content} (hc : c.Placed) (sec : Nat) (l : Line) :
    (∃ m, l.offer sec c = (m, true) ∧ Placement sec c l m) ∨ (8 ≤ l.firm ∧ l.offer sec c = (l, false)) :=
  offer_urgent hc.urgent (fun f _ => hc.fresh f) sec

/-! ### One frame offered again -/

/-- Only the line and what the Dust Watch Unit holds have moved. -/
def State.redust (s : State) (l : Line) (as : List PendingAnswer) (b : Bool) : State :=
  (s.setLine l).setDust { s.dust with answers := as, announce := b }

theorem retryAnswer_cases {s : State} (hrun : s.station.mode = .run) (a : PendingAnswer) :
    (∃ l, Placement s.sec a.content s.line l
        ∧ retryAnswer s a = s.redust l (dropAnswer a.target s.dust.answers) s.dust.announce)
      ∨ (8 ≤ s.line.firm ∧ retryAnswer s a = s) := by
  unfold retryAnswer
  rw [lineOffer_of_run hrun]
  rcases offer_placed (placed_cover a.target a.serial a.answer a.count a.formed) s.sec s.line with
    ⟨l, hl, hp⟩ | ⟨hfull, hl⟩
  · exact .inl ⟨l, hp, by rw [PendingAnswer.content, hl]; rfl⟩
  · exact .inr ⟨hfull, by rw [PendingAnswer.content, hl]; rfl⟩

theorem announceNotice_cases {s : State} (hrun : s.station.mode = .run) :
    (∃ l, Placement s.sec s.plumeContent s.line l ∧ announceNotice s = s.redust l s.dust.answers false)
      ∨ (8 ≤ s.line.firm ∧ announceNotice s = s.redust s.line s.dust.answers true) := by
  unfold announceNotice
  rw [lineOffer_of_run hrun]
  rcases offer_placed (placed_plume s.cfg.x s.cfg.y s.wind.record.bearing (s.dust.mean.getD 0) (s.dust.serial.getD 0))
    s.sec s.line with ⟨l, hl, hp⟩ | ⟨hfull, hl⟩
  · exact .inl ⟨l, hp, by rw [State.plumeContent, hl]; rfl⟩
  · exact .inr ⟨hfull, by rw [State.plumeContent, hl]; rfl⟩

/-! ### The pending answers in their order (R129) -/

/-- A pending answer is held still, or its COVER is queued. -/
def answerStands (a : PendingAnswer) (s : State) : Prop :=
  a ∈ s.dust.answers ∨ ∃ f ∈ s.line.urgents, f.content = a.content

/-- The pending answers of a list, offered again. -/
theorem foldl_retryAnswer {s : State} (hrun : s.station.mode = .run) (as : List PendingAnswer) :
    ∃ l bs, as.foldl retryAnswer s = s.redust l bs s.dust.announce
      ∧ (s.line.firm + as.length ≤ 8 →
          l.urgents = s.line.urgents ++ as.map (fun a => TxFrame.fresh s.sec a.content)
            ∧ l.firm = s.line.firm + as.length ∧ ∀ b ∈ bs, b ∈ s.dust.answers ∧ b ∉ as)
      ∧ ∀ a, (∀ b ∈ as, b.target = a.target → b = a) → answerStands a s → answerStands a (s.redust l bs s.dust.announce) := by
  induction as generalizing s with
  | nil => exact ⟨s.line, s.dust.answers, rfl, fun _ => ⟨by simp, rfl, fun b hb => ⟨hb, by simp⟩⟩, fun _ _ h => h⟩
  | cons a as ih =>
    rw [List.foldl_cons]
    rcases retryAnswer_cases hrun a with ⟨m, hp, hstep⟩ | ⟨hfull, hstep⟩ <;> rw [hstep]
    · obtain ⟨l, bs, hfold, hroom, hstands⟩ := ih (s := s.redust m (dropAnswer a.target s.dust.answers) s.dust.announce) hrun
      refine ⟨l, bs, hfold, fun hlen => ?_, fun b hb h => ?_⟩
      · rw [List.length_cons] at hlen
        obtain ⟨hu, hf, hbs⟩ := hroom (by show m.firm + _ ≤ 8; rw [hp.firm]; omega)
        refine ⟨?_, ?_, fun b hb => ?_⟩
        · rw [hu]
          show m.urgents ++ _ = _
          rw [hp.urgents, List.map_cons, List.append_assoc]
          rfl
        · rw [hf]
          show m.firm + _ = _
          rw [hp.firm, List.length_cons]
          omega
        · obtain ⟨hdrop, hnot⟩ := hbs b hb
          have hmem := List.mem_filter.mp hdrop
          refine ⟨hmem.1, fun h => ?_⟩
          rcases List.mem_cons.mp h with rfl | h
          · simp at hmem
          · exact hnot h
      · refine hstands b (fun c hc => hb c (List.mem_cons_of_mem _ hc)) ?_
        rcases h with h | ⟨f, hf, hc⟩
        · by_cases ht : a.target = b.target
          · have hab := hb a List.mem_cons_self ht
            refine .inr ⟨TxFrame.fresh s.sec a.content, ?_, by rw [hab]; rfl⟩
            show _ ∈ m.urgents
            rw [hp.urgents]
            exact List.mem_append_right _ List.mem_cons_self
          · exact .inl (List.mem_filter.mpr ⟨h, by simpa using fun h => ht h.symm⟩)
        · refine .inr ⟨f, ?_, hc⟩
          show f ∈ m.urgents
          rw [hp.urgents]
          exact List.mem_append_left _ hf
    · obtain ⟨l, bs, hfold, -, hstands⟩ := ih hrun
      exact ⟨l, bs, hfold, fun hlen => by rw [List.length_cons] at hlen; omega,
        fun b hb => hstands b fun c hc => hb c (List.mem_cons_of_mem _ hc)⟩

/-! ### The pending announcement, then the answers (R123, R129) -/

/-- A pending announcement of a notice in EXCEED. -/
def State.noticeHeld (s : State) : Bool := s.dust.announce && decide (s.dust.level = .exceed)

/-- The contents that the Dust Watch Unit holds, in the order in which it offers them. -/
def State.heldContents (s : State) : List Content :=
  (if s.noticeHeld then [s.plumeContent] else []) ++ s.dust.answers.map PendingAnswer.content

/-- What the frames offered again leave: all of them queued where there is room, none lost otherwise. -/
structure Retried (s t : State) : Prop where
  form : ∃ l as b, t = s.redust l as b ∧ (s.dust.announce = false → b = false)
  room : s.line.firm + s.heldContents.length ≤ 8 →
    t.line.urgents = s.line.urgents ++ s.heldContents.map (TxFrame.fresh s.sec)
      ∧ t.line.firm = s.line.firm + s.heldContents.length
      ∧ t.dust.answers = [] ∧ (s.noticeHeld = true → t.dust.announce = false)
  stands : (s.dust.answers.map PendingAnswer.target).Nodup → ∀ a ∈ s.dust.answers, answerStands a t

theorem retryNotice_of_held {s : State} (hrun : s.station.mode = .run) (h : s.noticeHeld = true) :
    retryNotice s = announceNotice s := by
  rw [State.noticeHeld, Bool.and_eq_true, decide_eq_true_eq] at h
  exact if_pos ⟨by simpa [State.inRun] using hrun, h.1, h.2⟩

theorem retryNotice_of_free {s : State} (h : s.noticeHeld = false) : retryNotice s = s := by
  refine if_neg fun ⟨_, ha, hl⟩ => ?_
  simp [State.noticeHeld, ha, hl] at h

theorem retryAnswers_of_run {s : State} (hrun : s.station.mode = .run) :
    retryAnswers s = s.dust.answers.foldl retryAnswer s := if_pos (by simpa [State.inRun] using hrun)

theorem nodup_unique {as : List PendingAnswer} (h : (as.map PendingAnswer.target).Nodup) {a b : PendingAnswer}
    (ha : a ∈ as) (hb : b ∈ as) (ht : b.target = a.target) : b = a :=
  eq_of_nodup_map h hb ha ht

/-- The pending answers offered again, after the announcement has or has not moved. -/
theorem retryAnswers_retried {s u : State} {l : Line} {b : Bool} (hrun : s.station.mode = .run)
    (hu : u = s.redust l s.dust.answers b) (hb : s.dust.announce = false → b = false)
    (hroom : s.line.firm + s.heldContents.length ≤ 8 →
      l.urgents = s.line.urgents ++ (if s.noticeHeld then [s.plumeContent] else []).map (TxFrame.fresh s.sec)
        ∧ l.firm = s.line.firm + (if s.noticeHeld then [s.plumeContent] else []).length
        ∧ (s.noticeHeld = true → b = false)) : Retried s (retryAnswers u) := by
  subst hu
  let u := s.redust l s.dust.answers b
  rw [retryAnswers_of_run (s := u) hrun]
  obtain ⟨m, bs, hfold, hall, hstands⟩ := foldl_retryAnswer (s := u) hrun s.dust.answers
  have hfold' : s.dust.answers.foldl retryAnswer u = s.redust m bs b := hfold
  refine ⟨⟨m, bs, b, hfold, hb⟩, fun hlen => ?_, fun hnodup a ha => ?_⟩
  · obtain ⟨hlu, hlf, hlb⟩ := hroom hlen
    have hlen' := hlen
    unfold State.heldContents at hlen'
    rw [List.length_append, List.length_map] at hlen'
    obtain ⟨hmu, hmf, hmb⟩ := hall (by show l.firm + _ ≤ 8; omega)
    rw [show u.dust.answers = s.dust.answers from rfl, hfold']
    refine ⟨?_, ?_, ?_, hlb⟩
    · show m.urgents = _
      rw [hmu]
      show l.urgents ++ _ = _
      rw [hlu, State.heldContents, List.map_append, List.map_map, List.append_assoc]
      rfl
    · show m.firm = _
      rw [hmf]
      show l.firm + _ = _
      rw [hlf, State.heldContents, List.length_append, List.length_map, Nat.add_assoc]
    · exact List.eq_nil_iff_forall_not_mem.mpr fun x hx => (hmb x hx).2 (hmb x hx).1
  · rw [show u.dust.answers = s.dust.answers from rfl, hfold]
    exact hstands a (fun c hc => nodup_unique hnodup ha hc) (.inl ha)

theorem retryDust_retried {s : State} (hrun : s.station.mode = .run) : Retried s (retryDust s) := by
  unfold retryDust
  cases hheld : s.noticeHeld with
  | false =>
    rw [retryNotice_of_free hheld]
    refine retryAnswers_retried (l := s.line) (b := s.dust.announce) hrun rfl id fun _ => ?_
    rw [hheld]
    exact ⟨by simp, rfl, nofun⟩
  | true =>
    have hann : s.dust.announce = true := by
      rw [State.noticeHeld, Bool.and_eq_true] at hheld
      exact hheld.1
    rw [retryNotice_of_held hrun hheld]
    rcases announceNotice_cases hrun with ⟨l, hp, h⟩ | ⟨hfull, h⟩
    · refine retryAnswers_retried hrun h (fun _ => rfl) fun _ => ?_
      rw [hheld]
      exact ⟨hp.urgents, hp.firm, fun _ => rfl⟩
    · refine retryAnswers_retried hrun h (fun hno => by rw [hann] at hno; cases hno) fun hlen => ?_
      unfold State.heldContents at hlen
      rw [hheld, List.length_append] at hlen
      simp at hlen
      omega

theorem heldContents_originator {s : State} {c : Content} (h : c ∈ s.heldContents) : c.originator = .dustWatch := by
  rcases List.mem_append.mp h with h | h
  · split at h
    · rw [List.mem_singleton.mp h]
      rfl
    · cases h
  · obtain ⟨a, -, rfl⟩ := List.mem_map.mp h
    rfl

/-- `dustRetried` for an arrival whose retries began in `u` and ended in `v`, with only the URGENT frames `rest` after
them. -/
theorem dustRetried_of {rest : List TxFrame} {s t u v : State} (h : Retried u v)
    (hfirm : u.line.firm ≤ s.line.queue.length) (hurgents : u.line.urgents = s.line.urgents) (hsec : u.sec = s.sec)
    (hanswers : u.dust.answers = s.dust.answers)
    (hnotice : u.noticeHeld = (s.dust.announce && decide (t.dust.level = .exceed)))
    (hplume : u.noticeHeld = true → u.plumeContent =
      .plume s.cfg.x s.cfg.y s.wind.record.bearing (t.dust.mean.getD 0) (s.dust.serial.getD 0))
    (hdust : t.dust = v.dust) (hline : t.line.urgents = v.line.urgents ++ rest) : dustRetried rest s t := by
  have hcontents : u.heldContents =
      (if s.dust.announce && decide (t.dust.level = .exceed) then
          [.plume s.cfg.x s.cfg.y s.wind.record.bearing (t.dust.mean.getD 0) (s.dust.serial.getD 0)] else [])
        ++ s.dust.answers.map fun a => .cover a.target a.serial a.answer a.count a.formed := by
    unfold State.heldContents
    rw [hanswers, ← hnotice]
    cases hn : u.noticeHeld with
    | false => rfl
    | true =>
      rw [if_pos rfl, if_pos rfl, hplume hn]
      rfl
  refine ⟨fun hlen => ?_, fun hnodup a ha => ?_⟩
  · rw [← hcontents] at hlen ⊢
    obtain ⟨hu, -, has, hb⟩ := h.room (by omega)
    rw [← hnotice, hdust]
    refine ⟨?_, has, hb⟩
    show t.line.urgents = s.line.urgents ++ _ ++ rest
    rw [hline, hu, hurgents, ← hsec]
    congr 2
    refine List.map_congr_left fun c hc => ?_
    unfold TxFrame.fresh
    rw [heldContents_originator hc]
  · rw [hdust]
    rcases h.stands (by rw [hanswers]; exact hnodup) a (by rw [hanswers]; exact ha) with hheld | ⟨f, hf, hc⟩
    · exact .inl hheld
    · have hft : f ∈ t.line.urgents := by
        rw [hline]
        exact List.mem_append_left _ hf
      exact .inr ⟨f, (List.mem_filter.1 hft).1, hc⟩

end Sys2Proof.Machine
end


section
/-! PROOFS. The timers and the readings of the Dust Watch Unit (O27, O28). -/

namespace Sys2Proof.Machine

/-! ### The reports under the unit's offers -/

theorem announceNotice_reports (s : State) : SameReports s (announceNotice s) :=
  (lineOffer_reports s.plumeContent s).trans ⟨rfl, rfl⟩

theorem retryNotice_reports (s : State) : SameReports s (retryNotice s) := .ite (announceNotice_reports s) (.refl s)

theorem retryAnswer_reports (s : State) (a : PendingAnswer) : SameReports s (retryAnswer s a) :=
  .ite ((lineOffer_reports a.content s).trans ⟨rfl, rfl⟩) (lineOffer_reports a.content s)

theorem retryAnswers_reports (s : State) : SameReports s (retryAnswers s) :=
  .ite (.foldl retryAnswer_reports _ s) (.refl s)

theorem retryDust_reports (s : State) : SameReports s (retryDust s) :=
  (retryNotice_reports s).trans (retryAnswers_reports _)

/-- An arrival in the Dust Watch Unit and on the line changes no flag. -/
theorem close_dust {s u : State} (hs : syncAlarms s = s) (h : onlyChanges [.dust, .line] s u) (hr : SameReports s u) :
    onlyChanges [.dust, .line] s (closeArrival s u) := by
  have hcannon : u.cannon = s.cannon := h .cannon (by decide)
  exact close_only_of_conditions h hs (hr.conditions (by rw [hcannon]) (h .station (by decide))
    (h .account (by decide)) (h .wind (by decide)) (h .forecast (by decide)))

theorem retryDust_of_idle {s : State} (h : s.station.mode ≠ .run) : retryDust s = s := by
  have hno : s.inRun = false := by simpa [State.inRun] using h
  have hn : retryNotice s = s := if_neg (by simp [hno])
  unfold retryDust
  rw [hn]
  exact if_neg (by simp [hno])

theorem Timer.pause_running (now : Nat) (t : Timer) :
    t.pause now = match t with
      | .running d => .paused (d - now)
      | w => w := by cases t <;> rfl

theorem Flag.event_ne_idle (sec : Nat) (f : Flag) : (f.event sec).state ≠ .idle := by
  unfold Flag.event
  cases h : f.state <;> simp [h]

/-! ### The timers (O28) -/

/-- Settles O28. -/
theorem dustTimers : Obligations.DustTimers := by
  unfold Obligations.DustTimers
  intro due s hs hm hdue
  refine ⟨fun hwatch hsilent => ?_, fun hwatch hsilent => ?_, fun hrefresh hlevel => ?_, fun hrec hlevel => ?_,
    fun hresp => ?_, fun target => exec_of_same hs hm rfl rfl rfl rfl rfl rfl⟩
  · refine exec_of_same hs hm ?_ rfl rfl rfl rfl rfl
    show takeReadingWatch s = _
    unfold takeReadingWatch
    rw [hwatch, isDue_running hdue, hsilent]
    show s.setDust _ = _
    simp only [Timer.pause_running, hwatch, Timer.reload] <;> rfl
  · let u := s.setDust { s.dust with watch := .running (due + 10000) }
    have heff : effectOf .readingWatchExpiry s = retryDust u := by
      show takeReadingWatch s = _
      unfold takeReadingWatch
      rw [hwatch, isDue_running hdue, hsilent]
      show retryDust (s.setDust { s.dust with watch := s.dust.watch.reload 10000 }) = _
      rw [hwatch]
      rfl
    have honly : onlyChanges [.dust, .line] s (retryDust u) :=
      only_trans (only_mono (setDust_only s _) (by decide)) (retryDust_only u)
    have hclose := close_dust (hs.1 hm) honly (.after (retryDust_reports u) ⟨rfl, rfl⟩)
    have hform : ∃ l as b, retryDust u = u.redust l as b := by
      by_cases hrun : s.station.mode = .run
      · obtain ⟨l, as, b, h, -⟩ := (retryDust_retried (s := u) hrun).form
        exact ⟨l, as, b, h⟩
      · exact ⟨u.line, u.dust.answers, u.dust.announce, retryDust_of_idle (s := u) hrun⟩
    obtain ⟨l, as, b, hform⟩ := hform
    refine ⟨_, exec_eq hm heff, ?_, ?_, ?_, fun hidle => ?_, fun hrun => ?_, hclose⟩
    · rw [closeArrival_dust, hform]
      rfl
    · rw [closeArrival_dust, hform]
      rfl
    · rw [closeArrival_dust, hform]
      exact hsilent
    · rw [closeArrival_dust, retryDust_of_idle (s := u) hidle]
      rfl
    · have hlevel : (closeArrival s (retryDust u)).dust.level = s.dust.level := by
        rw [closeArrival_dust, hform]
        rfl
      have hmean : (closeArrival s (retryDust u)).dust.mean = s.dust.mean := by
        rw [closeArrival_dust, hform]
        rfl
      refine dustRetried_of (retryDust_retried (s := u) hrun) s.line.firm_le rfl rfl rfl ?_ (fun _ => ?_)
        (closeArrival_dust s _) ?_
      · rw [hlevel]
        rfl
      · rw [hmean]
        rfl
      · rw [List.append_nil]
        exact (closeArrival_line s (retryDust u)).1
  · let u := (announceNotice s).onDust fun d => { d with refresh := .startAt s.now 300000 }
    have heff : effectOf .plumeRefresh s = u := by
      show takePlumeRefresh s = _
      unfold takePlumeRefresh
      rw [hrefresh, isDue_running hdue, hlevel]
      rfl
    have hline : u.line = (lineOffer s.plumeContent s).1.line := rfl
    have hdust : u.dust =
        { s.dust with announce := !(lineOffer s.plumeContent s).2, refresh := .running (s.now + 300000) } := by
      have h := dust_of_lineOffer s.plumeContent s
      show ({ (lineOffer s.plumeContent s).1.dust with announce := _, refresh := _ } : Dust) = _
      rw [h]
      rfl
    have honly : onlyChanges [.dust, .line] s u := only_trans (announceNotice_only s) (only_mono (onDust_only _ _) (by decide))
    have hcannon : u.cannon = s.cannon := honly .cannon (by decide)
    have hrep : SameReports s u := (announceNotice_reports s).trans ⟨rfl, rfl⟩
    have hexec : exec .plumeRefresh s = .next u := by
      refine exec_of_same hs hm heff (honly .alarms (by decide)) (hrep.conditions (by rw [hcannon])
        (honly .station (by decide)) (honly .account (by decide)) (honly .wind (by decide))
        (honly .forecast (by decide))) (relaySet_of_station (honly .station (by decide))) ?_ ?_
      · rw [hline]
        exact lineOffer_left _ s
      · simp only [State.reportedItems, State.locked, State.faceClasses, State.faceClass, hcannon, hdust,
          show u.lockout = s.lockout from honly .lockout (by decide), show u.face = s.face from honly .face (by decide)]
    refine ⟨u, hexec, by rw [hdust], fun hidle => ?_, fun hrun hroom => ?_, honly⟩
    · rw [hdust, lineOffer_of_idle hidle]
      rfl
    · have hoffer := offer_appends (sec := s.sec) (fun f _ => (placed_plume s.cfg.x s.cfg.y s.wind.record.bearing
        (s.dust.mean.getD 0) (s.dust.serial.getD 0)).fresh f) hroom
      rw [hdust, hline, lineOffer_of_run hrun, State.plumeContent, hoffer]
      exact ⟨rfl, rfl⟩
  · have heff : effectOf .recoveryExpiry s = s.setDust
        { s.dust with level := .clear, count := 0, recovery := .stopped, response := .stopped, announce := false } := by
      show takeRecovery s = _
      unfold takeRecovery
      rw [hrec, isDue_running hdue, hlevel]
      rfl
    exact ⟨_, exec_eq hm heff, closeArrival_dust s _,
      close_dust (hs.1 hm) (only_mono (setDust_only s _) (by decide)) ⟨rfl, rfl⟩, closeArrival_line s _⟩
  · cases hcov : s.dust.covered with
    | true =>
      have heff : effectOf .responseWindowExpiry s = s.setDust { s.dust with response := .stopped } := by
        show takeResponseWindow s = _
        unfold takeResponseWindow
        rw [hresp, isDue_running hdue, hcov]
        rfl
      refine ⟨_, exec_of_same hs hm heff rfl rfl rfl rfl rfl, ?_, fun _ => rfl, nofun,
        only_mono (setDust_only s _) (by decide), fun _ _ => rfl⟩
      simp
    | false =>
      let u := raisePlumeUncovered (s.setDust { s.dust with response := .stopped, uncovered := true })
      have heff : effectOf .responseWindowExpiry s = u := by
        show takeResponseWindow s = _
        unfold takeResponseWindow
        rw [hresp, isDue_running hdue, hcov]
        rfl
      have hflag : (syncAlarms u).alarms.flags.plumeUncovered = s.alarms.flags.plumeUncovered.event s.sec := by
        rw [← closeArrival_alarms s]
        exact closeArrival_event s u (i := .plumeUncovered) rfl
      have hdust : (syncAlarms u).dust =
          { s.dust with response := .stopped, uncovered := s.dust.uncovered || !s.dust.covered } := by
        rw [hcov, Bool.not_false, Bool.or_true]
        rfl
      have honly : onlyChanges [.dust, .alarms] s u :=
        only_trans (only_mono (setDust_only s _) (by decide)) (only_mono (setAlarms_only _ _) (by decide))
      refine ⟨_, exec_quiet hs hm heff rfl rfl, hcov ▸ hdust, nofun, fun _ => ⟨hflag, ?_⟩,
        only_trans honly (only_mono (syncAlarms_only u) (by decide)), fun i hi => ?_⟩
      · rw [hflag]
        exact Flag.event_ne_idle _ _
      · refine syncAlarms_flag_same (hs.1 hm) ?_ rfl
        cases i <;> first | rfl | exact absurd (List.mem_singleton.mpr rfl) hi

/-! ### A reading (R117 to R121; O27) -/

/-- The window after a reading, the monitor heard. -/
def readDust (v : Nat) (s : State) : Dust :=
  { s.dust with window := pushReading v s.dust.window, silent := false, watch := .running (s.now + 40000) }

/-- The mean formed over a full window, and a paused recovery timer running on. -/
def meanDust (v : Nat) (s : State) : Dust :=
  { readDust v s with
    mean := some ((pushReading v s.dust.window).sum / 6), recovery := s.dust.recovery.resume s.now }

theorem pushReading_length (v : Nat) (w : List Nat) : (pushReading v w).length = min (w.length + 1) 6 := by
  simp [pushReading]
  omega

theorem takeReading_of_short {v : Nat} {s : State} (h : s.dust.window.length < 5) :
    takeReading v s = s.setDust (readDust v s) := by
  have hlen := pushReading_length v s.dust.window
  unfold takeReading
  exact if_neg (by omega)

theorem takeReading_of_full {v : Nat} {s : State} (h : 5 ≤ s.dust.window.length) :
    takeReading v s = applyMean ((pushReading v s.dust.window).sum / 6) (s.setDust (meanDust v s)) := by
  have hlen := pushReading_length v s.dust.window
  unfold takeReading
  exact if_pos (by omega)

section Mean

variable {m : Nat} {s : State}

theorem applyMean_of_quiet (h : s.dust.level = .clear ∨ s.dust.level = .elevated)
    (hn : nextCount s.cfg.lExc m s.dust.level s.dust.count < 3) :
    applyMean m s = s.setDust
      { s.dust with
        count := nextCount s.cfg.lExc m s.dust.level s.dust.count
        level := if m < s.cfg.lElev then .clear else .elevated } := by
  unfold applyMean
  rcases h with h | h <;> rw [h] at hn ⊢ <;> exact if_neg (by omega)

theorem applyMean_of_third (h : s.dust.level = .elevated) (hm : s.cfg.lExc ≤ m) (hc : 3 ≤ s.dust.count + 1) :
    applyMean m s = startNotice (s.setDust
      { s.dust with
        count := s.dust.count + 1, level := if m < s.cfg.lElev then .clear else .elevated }) := by
  have hn : nextCount s.cfg.lExc m .elevated s.dust.count = s.dust.count + 1 :=
    (if_neg (by omega)).trans (if_pos rfl)
  unfold applyMean
  rw [h]
  simp only [hn]
  exact if_pos hc

theorem applyMean_of_fallen (h : s.dust.level = .exceed) (hm : m < s.cfg.lElev) :
    applyMean m s = s.setDust
      { s.dust with
        level := .recovering, recovery := .running (s.now + s.cfg.recoveryTime * 60000), refresh := .stopped
        announce := false } := by
  unfold applyMean
  rw [h]
  exact if_pos hm

theorem applyMean_of_lasting (h : s.dust.level = .exceed) (hm : s.cfg.lElev ≤ m) : applyMean m s = s := by
  unfold applyMean
  rw [h]
  exact if_neg (by omega)

theorem applyMean_of_return (h : s.dust.level = .recovering) (hm : s.cfg.lExc ≤ m) :
    applyMean m s = returnToExceed s := by
  unfold applyMean
  rw [h]
  exact if_pos hm

theorem applyMean_of_raised (h : s.dust.level = .recovering) (hm : m < s.cfg.lExc) (hl : s.cfg.lElev ≤ m) :
    applyMean m s = s.setDust { s.dust with recovery := .running (s.now + s.cfg.recoveryTime * 60000) } := by
  unfold applyMean
  rw [h]
  exact (if_neg (by omega)).trans (if_pos hl)

theorem applyMean_of_low (h : s.dust.level = .recovering) (hm : m < s.cfg.lExc) (hl : m < s.cfg.lElev) :
    applyMean m s = s := by
  unfold applyMean
  rw [h]
  exact (if_neg (by omega)).trans (if_neg (by omega))

end Mean

/-- An answer that covers a notice stops its response window (R132). -/
theorem takeCover_response (sec : Nat) (e : CoverEntry) {d : Dust} (h : d.covered = false) :
    (d.takeCover sec e).response = if (d.takeCover sec e).covered then .stopped else d.response := by
  cases hc : e.covers with
  | true =>
    rw [takeCover_of_first sec h hc]
    rfl
  | false =>
    rw [takeCover_of_spent sec (.inr hc)]
    simp [h]

/-- The self-test enters the station's own answer. -/
theorem selfTest_dust (s : State) :
    ∃ e, (selfTest s).dust = s.dust.takeCover s.sec e ∧ e.responder = s.station.node := by
  have hd : (formAnswer s.wind.record.bearing s.station.node s).1.dust = s.dust :=
    formAnswer_only _ _ s .dust (by decide)
  unfold selfTest
  simp only [State.onDust, State.setDust_dust, hd]
  exact ⟨_, rfl, rfl⟩

theorem announceNotice_dust (s : State) : ∃ b, (announceNotice s).dust = { s.dust with announce := b } := by
  unfold announceNotice
  simp only [State.onDust, State.setDust_dust, dust_of_lineOffer]
  exact ⟨_, rfl⟩

/-- After the self-test the announcement is queued or held. -/
theorem announced_dust (s : State) :
    ∃ e b, (announceNotice (selfTest s)).dust = { s.dust.takeCover s.sec e with announce := b }
      ∧ e.responder = s.station.node := by
  obtain ⟨e, he, hr⟩ := selfTest_dust s
  obtain ⟨b, hb⟩ := announceNotice_dust (selfTest s)
  exact ⟨e, b, by rw [hb, he], hr⟩

theorem takeCover_keeps (sec : Nat) (e : CoverEntry) (d : Dust) :
    (d.takeCover sec e).level = d.level ∧ (d.takeCover sec e).serial = d.serial
      ∧ (d.takeCover sec e).nextSerial = d.nextSerial ∧ (d.takeCover sec e).uncovered = d.uncovered
      ∧ (d.takeCover sec e).recovery = d.recovery ∧ (d.takeCover sec e).mean = d.mean
      ∧ (d.takeCover sec e).window = d.window ∧ (d.takeCover sec e).silent = d.silent
      ∧ (d.takeCover sec e).watch = d.watch := by
  unfold Dust.takeCover
  simp only
  split <;> exact ⟨rfl, rfl, rfl, rfl, rfl, rfl, rfl, rfl, rfl⟩

/-- A new notice (R120). -/
theorem startNotice_dust (s : State) :
    ∃ e b, e.responder = s.station.node
      ∧ (startNotice s).dust =
          { ({ s.dust with
               level := .exceed, serial := some s.dust.nextSerial, nextSerial := (s.dust.nextSerial + 1) % 256
               cover := [], covered := false, uncovered := false, coverage := none
               response := .running (s.now + s.cfg.responseWindow * 1000) } : Dust).takeCover s.sec e with
            announce := b, refresh := .running (s.now + 300000), count := 0 } := by
  obtain ⟨e, b, h, hr⟩ := announced_dust (s.setDust
    { s.dust with
      level := .exceed, serial := some s.dust.nextSerial, nextSerial := (s.dust.nextSerial + 1) % 256
      cover := [], covered := false, uncovered := false, coverage := none
      response := .running (s.now + s.cfg.responseWindow * 1000) })
  refine ⟨e, b, hr, ?_⟩
  have hnow : (announceNotice (selfTest (s.setDust
    { s.dust with
      level := .exceed, serial := some s.dust.nextSerial, nextSerial := (s.dust.nextSerial + 1) % 256
      cover := [], covered := false, uncovered := false, coverage := none
      response := .running (s.now + s.cfg.responseWindow * 1000) }))).dust = _ := h
  unfold startNotice
  simp only [State.onDust, State.setDust_dust]
  exact congrArg (fun d : Dust => { d with refresh := .running (s.now + 300000), count := 0 }) hnow

/-- A return to EXCEED (R121). -/
theorem returnToExceed_dust (s : State) :
    ∃ e b, (returnToExceed s).dust =
      { ({ s.dust with level := .exceed, recovery := .stopped } : Dust).takeCover s.sec e with
        announce := b, refresh := .running (s.now + 300000) } := by
  obtain ⟨e, b, h, -⟩ := announced_dust (s.setDust { s.dust with level := .exceed, recovery := .stopped })
  refine ⟨e, b, ?_⟩
  unfold returnToExceed
  simp only [State.onDust, State.setDust_dust]
  exact congrArg (fun d : Dust => { d with refresh := .running (s.now + 300000) }) h

/-- What a mean leaves of the reading itself. -/
theorem applyMean_reading (m : Nat) (s : State) :
    (applyMean m s).dust.window = s.dust.window ∧ (applyMean m s).dust.silent = s.dust.silent
      ∧ (applyMean m s).dust.watch = s.dust.watch ∧ (applyMean m s).dust.mean = s.dust.mean := by
  have hstart (u : State) : (startNotice u).dust.window = u.dust.window ∧ (startNotice u).dust.silent = u.dust.silent
      ∧ (startNotice u).dust.watch = u.dust.watch ∧ (startNotice u).dust.mean = u.dust.mean := by
    obtain ⟨e, b, -, h⟩ := startNotice_dust u
    rw [h]
    obtain ⟨-, -, -, -, -, hmean, hwindow, hsilent, hwatch⟩ := takeCover_keeps u.sec e
      { u.dust with
        level := .exceed, serial := some u.dust.nextSerial, nextSerial := (u.dust.nextSerial + 1) % 256
        cover := [], covered := false, uncovered := false, coverage := none
        response := .running (u.now + u.cfg.responseWindow * 1000) }
    exact ⟨hwindow, hsilent, hwatch, hmean⟩
  have hreturn : (returnToExceed s).dust.window = s.dust.window ∧ (returnToExceed s).dust.silent = s.dust.silent
      ∧ (returnToExceed s).dust.watch = s.dust.watch ∧ (returnToExceed s).dust.mean = s.dust.mean := by
    obtain ⟨e, b, h⟩ := returnToExceed_dust s
    rw [h]
    obtain ⟨-, -, -, -, -, hmean, hwindow, hsilent, hwatch⟩ := takeCover_keeps s.sec e
      { s.dust with level := .exceed, recovery := .stopped }
    exact ⟨hwindow, hsilent, hwatch, hmean⟩
  unfold applyMean
  simp only
  split
  · split <;> exact ⟨rfl, rfl, rfl, rfl⟩
  · split
    · exact hreturn
    · split <;> exact ⟨rfl, rfl, rfl, rfl⟩
  · split
    · exact hstart _
    · exact ⟨rfl, rfl, rfl, rfl⟩

/-- The reading itself is taken whatever follows (R117). -/
theorem takeReading_reading (v : Nat) (s : State) :
    (takeReading v s).dust.window = pushReading v s.dust.window ∧ (takeReading v s).dust.silent = false
      ∧ (takeReading v s).dust.watch = .running (s.now + 40000) := by
  by_cases h : s.dust.window.length < 5
  · rw [takeReading_of_short h]
    exact ⟨rfl, rfl, rfl⟩
  · rw [takeReading_of_full (Nat.le_of_not_lt h)]
    obtain ⟨hwindow, hsilent, hwatch, -⟩ := applyMean_reading ((pushReading v s.dust.window).sum / 6)
      (s.setDust (meanDust v s))
    exact ⟨hwindow, hsilent, hwatch⟩

/-- The frames offered again after a reading move what the unit holds and the line alone. -/
theorem retries_dust (u : State) :
    ∃ as b, (retryAnswers (retryNotice u)).dust = { u.dust with answers := as, announce := b }
      ∧ (u.dust.announce = false → b = false) := by
  by_cases hrun : u.station.mode = .run
  · obtain ⟨l, as, b, h, hb⟩ := (retryDust_retried hrun).form
    refine ⟨as, b, ?_, hb⟩
    show (retryDust u).dust = _
    rw [h]
    rfl
  · refine ⟨u.dust.answers, u.dust.announce, ?_, id⟩
    show (retryDust u).dust = _
    rw [retryDust_of_idle hrun]

/-- The answers alone offered again. -/
theorem retryAnswers_dust (u : State) :
    ∃ as, (retryAnswers u).dust = { u.dust with answers := as } := by
  unfold retryAnswers
  by_cases hrun : u.station.mode = .run
  · obtain ⟨l, as, h, -⟩ := foldl_retryAnswer hrun u.dust.answers
    rw [if_pos (by simpa [State.inRun] using hrun), h]
    exact ⟨as, rfl⟩
  · rw [if_neg (by simpa [State.inRun] using hrun)]
    exact ⟨u.dust.answers, rfl⟩

theorem takeDustReading_eq {value : Int} {s : State} (hop : s.operational = true) :
    takeDustReading value s =
      retryAnswers
        (if s.dust.announce then retryNotice (takeReading (clampInt 5000 value) s)
         else takeReading (clampInt 5000 value) s) := if_pos hop

/-- A reading, then the frames that were held: the unit after it. -/
theorem takeDustReading_dust {value : Int} {s : State} (hop : s.operational = true) :
    ∃ as b, (takeDustReading value s).dust =
        { (takeReading (clampInt 5000 value) s).dust with answers := as, announce := b }
      ∧ ((takeReading (clampInt 5000 value) s).dust.announce = false → b = false) := by
  rw [takeDustReading_eq hop]
  split
  · exact retries_dust _
  · obtain ⟨as, h⟩ := retryAnswers_dust (takeReading (clampInt 5000 value) s)
    exact ⟨as, _, h, id⟩

/-- A reading begins or renews a notice in EXCEED, or it moves the unit alone and no held frame. -/
theorem takeReading_cases (v : Nat) (s : State) :
    (∃ d, takeReading v s = s.setDust d ∧ d.answers = s.dust.answers ∧ d.serial = s.dust.serial
        ∧ (s.dust.announce = false → d.announce = false) ∧ (d.level = .exceed → d.announce = s.dust.announce))
      ∨ ((takeReading v s).dust.level = .exceed ∧ s.dust.level ≠ .exceed) := by
  by_cases hshort : s.dust.window.length < 5
  · exact .inl ⟨_, takeReading_of_short hshort, rfl, rfl, id, fun _ => rfl⟩
  rw [takeReading_of_full (Nat.le_of_not_lt hshort)]
  generalize (pushReading v s.dust.window).sum / 6 = m
  let u := s.setDust (meanDust v s)
  have hquiet (hl : s.dust.level = .clear ∨ s.dust.level = .elevated)
      (hn : nextCount s.cfg.lExc m s.dust.level s.dust.count < 3) :
      ∃ d, applyMean m u = s.setDust d ∧ d.answers = s.dust.answers ∧ d.serial = s.dust.serial
        ∧ (s.dust.announce = false → d.announce = false) ∧ (d.level = .exceed → d.announce = s.dust.announce) :=
    ⟨_, applyMean_of_quiet (s := u) hl hn, rfl, rfl, id, fun _ => rfl⟩
  cases hlevel : s.dust.level with
  | clear =>
    refine .inl (hquiet (.inl hlevel) ?_)
    rw [hlevel]
    unfold nextCount
    split
    · omega
    · exact Nat.lt_of_le_of_lt (Nat.le_of_eq (if_neg nofun)) (by omega)
  | elevated =>
    by_cases hn : nextCount s.cfg.lExc m s.dust.level s.dust.count < 3
    · exact .inl (hquiet (.inr hlevel) hn)
    · rw [hlevel] at hn
      unfold nextCount at hn
      by_cases hm : m < s.cfg.lExc
      · rw [if_pos hm] at hn
        omega
      · rw [if_neg hm, if_pos rfl] at hn
        refine .inr ⟨?_, nofun⟩
        rw [applyMean_of_third (s := u) hlevel (Nat.le_of_not_lt hm) (Nat.le_of_not_lt hn)]
        obtain ⟨e, b, -, h⟩ := startNotice_dust (u.setDust
          { u.dust with
            count := u.dust.count + 1, level := if m < u.cfg.lElev then .clear else .elevated })
        rw [h]
        exact (takeCover_keeps _ _ _).1
  | exceed =>
    by_cases hm : m < s.cfg.lElev
    · exact .inl ⟨_, applyMean_of_fallen (s := u) hlevel hm, rfl, rfl, fun _ => rfl, nofun⟩
    · exact .inl ⟨_, applyMean_of_lasting (s := u) hlevel (Nat.le_of_not_lt hm), rfl, rfl, id, fun _ => rfl⟩
  | recovering =>
    by_cases hm : m < s.cfg.lExc
    · by_cases hl : m < s.cfg.lElev
      · exact .inl ⟨_, applyMean_of_low (s := u) hlevel hm hl, rfl, rfl, id, fun _ => rfl⟩
      · exact .inl ⟨_, applyMean_of_raised (s := u) hlevel hm (Nat.le_of_not_lt hl), rfl, rfl, id, fun _ => rfl⟩
    · refine .inr ⟨?_, nofun⟩
      rw [applyMean_of_return (s := u) hlevel (Nat.le_of_not_lt hm)]
      obtain ⟨e, b, h⟩ := returnToExceed_dust u
      rw [h]
      exact (takeCover_keeps _ _ _).1

/-- Settles O27. -/
theorem dustReadings : Obligations.DustReadings := by
  unfold Obligations.DustReadings
  intro value s hop hconfig v window mean
  have hm := operational_ne_start hop
  have hv : clampInt 5000 value = v := by
    unfold clampInt
    omega
  have hwindow : pushReading v s.dust.window = window := by simp [pushReading, window]
  let r := takeReading v s
  obtain ⟨as, b, hdust, hannounce⟩ := takeDustReading_dust (value := value) hop
  rw [hv] at hdust hannounce
  obtain ⟨hrw, hrs, hrt⟩ := takeReading_reading v s
  have hfull (h : 5 ≤ s.dust.window.length) : r = applyMean mean (s.setDust (meanDust v s)) := by
    have := takeReading_of_full (v := v) h
    rwa [hwindow] at this
  have honly := takeDustReading_only value s
  refine ⟨closeArrival s (takeDustReading value s), exec_eq hm rfl, ?_, ?_, ?_, close_only (only_mono honly (by decide)),
    fun hshort => ?_, fun hlen => ?_, fun hrun hlevel => ?_⟩
  · rw [closeArrival_dust, hdust, ← hwindow]
    exact hrw
  · rw [closeArrival_dust, hdust]
    exact hrs
  · rw [closeArrival_dust, hdust]
    exact hrt
  · rw [closeArrival_dust, hdust, takeReading_of_short hshort]
    exact ⟨rfl, rfl, rfl, rfl, rfl⟩
  · have hr := hfull hlen
    let u := s.setDust (meanDust v s)
    have hmean : r.dust.mean = some mean := by
      rw [hr, (applyMean_reading mean _).2.2.2]
      exact congrArg (fun w => some (List.sum w / 6)) hwindow
    rw [closeArrival_dust, hdust]
    refine ⟨hmean, fun hl => ?_, fun hl hlow => ?_, fun hl hhigh hcount => ?_, fun hl hhigh hcount => ?_, fun hl => ?_,
      fun left hl hpaused hlow => ?_, fun hl => ?_⟩
    · have hn : nextCount s.cfg.lExc mean .clear s.dust.count = if mean < s.cfg.lExc then 0 else 1 := by
        unfold nextCount
        rfl
      have hr' := hr.trans (applyMean_of_quiet (s := u) (.inl hl) (by
        show nextCount s.cfg.lExc mean s.dust.level s.dust.count < 3
        rw [hl, hn]
        split <;> omega))
      rw [show takeReading v s = _ from hr']
      refine ⟨rfl, ?_⟩
      show nextCount s.cfg.lExc mean s.dust.level s.dust.count = _
      rw [hl, hn]
    · have hn : nextCount s.cfg.lExc mean s.dust.level s.dust.count = 0 := if_pos hlow
      have hr' := hr.trans (applyMean_of_quiet (s := u) (.inr hl) (by
        show nextCount s.cfg.lExc mean s.dust.level s.dust.count < 3
        omega))
      rw [show takeReading v s = _ from hr']
      exact ⟨rfl, hn⟩
    · have hn : nextCount s.cfg.lExc mean s.dust.level s.dust.count = s.dust.count + 1 := by
        rw [hl]
        exact (if_neg (by omega)).trans (if_pos rfl)
      have hr' := hr.trans (applyMean_of_quiet (s := u) (.inr hl) (by
        show nextCount s.cfg.lExc mean s.dust.level s.dust.count < 3
        omega))
      rw [show takeReading v s = _ from hr']
      exact ⟨if_neg (by show ¬ mean < s.cfg.lElev; omega), hn⟩
    · have hr' := hr.trans (applyMean_of_third (s := u) hl hhigh hcount)
      rw [show takeReading v s = _ from hr']
      obtain ⟨e, b, hresp, h⟩ := startNotice_dust (u.setDust
        { u.dust with
          count := u.dust.count + 1, level := if mean < u.cfg.lElev then .clear else .elevated })
      rw [h]
      obtain ⟨hlev, hser, hnext, hunc, -⟩ := takeCover_keeps s.sec e
        { u.dust with
          count := u.dust.count + 1, level := .exceed, serial := some s.dust.nextSerial
          nextSerial := (s.dust.nextSerial + 1) % 256, cover := [], covered := false, uncovered := false
          coverage := none, response := .running (s.now + s.cfg.responseWindow * 1000) }
      refine ⟨hlev, rfl, hser, hnext, ?_, hunc, rfl, takeCover_response _ _ rfl⟩
      show List.map _ (Dust.takeCover _ _ _).cover = _
      rw [takeCover_cover]
      exact congrArg (fun n => [n]) hresp
    · by_cases hlow : mean < s.cfg.lElev
      · rw [show takeReading v s = _ from hr.trans (applyMean_of_fallen (s := u) hl hlow)] at hannounce ⊢
        exact ⟨(if_pos hlow).symm, rfl, fun _ => ⟨rfl, rfl, hannounce rfl⟩⟩
      · rw [show takeReading v s = _ from hr.trans (applyMean_of_lasting (s := u) hl (Nat.le_of_not_lt hlow))]
        exact ⟨hl.trans (if_neg hlow).symm, rfl, fun h => absurd h hlow⟩
    · rw [show takeReading v s = _ from hr.trans (applyMean_of_low (s := u) hl (by show mean < s.cfg.lExc; omega) hlow)]
      show s.dust.recovery.resume s.now = _
      rw [hpaused]
      rfl
    · by_cases hhigh : s.cfg.lExc ≤ mean
      · rw [show takeReading v s = _ from hr.trans (applyMean_of_return (s := u) hl hhigh)]
        obtain ⟨e, b, h⟩ := returnToExceed_dust u
        obtain ⟨hlev, hser, -, -, hrec, -⟩ := takeCover_keeps u.sec e
          { u.dust with level := .exceed, recovery := .stopped }
        rw [h]
        exact ⟨hlev.trans (if_pos hhigh).symm, hser, fun _ => ⟨hrec, rfl⟩, fun _ hlt => absurd hhigh (by omega)⟩
      · have hlt := Nat.lt_of_not_le hhigh
        by_cases hlow : mean < s.cfg.lElev
        · rw [show takeReading v s = _ from hr.trans (applyMean_of_low (s := u) hl hlt hlow)]
          exact ⟨hl.trans (if_neg hhigh).symm, rfl, fun h => absurd h hhigh, fun h => absurd hlow (by omega)⟩
        · rw [show takeReading v s = _ from hr.trans (applyMean_of_raised (s := u) hl hlt (Nat.le_of_not_lt hlow))]
          exact ⟨hl.trans (if_neg hhigh).symm, rfl, fun h => absurd h hhigh, fun _ _ => rfl⟩
  · have htd : (closeArrival s (takeDustReading value s)).dust = (takeDustReading value s).dust := closeArrival_dust s _
    have htlevel : (closeArrival s (takeDustReading value s)).dust.level = r.dust.level := by rw [htd, hdust]
    have htmean : (closeArrival s (takeDustReading value s)).dust.mean = r.dust.mean := by rw [htd, hdust]
    rw [htlevel] at hlevel
    obtain ⟨d, hd, hans, hser, hfree, hheld⟩ := (takeReading_cases v s).resolve_right fun ⟨hex, hne⟩ =>
      hlevel.elim (fun h => hne (h ▸ hex)) fun h => h hex
    have hr : r = s.setDust d := hd
    have hretry : takeDustReading value s = retryDust (s.setDust d) := by
      rw [takeDustReading_eq hop, hv, hd]
      unfold retryDust
      cases hann : s.dust.announce with
      | true => rfl
      | false =>
        rw [retryNotice_of_free (s := s.setDust d) (by simp [State.noticeHeld, hfree hann])]
        rfl
    rw [hr] at htlevel htmean
    refine dustRetried_of (retryDust_retried (s := s.setDust d) hrun) s.line.firm_le rfl rfl hans ?_ (fun _ => ?_)
      (htd.trans (congrArg State.dust hretry)) ?_
    · rw [htlevel]
      show (d.announce && decide (d.level = .exceed)) = (s.dust.announce && decide (d.level = .exceed))
      by_cases hex : d.level = .exceed
      · rw [hheld hex]
      · simp [hex]
    · rw [htmean, ← hser]
      rfl
    · rw [List.append_nil, ← hretry]
      exact (closeArrival_line s _).1

end Sys2Proof.Machine
end


section
/-! PROOFS. The KNOCKDOWN entries of the queue under the offers of a notice, and the chain that such an offer preempts
(R56 to R59, R128). -/

namespace Sys2Proof.Machine

/-! ### The KNOCKDOWN entries of a face -/

/-- An entry but for its running marker. -/
def Entry.still (e : Entry) : Entry := { e with running := false }

/-- The KNOCKDOWN entries of a face but for their running markers. -/
def knocksOf (f : FaceId) (es : List Entry) : List Entry := (es.filter (Entry.isOf f .knockdown)).map Entry.still

theorem mem_knocksOf {f : FaceId} {es : List Entry} {x : Entry} :
    x ∈ knocksOf f es ↔ ∃ e ∈ es, e.face = f ∧ e.cls = .knockdown ∧ e.still = x := by
  simp only [knocksOf, List.mem_map, List.mem_filter, Entry.isOf_iff, and_assoc]

/-- Entries after the work of other chains: no more of them, the KNOCKDOWN entries as they were but for their running
markers, and no new running entry. -/
structure Thinned (es fs : List Entry) : Prop where
  length : fs.length ≤ es.length
  knocks : ∀ f, knocksOf f fs = knocksOf f es
  running : ∀ x ∈ fs, x.running = true → ∃ y ∈ es, y.face = x.face ∧ y.cls = x.cls ∧ y.running = true

theorem Thinned.refl (es : List Entry) : Thinned es es := ⟨Nat.le_refl _, fun _ => rfl, fun x hx hr => ⟨x, hx, rfl, rfl, hr⟩⟩

theorem Thinned.trans {es fs gs : List Entry} (h : Thinned es fs) (k : Thinned fs gs) : Thinned es gs := by
  refine ⟨Nat.le_trans k.length h.length, fun f => (k.knocks f).trans (h.knocks f), fun x hx hr => ?_⟩
  obtain ⟨y, hy, hyf, hyc, hyr⟩ := k.running x hx hr
  obtain ⟨z, hz, hzf, hzc, hzr⟩ := h.running y hy hyr
  exact ⟨z, hz, hzf.trans hyf, hzc.trans hyc, hzr⟩

theorem knocksOf_change {f g : FaceId} {c : DemandClass} {k : Entry → Entry} {es : List Entry}
    (hface : ∀ e, (k e).face = e.face) (hcls : ∀ e, (k e).cls = e.cls)
    (h : (g = f → c ≠ .knockdown) ∨ ∀ e, (k e).still = e.still) :
    knocksOf f (changeEntry g c k es) = knocksOf f es := by
  have hof (e : Entry) : (if e.isOf g c then k e else e).isOf f .knockdown = e.isOf f .knockdown := by
    split
    · simp only [Entry.isOf, hface, hcls]
    · rfl
  unfold knocksOf changeEntry
  rw [List.filter_map, List.map_map]
  have hfilter : (Entry.isOf f DemandClass.knockdown ∘ fun e => if e.isOf g c then k e else e)
      = Entry.isOf f DemandClass.knockdown := funext hof
  rw [hfilter]
  refine List.map_congr_left fun e he => ?_
  show Entry.still (if e.isOf g c then k e else e) = _
  split
  · rename_i hg
    rcases h with h | h
    · obtain ⟨hgf, hgc⟩ := Entry.isOf_iff.mp hg
      obtain ⟨hff, hfc⟩ := Entry.isOf_iff.mp (List.mem_filter.mp he).2
      exact absurd (hgc.symm.trans hfc) (h (hgf.symm.trans hff))
    · exact h e
  · rfl

theorem knocksOf_drop {f g : FaceId} {c : DemandClass} {es : List Entry} (h : c ≠ .knockdown) :
    knocksOf f (dropEntry g c es) = knocksOf f es := by
  unfold knocksOf dropEntry
  rw [List.filter_filter]
  congr 1
  refine List.filter_congr fun e _ => ?_
  cases hof : e.isOf f .knockdown with
  | false => rfl
  | true =>
    have hno : e.isOf g c = false := by
      rw [Bool.eq_false_iff, Ne, Entry.isOf_iff]
      exact fun hg => h (hg.2.symm.trans (Entry.isOf_iff.mp hof).2)
    rw [hno]
    rfl

theorem changeEntry_length (g : FaceId) (c : DemandClass) (k : Entry → Entry) (es : List Entry) :
    (changeEntry g c k es).length = es.length := List.length_map _

theorem thinned_change {g : FaceId} {c : DemandClass} {k : Entry → Entry} {es : List Entry}
    (hface : ∀ e, (k e).face = e.face) (hcls : ∀ e, (k e).cls = e.cls)
    (hrun : ∀ e, (k e).running = true → e.running = true) (h : c ≠ .knockdown ∨ ∀ e, (k e).still = e.still) :
    Thinned es (changeEntry g c k es) := by
  refine ⟨Nat.le_of_eq (changeEntry_length _ _ _ _), fun f => knocksOf_change hface hcls (h.imp_left fun h _ => h), fun x hx hr => ?_⟩
  rcases mem_changeEntry.mp hx with ⟨hx, -⟩ | ⟨e, he, -, -, rfl⟩
  · exact ⟨x, hx, rfl, rfl, hr⟩
  · exact ⟨e, he, (hface e).symm, (hcls e).symm, hrun e hr⟩

theorem thinned_drop {g : FaceId} {c : DemandClass} {es : List Entry} (h : c ≠ .knockdown) :
    Thinned es (dropEntry g c es) :=
  ⟨List.length_filter_le _ _, fun _ => knocksOf_drop h, fun x hx hr => ⟨x, (mem_dropEntry.mp hx).1, rfl, rfl, hr⟩⟩

/-! ### The end of a preempted chain -/

theorem reduceEntry_thinned {n : Nat} {s : State} {e : Entry} (h : e.cls ≠ .knockdown) :
    Thinned s.queue.entries (reduceEntry n s e).queue.entries := by
  rw [reduceEntry_entries]
  split
  · exact thinned_drop h
  · exact thinned_change (fun _ => rfl) (fun _ => rfl) (fun _ hr => hr) (.inl h)

theorem completionReduction_thinned (f : FaceId) (c : DemandClass) (n : Nat) (s : State) :
    Thinned s.queue.entries (completionReduction f c n s).queue.entries := by
  have hfold : ∀ (l : List Entry) (s : State), (∀ e ∈ l, e.cls ≠ .knockdown) →
      Thinned s.queue.entries (l.foldl (reduceEntry n) s).queue.entries := by
    intro l
    induction l with
    | nil => exact fun s _ => .refl _
    | cons e l ih =>
      exact fun s hl => (reduceEntry_thinned (hl e List.mem_cons_self)).trans
        (ih _ fun x hx => hl x (List.mem_cons_of_mem _ hx))
  unfold completionReduction
  split
  · exact .refl _
  · refine hfold _ s fun e he hc => ?_
    have hlt := (List.mem_filter.mp he).2
    have hle := DemandClass.rank_le c
    rw [hc, Bool.and_eq_true, decide_eq_true_eq, decide_eq_true_eq] at hlt
    exact absurd hlt.2 (Nat.not_lt.mpr hle)

theorem stopRunning_thinned (f : FaceId) (c : DemandClass) (s : State) :
    Thinned s.queue.entries (stopRunning f c s).queue.entries :=
  thinned_change (fun _ => rfl) (fun _ => rfl) nofun (.inr fun _ => rfl)

theorem dropReached_thinned (f : FaceId) (c : DemandClass) (s : State) :
    Thinned s.queue.entries (dropReached f c s).queue.entries := by
  unfold dropReached
  split
  · split
    · rename_i e _ h
      rw [removeEntry_queue]
      exact thinned_drop (by rw [h.1]; exact nofun)
    · exact .refl _
  · exact .refl _

/-- The report of a stop that counts no attempt leaves the KNOCKDOWN entries (R61, R62). -/
theorem queueChainEnd_thinned {ch : Chain} {c : Cause} {s : State} (h : c.counts = false) :
    Thinned s.queue.entries (queueChainEnd ch c s).queue.entries := by
  refine Thinned.trans ?_ (completionReduction_thinned ch.face ch.cls ch.litres (endEntry ch c s))
  unfold endEntry
  split
  · simp only [h, Bool.false_eq_true, if_false]
    exact (stopRunning_thinned _ _ s).trans (dropReached_thinned _ _ _)
  · exact .refl _

theorem chainOver_thinned {ch : Chain} {c : Cause} {s : State} (h : c.counts = false) :
    Thinned s.queue.entries (chainOver c ch s).queue.entries := by
  have hq := queueChainEnd_thinned (ch := ch) (s := afterChain c ch (chainGone c ch s)) h
  rwa [(afterChain_keeps c ch _).entries, chainGone_queue] at hq

/-- What a selection leaves of the entries: all of them, with one more running marker at most. -/
theorem trySelection_thinned (s : State) :
    (trySelection s).queue.entries.length ≤ s.queue.entries.length
      ∧ ∀ f, knocksOf f (trySelection s).queue.entries = knocksOf f s.queue.entries := by
  rcases (trySelection_keeps s).shape with h | ⟨e, -, h⟩ <;> rw [h]
  · exact ⟨Nat.le_refl _, fun _ => rfl⟩
  · exact ⟨Nat.le_of_eq (changeEntry_length _ _ _ _), fun f => knocksOf_change (fun _ => rfl) (fun _ => rfl) (.inr fun _ => rfl)⟩

/-! ### A KNOCKDOWN offer (R56, R57) -/

/-- A KNOCKDOWN offer that the queue can take: of a face with a record, in LISTEN, RUN or MUTE, of some litres, where
there is room. -/
structure KnockFits (o : Offer) (s : State) : Prop where
  cls : o.cls = .knockdown
  takes : s.takesOffer o = true
  room : s.queue.entries.length < 8

/-- The KNOCKDOWN entries of the offered face after the offer: merged with it, or the new one (R56, R57). -/
def knocked (o : Offer) (s : State) : List Entry :=
  if knocksOf o.face s.queue.entries = [] then [o.entry s.sec]
  else (knocksOf o.face s.queue.entries).map (Entry.merge o)

theorem knocksOf_eq_nil {f : FaceId} {es : List Entry} :
    knocksOf f es = [] ↔ ∀ e ∈ es, ¬ (e.face = f ∧ e.cls = .knockdown) := by
  simp only [knocksOf, List.map_eq_nil_iff, List.filter_eq_nil_iff, Entry.isOf_iff]

theorem knocksOf_merge {o : Offer} (ho : o.cls = .knockdown) (es : List Entry) :
    knocksOf o.face (changeEntry o.face o.cls (Entry.merge o) es) = (knocksOf o.face es).map (Entry.merge o) := by
  have hof (e : Entry) :
      (if e.isOf o.face o.cls then e.merge o else e).isOf o.face .knockdown = e.isOf o.face .knockdown := by
    split
    · rfl
    · rfl
  unfold knocksOf changeEntry
  rw [List.filter_map, List.map_map, List.map_map, show (Entry.isOf o.face DemandClass.knockdown ∘
    fun e => if e.isOf o.face o.cls then e.merge o else e) = Entry.isOf o.face DemandClass.knockdown from funext hof]
  refine List.map_congr_left fun e he => ?_
  show Entry.still (if e.isOf o.face o.cls then e.merge o else e) = _
  rw [ho, if_pos (List.mem_filter.mp he).2]
  rfl

theorem knocksOf_append (f : FaceId) (es : List Entry) (e : Entry) :
    knocksOf f (es ++ [e]) = knocksOf f es ++ if e.isOf f .knockdown then [e.still] else [] := by
  unfold knocksOf
  rw [List.filter_append, List.map_append]
  cases h : e.isOf f .knockdown <;> simp [h]

theorem admitOffer_knocks {o : Offer} {s : State} (h : KnockFits o s) :
    ((admitOffer o s).2 = .merged ∨ (admitOffer o s).2 = .added)
      ∧ (admitOffer o s).1.queue.entries.length ≤ s.queue.entries.length + 1
      ∧ knocksOf o.face (admitOffer o s).1.queue.entries = knocked o s
      ∧ ∀ f, f ≠ o.face → knocksOf f (admitOffer o s).1.queue.entries = knocksOf f s.queue.entries := by
  have hnot : (!s.takesOffer o) ≠ true := by simp [h.takes]
  by_cases hfind : (findEntry o.face o.cls s.queue.entries).isSome = true
  · have hadm : admitOffer o s = (s.setEntries (changeEntry o.face o.cls (Entry.merge o) s.queue.entries), .merged) :=
      (if_neg hnot).trans (if_pos hfind)
    have hsome : knocksOf o.face s.queue.entries ≠ [] := by
      rw [Ne, knocksOf_eq_nil, ← h.cls, ← findEntry_isNone]
      exact fun hn => by simp [hn] at hfind
    rw [hadm, knocked, if_neg hsome]
    exact ⟨.inl rfl, Nat.le_succ_of_le (Nat.le_of_eq (changeEntry_length _ _ _ _)), knocksOf_merge h.cls _,
      fun f hf => knocksOf_change (fun _ => rfl) (fun _ => rfl) (.inl fun h => absurd h.symm hf)⟩
  · have hadm : admitOffer o s = (addEntry o s, .added) :=
      (if_neg hnot).trans ((if_neg hfind).trans (if_pos h.room))
    have hnone : knocksOf o.face s.queue.entries = [] := by
      rw [knocksOf_eq_nil, ← h.cls, ← findEntry_isNone]
      simpa using hfind
    have hof : (o.entry s.sec).isOf o.face .knockdown = true := Entry.isOf_iff.mpr ⟨rfl, h.cls⟩
    rw [hadm, knocked, if_pos hnone]
    refine ⟨.inr rfl, by simp [addEntry, State.setEntries], ?_, fun f hf => ?_⟩
    · show knocksOf o.face (s.queue.entries ++ [o.entry s.sec]) = _
      rw [knocksOf_append, hnone, hof]
      rfl
    · show knocksOf f (s.queue.entries ++ [o.entry s.sec]) = _
      have hno : (o.entry s.sec).isOf f .knockdown = false := by
        rw [Bool.eq_false_iff, Ne, Entry.isOf_iff]
        exact fun hg => hf hg.1.symm
      rw [knocksOf_append, hno]
      simp

/-- A preemption leaves the KNOCKDOWN entries. -/
theorem preempt_thinned (o : Offer) (s : State) :
    (preempt o s).queue.entries.length ≤ s.queue.entries.length
      ∧ ∀ f, knocksOf f (preempt o s).queue.entries = knocksOf f s.queue.entries := by
  have hend : (chainEnd .preempted s).queue.entries.length ≤ s.queue.entries.length
      ∧ ∀ f, knocksOf f (chainEnd .preempted s).queue.entries = knocksOf f s.queue.entries := by
    cases hc : s.cannon.chain with
    | none => rw [chainEnd_of_none hc]; exact ⟨Nat.le_refl _, fun _ => rfl⟩
    | some ch =>
      have ho := chainOver_thinned (ch := ch) (c := .preempted) (s := s) rfl
      obtain ⟨hl, hk⟩ := trySelection_thinned (chainOver .preempted ch s)
      rw [chainEnd_eq hc]
      exact ⟨Nat.le_trans hl ho.length, fun f => (hk f).trans (ho.knocks f)⟩
  unfold preempt
  split
  · split
    · exact hend
    · exact ⟨Nat.le_refl _, fun _ => rfl⟩
  · exact ⟨Nat.le_refl _, fun _ => rfl⟩

/-- A KNOCKDOWN offer taken whole (R55 to R59). -/
theorem offerDemand_knocks {o : Offer} {s : State} (h : KnockFits o s) :
    ((offerDemand o s).2 = .merged ∨ (offerDemand o s).2 = .added)
      ∧ (offerDemand o s).1.queue.entries.length ≤ s.queue.entries.length + 1
      ∧ knocksOf o.face (offerDemand o s).1.queue.entries = knocked o s
      ∧ ∀ f, f ≠ o.face → knocksOf f (offerDemand o s).1.queue.entries = knocksOf f s.queue.entries := by
  obtain ⟨hadm, hlen, hface, hother⟩ := admitOffer_knocks h
  obtain ⟨hplen, hpk⟩ := preempt_thinned o (admitOffer o s).1
  obtain ⟨htlen, htk⟩ := trySelection_thinned (preempt o (admitOffer o s).1)
  rw [offerDemand_taken hadm, passOffered_of_class (by rw [h.cls]; exact nofun)]
  exact ⟨hadm, Nat.le_trans htlen (Nat.le_trans hplen hlen), (htk _).trans ((hpk _).trans hface),
    fun f hf => (htk f).trans ((hpk f).trans (hother f hf))⟩

/-! ### The offers of a notice (R128) -/

/-- The offer of a face in answer to a notice of a node. -/
def knockOffer (s : State) (n : Nat) (f : FaceId) : Offer :=
  { face := f, cls := .knockdown, volume := s.cfg.vKnock, origin := .peerNotice n, deadline := none }

theorem knockOffer_congr {s t : State} (h : t.cfg = s.cfg) (n : Nat) (f : FaceId) :
    knockOffer t n f = knockOffer s n f := by
  unfold knockOffer
  rw [h]

theorem offerKnockdowns_of_not {theta n : Nat} {p : State × Nat} {f : FaceId} (h : facesNotice p.1 theta f = false) :
    offerKnockdowns theta n p f = p := by
  unfold facesNotice at h
  unfold offerKnockdowns
  cases hr : p.1.face.records.get f with
  | none => rfl
  | some r =>
    rw [hr] at h
    exact if_neg (by exact Bool.eq_false_iff.mp h)

theorem offerKnockdowns_of_facing {theta n : Nat} {p : State × Nat} {f : FaceId} (h : facesNotice p.1 theta f = true)
    (ha : (offerDemand (knockOffer p.1 n f) p.1).2 = .merged ∨ (offerDemand (knockOffer p.1 n f) p.1).2 = .added) :
    offerKnockdowns theta n p f = ((offerDemand (knockOffer p.1 n f) p.1).1, p.2 + 1) := by
  unfold facesNotice at h
  unfold offerKnockdowns
  cases hr : p.1.face.records.get f with
  | none =>
    rw [hr] at h
    cases h
  | some r =>
    rw [hr] at h
    refine (if_pos (by exact h)).trans ?_
    change (match offerDemand (knockOffer p.1 n f) p.1 with
      | (s1, .merged) => (s1, p.2 + 1)
      | (s1, .added) => (s1, p.2 + 1)
      | (s1, _) => (s1, p.2)) = _
    rcases hd : offerDemand (knockOffer p.1 n f) p.1 with ⟨t, a⟩
    rw [hd] at ha
    rcases ha with ha | ha <;> (simp only at ha; subst ha; rfl)

/-- What a face has to do with a notice, and what its offer asks for, do not change with the offers. -/
theorem facesNotice_congr {s t : State} (h : prewetOnly s t) (theta : Nat) (f : FaceId) :
    facesNotice t theta f = facesNotice s theta f := by
  unfold facesNotice
  rcases h.2 f with ⟨ht, hs⟩ | ⟨r, p, hs, ht⟩ <;> rw [hs, ht]

theorem record_of_facing {s : State} {theta : Nat} {f : FaceId} (h : facesNotice s theta f = true) :
    (s.face.records.get f).isSome = true := by
  unfold facesNotice at h
  cases hr : s.face.records.get f with
  | none => rw [hr] at h; cases h
  | some r => rfl

/-- A state in which the offers of a notice so far have been taken. -/
structure Knocking (s t : State) : Prop where
  now : t.now = s.now
  station : t.station = s.station
  faces : prewetOnly s t

theorem Knocking.refl (s : State) : Knocking s s := ⟨rfl, rfl, prewet_refl s⟩

theorem Knocking.trans {s t u : State} (h : Knocking s t) (k : Knocking t u) : Knocking s u :=
  ⟨k.now.trans h.now, k.station.trans h.station, prewet_trans h.faces k.faces⟩

theorem offerDemand_knocking (o : Offer) (s : State) : Knocking s (offerDemand o s).1 :=
  ⟨offerDemand_only o s .now (by decide), offerDemand_only o s .station (by decide), offerDemand_prewet o s⟩

theorem Knocking.cfg {s t : State} (h : Knocking s t) : t.cfg = s.cfg := by
  unfold State.cfg
  rw [h.station]

theorem knockFits {s : State} {theta n : Nat} {f : FaceId} (hop : s.operational = true) (hv : 0 < s.cfg.vKnock)
    (hf : facesNotice s theta f = true) (hroom : s.queue.entries.length < 8) : KnockFits (knockOffer s n f) s :=
  ⟨rfl, takesOffer_iff.mpr ⟨hop, record_of_facing hf, by show s.cfg.vKnock ≠ 0; omega⟩, hroom⟩

/-- The offers of a notice to a list of faces, where the queue has room: each face that faces the notice gets its
KNOCKDOWN, no other does, and the count is theirs. -/
theorem foldl_knockdowns {s : State} {theta n : Nat} (hop : s.operational = true) (hv : 0 < s.cfg.vKnock)
    (l : List FaceId) (hl : l.Nodup) (k : Nat) (hroom : s.queue.entries.length + l.length ≤ 8) :
    (l.foldl (offerKnockdowns theta n) (s, k)).2 = k + (l.filter (facesNotice s theta)).length
      ∧ ∀ f, knocksOf f (l.foldl (offerKnockdowns theta n) (s, k)).1.queue.entries =
          if f ∈ l ∧ facesNotice s theta f = true then knocked (knockOffer s n f) s else knocksOf f s.queue.entries := by
  induction l generalizing s k with
  | nil => exact ⟨rfl, fun f => by simp⟩
  | cons g l ih =>
    rw [List.length_cons] at hroom
    obtain ⟨hgl, hl⟩ := List.nodup_cons.mp hl
    rw [List.foldl_cons]
    cases hg : facesNotice s theta g with
    | false =>
      rw [offerKnockdowns_of_not (p := (s, k)) hg]
      obtain ⟨hcount, hknocks⟩ := ih hop hv hl k (by omega)
      refine ⟨by rw [hcount, List.filter_cons_of_neg (by simp [hg])], fun f => ?_⟩
      rw [hknocks f]
      refine ite_congr (propext ?_) (fun _ => rfl) fun _ => rfl
      by_cases hfg : f = g
      · subst hfg
        simp [hg]
      · simp [hfg]
    | true =>
      have hfits := knockFits (n := n) hop hv hg (by omega)
      obtain ⟨hans, hlen, hface, hother⟩ := offerDemand_knocks hfits
      have hk := offerDemand_knocking (knockOffer s n g) s
      rw [offerKnockdowns_of_facing (p := (s, k)) hg hans]
      obtain ⟨hcount, hknocks⟩ := ih (s := (offerDemand (knockOffer s n g) s).1)
        (by unfold State.operational; rw [hk.station]; exact hop) (by rw [hk.cfg]; exact hv) hl (k + 1) (by omega)
      have hcongr : facesNotice (offerDemand (knockOffer s n g) s).1 theta = facesNotice s theta :=
        funext (facesNotice_congr hk.faces theta)
      rw [hcongr] at hcount hknocks
      refine ⟨by rw [hcount, List.filter_cons_of_pos hg, List.length_cons]; omega, fun f => ?_⟩
      rw [hknocks f]
      by_cases hfg : f = g
      · subst hfg
        rw [if_neg (by exact fun h => hgl h.1), if_pos ⟨List.mem_cons_self, hg⟩]
        exact hface
      · have hoffer : knockOffer (offerDemand (knockOffer s n g) s).1 n f = knockOffer s n f :=
          knockOffer_congr hk.cfg n f
        have hsame : knocked (knockOffer s n f) (offerDemand (knockOffer s n g) s).1 = knocked (knockOffer s n f) s := by
          unfold knocked State.sec
          rw [hk.now, show (knockOffer s n f).face = f from rfl, hother f hfg]
        rw [hoffer, hsame, hother f hfg]
        exact ite_congr (propext (by simp [hfg])) (fun _ => rfl) fun _ => rfl

/-- The KNOCKDOWN entries of a face after the offers, as `knockdownsOffered` says them. -/
theorem knockdownsOffered_of {s t : State} {n : Nat} {f : FaceId} {gets : Bool} (hq : queueInv s.queue)
    (h : knocksOf f t.queue.entries =
      if gets = true then knocked (knockOffer s n f) s else knocksOf f s.queue.entries) :
    knockdownsOffered s t f n gets := by
  have hinv := ((queueInv_iff _).mp hq).1
  refine ⟨fun hg => ?_, fun hg ⟨e, he, hf, hc⟩ => ?_⟩
  · rw [if_pos hg] at h
    unfold knocked at h
    by_cases hnil : knocksOf f s.queue.entries = []
    · have hnone := knocksOf_eq_nil.mp hnil
      rw [if_pos (by exact hnil)] at h
      obtain ⟨e, he, hf, hc, hstill⟩ := mem_knocksOf.mp (h ▸ List.mem_cons_self)
      refine ⟨e, he, ⟨hf, hc⟩, fun _ => ?_, fun x hx hk => absurd hk (hnone x hx)⟩
      exact ⟨congrArg Entry.origin hstill, congrArg Entry.requested hstill, congrArg Entry.delivered hstill,
        congrArg Entry.enqueue hstill⟩
    · rw [if_neg (by exact hnil)] at h
      obtain ⟨y, hy⟩ := List.exists_mem_of_ne_nil _ hnil
      obtain ⟨x, hx, hxf, hxc, rfl⟩ := mem_knocksOf.mp hy
      obtain ⟨e, he, hf, hc, hstill⟩ := mem_knocksOf.mp (h ▸ List.mem_map_of_mem hy)
      refine ⟨e, he, ⟨hf, hc⟩, fun hnone => absurd ⟨hxf, hxc⟩ (hnone x hx), fun z hz ⟨hzf, hzc⟩ => ?_⟩
      rw [entry_unique hinv hz hx (hzf.trans hxf.symm) (hzc.trans hxc.symm)]
      have ho : e.still.origin = _ := congrArg Entry.origin hstill
      have hr : e.still.requested = _ := congrArg Entry.requested hstill
      have hd : e.still.delivered = _ := congrArg Entry.delivered hstill
      exact ⟨ho, hr, hd⟩
  · rw [if_neg (by simp [hg])] at h
    obtain ⟨x, hx, hxf, hxc, -⟩ := mem_knocksOf.mp (h ▸ mem_knocksOf.mpr ⟨e, he, hf, hc, rfl⟩)
    exact ⟨x, hx, hxf, hxc⟩

/-! ### The chain that a notice preempts (R59) -/

/-- What `endedBy` and the next offer look at is the same in two states. -/
structure Standing (s t : State) : Prop where
  now : t.now = s.now
  station : t.station = s.station
  lockout : t.lockout = s.lockout
  cannon : t.cannon = s.cannon
  faces : prewetOnly s t
  rotation : t.queue.rotation = s.queue.rotation
  holds : t.queue.holds = s.queue.holds
  request : t.queue.request = s.queue.request

theorem Standing.refl (s : State) : Standing s s := ⟨rfl, rfl, rfl, rfl, prewet_refl s, rfl, rfl, rfl⟩

theorem Standing.trans {s t u : State} (h : Standing s t) (k : Standing t u) : Standing s u :=
  ⟨k.now.trans h.now, k.station.trans h.station, k.lockout.trans h.lockout, k.cannon.trans h.cannon,
    prewet_trans h.faces k.faces, k.rotation.trans h.rotation, k.holds.trans h.holds, k.request.trans h.request⟩

theorem admitOffer_standing (o : Offer) (s : State) : Standing s (admitOffer o s).1 := by
  have honly := admitOffer_only o s
  obtain ⟨hrot, hhold, hreq⟩ := admitOffer_queue o s
  exact ⟨honly .now (by decide), honly .station (by decide), honly .lockout (by decide), honly .cannon (by decide),
    admitOffer_prewet o s, hrot, hhold, hreq⟩

theorem Standing.tries {s t : State} (h : Standing s t) : Tries t ↔ Tries s :=
  ⟨fun ht => ⟨h.request ▸ ht.request, h.station ▸ ht.run, h.cannon ▸ ht.able, h.lockout ▸ ht.locks⟩,
    fun ht => ⟨by rw [h.request]; exact ht.request, by rw [h.station]; exact ht.run, by rw [h.cannon]; exact ht.able,
      by rw [h.lockout]; exact ht.locks⟩⟩

/-- After a preemption nothing preempts or is selected any more: only KNOCKDOWN entries run, and no selection is tried. -/
structure Spent (s : State) : Prop where
  running : ∀ e ∈ s.queue.entries, e.running = true → e.cls = .knockdown
  closed : ¬ Tries s

theorem Spent.offer {o : Offer} {s : State} (h : Spent s) (ho : o.cls = .knockdown) :
    Standing s (offerDemand o s).1 ∧ Spent (offerDemand o s).1 := by
  have hst := admitOffer_standing o s
  have hrun : ∀ e ∈ (admitOffer o s).1.queue.entries, e.running = true → e.cls = .knockdown := fun x hx hr => by
    rcases mem_admitOffer hx with hn | ⟨e, he, -, hc, hre⟩
    · rw [hn] at hr
      cases hr
    · rw [← hc]
      exact h.running e he (hre.trans hr)
  have hclosed : ¬ Tries (admitOffer o s).1 := fun ht => h.closed (hst.tries.mp ht)
  rcases offerDemand_cases o s with ⟨-, hd⟩ | ⟨-, hd⟩ <;> rw [hd]
  · rw [passOffered_of_class (by rw [ho]; exact nofun), preempt_of_not (.inr fun e he hr => .inr (hrun e he hr)),
      trySelection_of_not hclosed]
    exact ⟨hst, hrun, hclosed⟩
  · exact ⟨hst, hrun, hclosed⟩

theorem offerKnockdowns_cases (theta n : Nat) (p : State × Nat) (f : FaceId) :
    (offerKnockdowns theta n p f).1 = p.1
      ∨ (offerKnockdowns theta n p f).1 = (offerDemand (knockOffer p.1 n f) p.1).1 := by
  unfold offerKnockdowns
  split
  · split
    · right
      change (match offerDemand (knockOffer p.1 n f) p.1 with
        | (s1, .merged) => (s1, p.2 + 1)
        | (s1, .added) => (s1, p.2 + 1)
        | (s1, _) => (s1, p.2) : State × Nat).1 = _
      rcases offerDemand (knockOffer p.1 n f) p.1 with ⟨t, a⟩
      cases a <;> rfl
    · exact .inl rfl
  · exact .inl rfl

theorem foldl_spent {theta n : Nat} (l : List FaceId) {p : State × Nat} (h : Spent p.1) :
    Standing p.1 (l.foldl (offerKnockdowns theta n) p).1 := by
  induction l generalizing p with
  | nil => exact .refl _
  | cons f l ih =>
    rw [List.foldl_cons]
    rcases offerKnockdowns_cases theta n p f with hp | hp
    · have := ih (p := offerKnockdowns theta n p f) (by rw [hp]; exact h)
      rwa [hp] at this
    · obtain ⟨hst, hspent⟩ := h.offer (o := knockOffer p.1 n f) rfl
      have := ih (p := offerKnockdowns theta n p f) (by rw [hp]; exact hspent)
      rw [hp] at this
      exact hst.trans this

theorem chainOver_holds {ch : Chain} {c : Cause} {s : State} (h : c.counts = false) :
    (chainOver c ch s).queue.holds = s.queue.holds := by
  have hend (s : State) : (endEntry ch c s).queue.holds = s.queue.holds := by
    unfold endEntry
    split
    · simp only [h, Bool.false_eq_true, if_false]
      unfold dropReached
      split
      · split
        · exact removeEntry_holds _ _ _
        · rfl
      · rfl
    · rfl
  exact (queueChainEnd_holds ch c _).trans ((hend _).trans
    ((afterChain_keeps c ch _).holds.trans (congrArg SprayQueue.holds (chainGone_queue c ch s))))

theorem chainOver_kept (c : Cause) (ch : Chain) (s : State) (h : queueInv s.queue) : queueInv (chainOver c ch s).queue := by
  have hgone : queueInv (chainGone c ch s).queue := by
    rw [chainGone_queue]
    exact h
  exact (queueChainEnd_kept ch c _).queue ((afterChain_kept c ch _).queue hgone)

/-- A KNOCKDOWN entry that waits for a face that is not held is a candidate under every gating, so the selection takes a
KNOCKDOWN (R68, R97). -/
theorem choose_knockdown {s : State} {e : Entry} (hq : queueInv s.queue) (he : e ∈ s.queue.entries)
    (hc : e.cls = .knockdown) (hr : e.running = false) (hh : (s.queue.holds.get e.face).isRunning = false) :
    ∃ x, s.choose = some x ∧ x.cls = .knockdown := by
  have hallows : s.gate.allows e.cls = true := by
    rw [hc]
    cases s.gate <;> rfl
  have hcand : e ∈ s.queue.entries.filter s.candidate := List.mem_filter.mpr ⟨he, candidate_iff.mpr ⟨hr, hallows, hh⟩⟩
  cases hch : s.choose with
  | none =>
    rw [choose_none hq hch] at hcand
    cases hcand
  | some x =>
    refine ⟨x, rfl, DemandClass.rank_inj (Nat.le_antisymm (DemandClass.rank_le _) ?_)⟩
    have hle := le_highestRank hcand
    rw [(mem_bestCandidates.mp (choose_some hch).1).2.2, show DemandClass.knockdown.rank = e.cls.rank by rw [hc]]
    exact hle

/-- A preempted chain of a lower class leaves no way to another preemption: the KNOCKDOWN that preempted it is selected, or
nothing can be. -/
theorem preempted_spent {ch : Chain} {s : State} {e : Entry} (hq : queueInv s.queue) (hch : s.cannon.chain = some ch)
    (hall : ∀ x ∈ s.queue.entries, x.running = true → x.face = ch.face ∧ x.cls = ch.cls) (he : e ∈ s.queue.entries)
    (hc : e.cls = .knockdown) (hh : (s.queue.holds.get e.face).isRunning = false) : Spent (chainEnd .preempted s) := by
  let u := chainOver .preempted ch s
  have hthin : Thinned s.queue.entries u.queue.entries := chainOver_thinned rfl
  have hstill : ∀ x ∈ u.queue.entries, x.running = false := fun x hx => by
    refine Bool.eq_false_iff.2 fun hr => ?_
    obtain ⟨y, hy, hyf, hyc, hyr⟩ := hthin.running x hx hr
    obtain ⟨hf, hcl⟩ := hall y hy hyr
    rw [chainOver_still hx (hyf.symm.trans hf) (hyc.symm.trans hcl)] at hr
    cases hr
  rw [chainEnd_eq hch]
  by_cases ht : Tries u
  · obtain ⟨x, hx, hxf, hxc, -⟩ := mem_knocksOf.mp (hthin.knocks e.face ▸ mem_knocksOf.mpr ⟨e, he, rfl, hc, rfl⟩)
    have hhold : (u.queue.holds.get x.face).isRunning = false := by
      rw [chainOver_holds (ch := ch) (c := .preempted) (s := s) rfl, hxf]
      exact hh
    obtain ⟨y, hy, hyc⟩ := choose_knockdown (chainOver_kept _ ch s hq) hx hxc (hstill x hx) hhold
    rw [trySelection_of_choose ht hy]
    refine ⟨fun z hz hr => ?_, fun ht' => ?_⟩
    · rw [startChain_queue] at hz
      rcases mem_changeEntry.mp hz with ⟨hz, -⟩ | ⟨w, -, -, hwc, rfl⟩
      · rw [hstill z hz] at hr
        cases hr
      · exact hwc.trans hyc
    · have hreq := ht'.request
      rw [startChain_queue] at hreq
      cases hreq
  · rw [trySelection_of_not ht]
    refine ⟨fun z hz hr => ?_, ht⟩
    rw [hstill z hz] at hr
    cases hr

/-- The offers of a notice preempt a running chain of a lower class once, where a face that is not the chain's and not
held faces the notice (R59). -/
theorem foldl_preempts {ch : Chain} {theta n : Nat} (hcls : ch.cls ≠ .knockdown) (l : List FaceId) {s : State} (k : Nat)
    (hop : s.operational = true) (hv : 0 < s.cfg.vKnock) (hq : queueInv s.queue)
    (hroom : s.queue.entries.length + l.length ≤ 8) (hch : s.cannon.chain = some ch)
    (hrun : ∃ e ∈ s.queue.entries, e.running = true)
    (hall : ∀ e ∈ s.queue.entries, e.running = true → e.face = ch.face ∧ e.cls = ch.cls)
    (hg : ∃ g ∈ l, g ≠ ch.face ∧ facesNotice s theta g = true ∧ (s.queue.holds.get g).isRunning = false) :
    endedBy .preempted ch s (l.foldl (offerKnockdowns theta n) (s, k)).1 := by
  induction l generalizing s k with
  | nil =>
    obtain ⟨g, hg, -⟩ := hg
    cases hg
  | cons f l ih =>
    rw [List.length_cons] at hroom
    obtain ⟨g, hgl, hgf, hgn, hgh⟩ := hg
    rw [List.foldl_cons]
    cases hf : facesNotice s theta f with
    | false =>
      rw [offerKnockdowns_of_not (p := (s, k)) hf]
      refine ih k hop hv hq (by omega) hch hrun hall ⟨g, ?_, hgf, hgn, hgh⟩
      rcases List.mem_cons.mp hgl with rfl | hgl
      · rw [hf] at hgn
        cases hgn
      · exact hgl
    | true =>
      let o := knockOffer s n f
      let a := (admitOffer o s).1
      have hfits : KnockFits o s := knockFits hop hv hf (by omega)
      obtain ⟨hadm, hlen, -⟩ := admitOffer_knocks hfits
      have hlena : a.queue.entries.length ≤ s.queue.entries.length + 1 := hlen
      have hst : Standing s a := admitOffer_standing o s
      have hqa : queueInv a.queue := (admitOffer_kept o s).queue hq
      have hcha : a.cannon.chain = some ch := by rw [hst.cannon, hch]
      have hruna : ∃ e ∈ a.queue.entries, e.running = true := by
        obtain ⟨e, he, hr⟩ := hrun
        obtain ⟨x, hx, -, -, hxr⟩ := admitOffer_running (o := o) ((queueInv_iff _).mp hq).1 he hr
        exact ⟨x, hx, hxr⟩
      have halla : ∀ e ∈ a.queue.entries, e.running = true → e.face = ch.face ∧ e.cls = ch.cls := fun x hx hr => by
        rcases mem_admitOffer hx with hn | ⟨e, he, hef, hec, her⟩
        · rw [hn] at hr
          cases hr
        · rw [← hef, ← hec]
          exact hall e he (her.trans hr)
      have hpass : passOffered o a = a := passOffered_of_class (o := o) nofun a
      have hdemand : offerDemand o s = (trySelection (preempt o a), (admitOffer o s).2) := by
        rw [offerDemand_taken hadm, hpass]
      rw [offerKnockdowns_of_facing (p := (s, k)) hf (by rw [show knockOffer (s, k).1 n f = o from rfl, hdemand]; exact hadm)]
      show endedBy .preempted ch s (l.foldl (offerKnockdowns theta n) ((offerDemand o s).1, k + 1)).1
      rw [hdemand]
      by_cases hp : f ≠ ch.face ∧ (s.queue.holds.get f).isRunning = false
      · obtain ⟨hff, hfh⟩ := hp
        have hpre : preempt o a = chainEnd .preempted a := by
          refine preempt_of_running rfl (by rw [hst.holds]; exact hfh) hruna fun e he hr => ?_
          obtain ⟨hef, hec⟩ := halla e he hr
          rw [hef, hec]
          exact ⟨hff.symm, hcls⟩
        obtain ⟨e, he, hef, hec⟩ := admitOffer_entry hadm
        have hspent : Spent (chainEnd .preempted a) :=
          preempted_spent hqa hcha halla he hec (by rw [hef, hst.holds]; exact hfh)
        rw [hpre, trySelection_of_not hspent.closed]
        have hlast := foldl_spent (theta := theta) (n := n) l (p := (chainEnd .preempted a, k + 1)) hspent
        exact endedBy_congr (chainEnd_endedBy hcha) hst.now.symm (by rw [hst.cannon]) (by rw [hst.cannon])
          hst.rotation.symm (by rw [hlast.cannon]) (by rw [hlast.cannon]) hlast.rotation
      · have hpre : preempt o a = a := by
          refine preempt_of_not ?_
          by_cases hff : f = ch.face
          · exact .inr fun e he hr => .inl ((halla e he hr).1.trans hff.symm)
          · exact .inl fun h => hp ⟨hff, hst.holds ▸ h.2⟩
        rw [hpre, trySelection_of_chain hcha]
        have hend := ih (s := a) (k + 1) (by unfold State.operational; rw [hst.station]; exact hop)
          (by unfold State.cfg; rw [hst.station]; exact hv) hqa (by omega) hcha hruna halla ⟨g, ?_, hgf,
            (facesNotice_congr hst.faces theta g).trans hgn, by rw [hst.holds]; exact hgh⟩
        · exact endedBy_congr hend hst.now.symm (by rw [hst.cannon]) (by rw [hst.cannon]) hst.rotation.symm rfl rfl rfl
        · rcases List.mem_cons.mp hgl with rfl | hgl
          · exact absurd ⟨hgf, hgh⟩ hp
          · exact hgl

end Sys2Proof.Machine
end


section
/-! PROOFS. A notice of another station: the mark, the answer and the offers (R126 to R130; O29). -/

namespace Sys2Proof.Machine

/-! ### The cannon's FAULT under a recompute -/

theorem startChain_notFault {e : Entry} {s : State} (h : s.cannon.state ≠ .fault) :
    (startChain e s).cannon.state ≠ .fault := by
  rcases startChain_state e s with hs | hs | hs | hs <;> rw [hs]
  · exact h
  all_goals exact nofun

theorem trySelection_notFault {s : State} (h : s.cannon.state ≠ .fault) : (trySelection s).cannon.state ≠ .fault := by
  rcases trySelection_cases s with hs | ⟨e, -, -, hs⟩ <;> rw [hs]
  · exact h
  · exact startChain_notFault h

/-- A claim that yields does not bring the cannon into FAULT (R84). -/
theorem chainEnd_yielded_notFault {s : State} (h : s.cannon.state ≠ .fault) :
    (chainEnd .yielded s).cannon.state ≠ .fault := by
  cases hch : s.cannon.chain with
  | none => rwa [chainEnd_of_none hch]
  | some ch =>
    rw [chainEnd_eq hch]
    refine trySelection_notFault ?_
    rw [chainOver_cannon]
    have hgone : (chainGone .yielded ch s).cannon.state ≠ .fault := by
      rw [chainGone_state]
      exact h
    unfold afterChain
    simp only
    split
    · exact hgone
    · exact hgone
    · split
      · exact nofun
      · exact nofun

theorem enterSpraying_notFault {t : Nat} {s : State} (h : s.cannon.state ≠ .fault) :
    (enterSpraying t s).cannon.state ≠ .fault := by
  unfold enterSpraying
  split
  · exact nofun
  · exact h

theorem recompute_notFault {s : State} (h : s.cannon.state ≠ .fault) : (recompute s).cannon.state ≠ .fault := by
  have hd : ((takeDecision s.decision s).cannon.state ≠ .fault) := by
    rw [show (takeDecision s.decision s).cannon = s.cannon from takeDecision_only _ s .cannon (by decide)]
    exact h
  unfold recompute
  split
  · exact h
  · exact h
  · split
    · exact h
    · unfold settleDecision
      split
      · exact enterSpraying_notFault hd
      · exact hd
  · split
    · unfold changeOnTime
      split
      · rw [State.onCannon, State.setCannon_cannon, applyOnTime_state]
        exact hd
      · exact hd
    · exact chainEnd_yielded_notFault h

/-! ### The noted frame -/

theorem refreshedPeer_acted (sec n : Nat) (k : MemberKind) (pos : Option (Nat × Nat)) (ps : List Peer) :
    (refreshedPeer sec n k pos ps).acted = (findPeer n ps).bind fun p => (p.refresh sec k).acted := by
  unfold refreshedPeer
  cases findPeer n ps <;> cases pos <;> rfl

/-! ### The answer (R128, R129) -/

section Answer

variable {theta n : Nat} {s : State}

theorem formAnswer_of_locked (h : s.lockout.locks ≠ []) : formAnswer theta n s = (s, .locked, 0) :=
  if_pos ((locked_iff s).mpr h)

theorem not_locked (h : s.lockout.locks = []) : ¬ s.locked = true := fun hl => (locked_iff s).mp hl h

theorem formAnswer_of_fault (hl : s.lockout.locks = []) (hf : s.cannon.state = .fault) :
    formAnswer theta n s = (s, .fault, 0) := (if_neg (not_locked hl)).trans (if_pos hf)

theorem formAnswer_of_cutOut (hl : s.lockout.locks = []) (hf : s.cannon.state ≠ .fault) (hc : s.cutOut = true) :
    formAnswer theta n s = (s, .windCut, 0) :=
  (if_neg (not_locked hl)).trans ((if_neg hf).trans (if_pos hc))

theorem formAnswer_of_queue (hl : s.lockout.locks = []) (hf : s.cannon.state ≠ .fault) (hc : s.cutOut = false) :
    formAnswer theta n s =
      ((allFaces.foldl (offerKnockdowns theta n) (s, 0)).1,
        if 0 < (allFaces.foldl (offerKnockdowns theta n) (s, 0)).2 then .queued else .noFace,
        (allFaces.foldl (offerKnockdowns theta n) (s, 0)).2) :=
  (if_neg (not_locked hl)).trans ((if_neg hf).trans (if_neg (by simp [hc])))

end Answer

/-- Each face counts once at most. -/
theorem foldl_knockdowns_count (theta n : Nat) (l : List FaceId) (p : State × Nat) :
    (l.foldl (offerKnockdowns theta n) p).2 ≤ p.2 + l.length := by
  have hone (p : State × Nat) (f : FaceId) : (offerKnockdowns theta n p f).2 ≤ p.2 + 1 := by
    unfold offerKnockdowns
    split
    · split
      · split <;> omega
      · exact Nat.le_succ _
    · exact Nat.le_succ _
  induction l generalizing p with
  | nil => exact Nat.le_refl _
  | cons f l ih =>
    have h1 := ih (offerKnockdowns theta n p f)
    have h2 := hone p f
    rw [List.foldl_cons, List.length_cons]
    omega

/-- A new answer is queued, or held (R129). -/
theorem sendAnswer_stands (a : PendingAnswer) (s : State) : answerStands a (sendAnswer a s) := by
  have hd := dust_of_lineOffer a.content s
  have hheld (h : (lineOffer a.content s).2 = false) : a ∈ (sendAnswer a s).dust.answers := by
    show a ∈ (if (lineOffer a.content s).2 then _ else insertAnswer a _ : List PendingAnswer)
    rw [h]
    exact mem_insertAnswer_self _ _
  by_cases hrun : s.station.mode = .run
  · rcases offer_placed (placed_cover a.target a.serial a.answer a.count a.formed) s.sec s.line with
      ⟨l, hl, hp⟩ | ⟨-, hl⟩
    · refine .inr ⟨TxFrame.fresh s.sec a.content, ?_, rfl⟩
      show _ ∈ (lineOffer a.content s).1.line.urgents
      rw [lineOffer_of_run hrun, PendingAnswer.content, hl]
      show _ ∈ l.urgents
      rw [hp.urgents]
      exact List.mem_append_right _ List.mem_cons_self
    · exact .inl (hheld (by rw [lineOffer_of_run hrun, PendingAnswer.content, hl]))
  · exact .inl (hheld (by rw [lineOffer_of_idle hrun]))

/-- Outside RUN a new answer is held. -/
theorem sendAnswer_held {a : PendingAnswer} {s : State} (h : s.station.mode ≠ .run) :
    a ∈ (sendAnswer a s).dust.answers := by
  show a ∈ (if (lineOffer a.content s).2 then _ else insertAnswer a _ : List PendingAnswer)
  rw [lineOffer_of_idle h]
  exact mem_insertAnswer_self _ _

theorem answerStands_close {a : PendingAnswer} {s0 s : State} (h : answerStands a s) :
    a ∈ (closeArrival s0 s).dust.answers ∨ ∃ f ∈ (closeArrival s0 s).line.queue, f.content = a.content := by
  rcases h with h | ⟨f, hf, hc⟩
  · exact .inl (by rw [closeArrival_dust]; exact h)
  · have hurgents : (closeArrival s0 s).line.urgents = s.line.urgents := (closeArrival_line s0 s).1
    rw [← hurgents] at hf
    exact .inr ⟨f, (List.mem_filter.1 hf).1, hc⟩

/-- What a notice is answered from: the station, its wind and its locks are as before the frame, and the cannon's FAULT
too where the station's own claim allows it. -/
structure NoticeFrom (s v : State) : Prop where
  now : v.now = s.now
  station : v.station = s.station
  wind : v.wind = s.wind
  lockout : v.lockout = s.lockout
  dust : v.dust = s.dust
  fault : cannonInv s → s.cannon.state = .fault → v.cannon.state = .fault
  clear : s.cannon.state ≠ .fault → v.cannon.state ≠ .fault

theorem heard_notice (k : FrameKind) (n : Nat) (pos : Option (Nat × Nat)) (part : Peer → Peer) (s : State) :
    NoticeFrom s (heard k n pos part (frameEnds s)) := by
  have honly := heard_only k n pos part s
  have hent := entered_only k n pos part s
  have hcannon : (entered k n pos part s).cannon = s.cannon := hent .cannon (by decide)
  have hclaim : (entered k n pos part s).claim = s.claim := hent .claim (by decide)
  refine ⟨honly .now (by decide), honly .station (by decide), honly .wind (by decide), honly .lockout (by decide),
    honly .dust (by decide), fun hinv hf => ?_, fun hf => ?_⟩
  · obtain ⟨-, -, -, hasked, -⟩ := hinv
    have hnone : (entered k n pos part s).claim.own.state = .none := by
      rw [hclaim]
      refine Classical.byContradiction fun h => ?_
      rcases hasked h with h | h <;> rw [hf] at h <;> cases h
    rcases heard_cases k n pos part s with h | h <;> rw [h]
    · rw [hcannon, hf]
    · rw [recompute_of_asked (.inl hnone), hcannon, hf]
  · rcases heard_cases k n pos part s with h | h <;> rw [h]
    · rwa [hcannon]
    · exact recompute_notFault (by rwa [hcannon])

theorem mem_allFaces (f : FaceId) : f ∈ allFaces := by
  revert f
  decide

theorem facesNotice_face {s t : State} (h : t.face = s.face) (theta : Nat) : facesNotice t theta = facesNotice s theta := by
  unfold facesNotice
  rw [h]

section Offers

variable {theta n : Nat} {s v : State} (hv : onlyChanges [.peers, .line] s v) (hop : s.operational = true)
  (hknock : 0 < s.cfg.vKnock) (hroom : s.queue.entries.length ≤ 4)
include hv hop hknock hroom

/-- The offers of a notice, from a state that differs from another in the Peer Map and on the line alone. -/
theorem notice_knockdowns :
    (allFaces.foldl (offerKnockdowns theta n) (v, 0)).2 = (allFaces.filter (facesNotice s theta)).length
      ∧ ∀ f, knocksOf f (allFaces.foldl (offerKnockdowns theta n) (v, 0)).1.queue.entries =
          if facesNotice s theta f = true then knocked (knockOffer s n f) s else knocksOf f s.queue.entries := by
  have hstation : v.station = s.station := hv .station (by decide)
  have hqueue : v.queue = s.queue := hv .queue (by decide)
  have hcfg : v.cfg = s.cfg := by simp only [State.cfg, hstation]
  obtain ⟨hcount, hknocks⟩ := foldl_knockdowns (s := v) (theta := theta) (n := n)
    (by simpa only [State.operational, hstation] using hop) (by rw [hcfg]; exact hknock) allFaces (by decide) 0
    (by rw [hqueue]; exact Nat.add_le_add hroom (Nat.le_refl 4))
  rw [facesNotice_face (hv .face (by decide))] at hcount hknocks
  refine ⟨hcount.trans (Nat.zero_add _), fun f => (hknocks f).trans ?_⟩
  have hsame : knocked (knockOffer s n f) v = knocked (knockOffer s n f) s := by
    unfold knocked State.sec
    rw [hqueue, show v.now = s.now from hv .now (by decide)]
  rw [knockOffer_congr hcfg, hsame, hqueue]
  exact ite_congr (propext (by simp [mem_allFaces])) (fun _ => rfl) fun _ => rfl

theorem notice_preempts {ch : Chain} (hcls : ch.cls ≠ .knockdown) (hq : queueInv s.queue)
    (hch : s.cannon.chain = some ch) (hrun : ∃ e ∈ s.queue.entries, e.running = true)
    (hall : ∀ e ∈ s.queue.entries, e.running = true → e.face = ch.face ∧ e.cls = ch.cls)
    (hg : ∃ g, g ≠ ch.face ∧ facesNotice s theta g = true ∧ (s.queue.holds.get g).isRunning = false) :
    endedBy .preempted ch s (allFaces.foldl (offerKnockdowns theta n) (v, 0)).1 := by
  have hstation : v.station = s.station := hv .station (by decide)
  have hqueue : v.queue = s.queue := hv .queue (by decide)
  have hcannon : v.cannon = s.cannon := hv .cannon (by decide)
  obtain ⟨g, hgf, hgn, hgh⟩ := hg
  have hend := foldl_preempts (s := v) (theta := theta) (n := n) hcls allFaces 0
    (by simpa only [State.operational, hstation] using hop) (by simpa only [State.cfg, hstation] using hknock)
    (by rw [hqueue]; exact hq) (by rw [hqueue]; exact Nat.add_le_add hroom (Nat.le_refl 4)) (by rw [hcannon]; exact hch)
    (by rw [hqueue]; exact hrun) (by rw [hqueue]; exact hall)
    ⟨g, mem_allFaces g, hgf, by rw [facesNotice_face (hv .face (by decide))]; exact hgn, by rw [hqueue]; exact hgh⟩
  exact endedBy_congr hend (hv .now (by decide)).symm (by rw [hcannon]) (by rw [hcannon]) (by rw [hqueue]) rfl rfl rfl

end Offers

/-- Settles O29. -/
theorem noticeIsAnswered : Obligations.NoticeIsAnswered := by
  unfold Obligations.NoticeIsAnswered
  intro n p s hm hw hn
  let u := heard .plume n (some (payloadPosition p)) id (frameEnds s)
  have hu : NoticeFrom s u := heard_notice .plume n _ id s
  have hnoted := heard_noted (k := .plume) (n := n) (pos := some (payloadPosition p)) (part := id) (fun _ => rfl) s
  have hacted : (findPeer n u.peers.entries).bind Peer.acted =
      (findPeer n s.peers.entries).bind fun q => (q.refresh s.sec .station).acted := by
    rw [hnoted.entry]
    exact refreshedPeer_acted s.sec n .station _ s.peers.entries
  have heff : handKind .plume n p (frameEnds s) = takePlume n (decodePlume p) u := rfl
  refine ⟨closeArrival s (takePlume n (decodePlume p) u), ?_, ⟨fun hno => ?_, fun hacts => ?_⟩, close_only ?_⟩
  · rw [← heff]
    exact exec_command hm hw hn
  · have hsame : takePlume n (decodePlume p) u = u := by
      refine if_neg fun h => hno ?_
      rwa [hu.station, hacted, State.cfg, hu.station] at h
    rw [hsame, closeArrival_dust, closeArrival_peers]
    exact ⟨hu.dust, hacted⟩
  · obtain ⟨hmode, htheta, hserial, hup⟩ := hacts
    let m := decodePlume p
    let s1 := u.setPeerEntries (changePeer n (fun q => { q with acted := some m.serial }) u.peers.entries)
    let r := formAnswer m.theta n s1
    let a : PendingAnswer := { target := n, serial := m.serial, answer := r.2.1, count := r.2.2, formed := s.sec }
    have hplume : takePlume n m u = sendAnswer a r.1 := by
      have hsec : u.sec = s.sec := congrArg (· / 1000) hu.now
      unfold takePlume
      rw [if_pos (by rw [hu.station, hacted, State.cfg, hu.station]; exact ⟨hmode, htheta, hserial, hup⟩), hsec]
    have hop : s.operational = true := by
      unfold State.operational
      rcases hmode with h | h <;> rw [h] <;> rfl
    have hlock : s1.lockout = s.lockout := hu.lockout
    have hcut : s1.cutOut = s.cutOut := by
      unfold State.cutOut State.cfg
      rw [show s1.wind = s.wind from hu.wind, show s1.station = s.station from hu.station]
    have honly := formAnswer_only m.theta n s1
    have hnotedr := (hnoted.change (g := fun q => { q with acted := some m.serial }) fun _ => rfl).after
      (honly .peers (by decide)) (formAnswer_reports m.theta n s1).reception
    have hnotedt := (hnotedr.after (sendAnswer_only a r.1 .peers (by decide)) (sendAnswer_reports a r.1).reception).close s
    have hr (hl : s.lockout.locks = []) (hf : s.cannon.state ≠ .fault) (hc : s.cutOut = false) :
        r = ((allFaces.foldl (offerKnockdowns m.theta n) (s1, 0)).1,
          if 0 < (allFaces.foldl (offerKnockdowns m.theta n) (s1, 0)).2 then .queued else .noFace,
          (allFaces.foldl (offerKnockdowns m.theta n) (s1, 0)).2) :=
      formAnswer_of_queue (by rw [hlock, hl]) (hu.clear hf) (by rw [hcut, hc])
    have hfree (h : (findPeer n s.peers.entries).bind Peer.claim = none) : onlyChanges [.peers, .line] s s1 := by
      have hent : u = entered .plume n (some (payloadPosition p)) id s := heard_of_free h
      refine only_trans ?_ (only_mono (setPeerEntries_only u _) (by decide))
      rw [hent]
      exact entered_only _ _ _ _ s
    rw [hplume]
    refine ⟨?_, fun hl hf hc hq hroom hv hno => ?_, r.2.1, r.2.2, ?_, fun hlisten => ?_, fun hl => ?_, fun hinv hl hf => ?_,
      fun hl hf hc => ?_, fun hl hf hc => ?_⟩
    · rw [hnotedt.entry]
      rfl
    · have hs1 := hfree hno
      have hr1 : r.1 = (allFaces.foldl (offerKnockdowns m.theta n) (s1, 0)).1 := congrArg Prod.fst (hr hl hf hc)
      have hsend := sendAnswer_only a r.1
      have hqueue : (closeArrival s (sendAnswer a r.1)).queue =
          (allFaces.foldl (offerKnockdowns m.theta n) (s1, 0)).1.queue := by
        rw [closeArrival_queue, ← hr1]
        exact hsend .queue (by decide)
      have hcannon : (closeArrival s (sendAnswer a r.1)).cannon =
          (allFaces.foldl (offerKnockdowns m.theta n) (s1, 0)).1.cannon := by
        rw [closeArrival_cannon, ← hr1]
        exact hsend .cannon (by decide)
      refine ⟨fun f => knockdownsOffered_of hq ?_, fun ch hch _ hcls hrun hall hg => ?_⟩
      · rw [hqueue]
        exact (notice_knockdowns hs1 hop hv hroom).2 f
      · exact endedBy_congr (notice_preempts hs1 hop hv hroom hcls hq hch hrun hall hg) rfl rfl rfl rfl
          (by rw [hcannon]) (by rw [hcannon]) (by rw [hqueue])
    · exact answerStands_close (sendAnswer_stands a r.1)
    · rw [closeArrival_dust]
      refine sendAnswer_held ?_
      rw [show r.1.station = s.station from (honly .station (by decide)).trans hu.station, hlisten]
      exact nofun
    · rw [show r = _ from formAnswer_of_locked (by rw [hlock]; exact hl)]
    · rw [show r = _ from formAnswer_of_fault (by rw [hlock, hl]) (hu.fault hinv hf)]
    · rw [show r = _ from formAnswer_of_cutOut (by rw [hlock, hl]) (hu.clear hf) (by rw [hcut, hc])]
    · rw [hr hl hf hc]
      refine ⟨foldl_knockdowns_count m.theta n allFaces (s1, 0), fun h => if_pos h, fun h => if_neg (by rw [h]; omega),
        fun hq hroom hv hno => (notice_knockdowns (hfree hno) hop hv hroom).1⟩
  · exact only_mono (only_trans (only_mono (onLine_only s _) (by decide)) (handPlume_only n p _)) (by decide)

end Sys2Proof.Machine
end


section
/-! PROOFS. The entries into LISTEN and their timers, POWER_ON (O3) and the panel RESTART (O47). -/

namespace Sys2Proof.Machine

/-! ### What every LISTEN entry starts -/

theorem startListen_face (s : State) :
    (startListen s).face = { s.face with timer := .running (s.now + 60000) } :=
  (startStandby_only _ .face (by decide)).trans (startSweep_only _ .face (by decide))

theorem startListen_line (s : State) :
    (startListen s).line = { s.line with isolation := .running (s.now + 300000), duplicate := false } :=
  (startStandby_only _ .line (by decide)).trans (startSweep_only _ .line (by decide))

/-- A LISTEN entry before the sweep and the standby timer. -/
def State.listenTimed (s : State) : State :=
  (((s.onStation fun t =>
    { t with mode := .listen, listen := .startAt s.now 60000, window := .stopped }).setWind
      { s.wind with acc := Accumulator.empty, minute := .startAt s.now 60000 }).setFace
        { s.face with timer := .startAt s.now 60000 }).onDust (fun d => { d with watch := .startAt s.now 40000 })
          |>.onLine fun l => { l with isolation := .startAt s.now 300000, duplicate := false }

theorem startListen_eq (s : State) : startListen s = startStandby (startSweep s.listenTimed) := rfl

/-- The standby timer of a cannon that is PARKED at a LISTEN entry. -/
def State.listenStandby (s : State) : Timer :=
  if 0 < s.cfg.standbyCount then .running (s.now + s.cfg.standbyCount * 60000) else .stopped

theorem standbyTimer_of_operational {s : State} (h : s.operational = true) : s.standbyTimer = s.listenStandby := by
  unfold State.standbyTimer State.listenStandby
  simp [h, Timer.startAt]

theorem startStandby_standby {s : State} (h : s.operational = true) (hp : (startStandby s).cannon.state = .parked) :
    (startStandby s).cannon.standby = s.listenStandby := by
  unfold startStandby at hp ⊢
  split
  · exact standbyTimer_of_operational h
  · rename_i hc
    rw [if_neg hc] at hp
    exact absurd hp hc

theorem startListen_cannon (s : State) :
    (startListen s).cannon = s.cannon
      ∨ (s.cannon.state = .parked ∧ ∃ w, (startListen s).cannon = { s.cannon with standby := w }) := by
  let u := s.listenTimed
  have hu : (startSweep u).cannon = s.cannon := startSweep_only u .cannon (by decide)
  rw [startListen_eq, startStandby]
  split
  · rename_i hp
    refine .inr ⟨hu ▸ hp, (startSweep u).standbyTimer, ?_⟩
    rw [← hu]
    rfl
  · exact .inl hu

theorem startListen_started (s : State) : listenStarted (startListen s) := by
  let u := s.listenTimed
  have hnow : (startListen s).now = s.now := startListen_only s .now (by decide)
  have hst : (startSweep u).station = u.station := startSweep_only u .station (by decide)
  have hsn : (startSweep u).now = s.now := startSweep_only u .now (by decide)
  unfold listenStarted
  rw [hnow, startListen_station, startListen_wind, startListen_face, startListen_dust, startListen_line]
  refine ⟨rfl, rfl, rfl, rfl, rfl, rfl, rfl, rfl, fun hp => ?_⟩
  have hw : (startListen s).cannon.standby = (startSweep u).listenStandby :=
    startStandby_standby (s := startSweep u) (by rw [State.operational, hst]; rfl) hp
  have hcfg : (startListen s).cfg = (startSweep u).cfg := by
    rw [State.cfg, State.cfg, startListen_station, hst]
    rfl
  rw [hw, hcfg, ← hsn]
  rfl

/-- The timers of a LISTEN entry read the clock, the settings and the timers alone. -/
theorem listenStarted_congr {s t : State} (h : listenStarted s) (hnow : t.now = s.now) (hst : t.station = s.station)
    (hacc : t.wind.acc = s.wind.acc) (hminute : t.wind.minute = s.wind.minute) (hface : t.face.timer = s.face.timer)
    (hdust : t.dust.watch = s.dust.watch) (hiso : t.line.isolation = s.line.isolation)
    (hdup : t.line.duplicate = s.line.duplicate) (hstate : t.cannon.state = s.cannon.state)
    (hstandby : t.cannon.standby = s.cannon.standby) : listenStarted t := by
  have hcfg : t.cfg = s.cfg := by rw [State.cfg, State.cfg, hst]
  unfold listenStarted at h ⊢
  rwa [hnow, hst, hacc, hminute, hface, hdust, hiso, hdup, hstate, hstandby, hcfg]

/-! ### The first LISTEN entry, and the one from START or COMMISSION -/

theorem startFirstListen_started {s : State} (h : s.claim.supply.staleTimer = .stopped) :
    firstListenStarted (startFirstListen s) := by
  unfold startFirstListen
  rw [if_pos (by simp [State.firstListen, h])]
  let u := s.setClaim { s.claim with supply := { s.claim.supply with staleTimer := .startAt s.now 300000 } }
  have hnow : (startForecastStale u).now = s.now := startForecastStale_only u .now (by decide)
  have hclaim : (startForecastStale u).claim = u.claim := startForecastStale_only u .claim (by decide)
  refine ⟨?_, fun hi => ?_⟩
  · show (startForecastStale u).claim.supply.staleTimer = .running ((startForecastStale u).now + 300000)
    rw [hnow, hclaim]
    rfl
  · change (startForecastStale u).forecast.issue = none at hi
    show (startForecastStale u).forecast.staleStart = some (startForecastStale u).minute
    rw [show (startForecastStale u).minute = u.minute from by unfold State.minute State.sec; rw [hnow]; rfl]
    unfold startForecastStale at hi ⊢
    split
    · rfl
    · rename_i hn
      rw [if_neg hn] at hi
      exact absurd hi (by simpa using hn)

/-- A station that has entered LISTEN before keeps its supply state and its forecast. -/
theorem startFirstListen_of_later {s : State} (h : s.claim.supply.staleTimer ≠ .stopped) : startFirstListen s = s :=
  if_neg (by simpa [State.firstListen] using h)

theorem firstListenStarted_congr {s t : State} (h : firstListenStarted s) (hnow : t.now = s.now)
    (hclaim : t.claim = s.claim) (hf : t.forecast = s.forecast) : firstListenStarted t := by
  have hm : t.minute = s.minute := by unfold State.minute State.sec; rw [hnow]
  unfold firstListenStarted at h ⊢
  rwa [hnow, hclaim, hf, hm]

theorem formRecords_formed (s : State) : recordsFormed s.cfg (formRecords s) := by
  refine ⟨fun f => ?_, fun f => ?_⟩
  · exact PerFace.get_const none f
  have : (formRecords s).face.records = s.cfg.faces.map formRecord := rfl
  rw [this, PerFace.get_map]
  rfl

theorem recordsFormed_congr {c : Configuration} {s t : State} (h : recordsFormed c s) (hl : t.look = s.look)
    (hf : t.face = s.face) : recordsFormed c t := by
  unfold recordsFormed at h ⊢
  rwa [hl, hf]

section Fresh

variable {s : State}

/-- The state of a LISTEN entry with new settings before the fallback wind and the measures of the first entry. -/
def formedListen (s : State) : State := formRecords (startListen (takeSettings s))

theorem enterListenFresh_after (s : State) :
    onlyChanges [.wind, .claim, .forecast] (formedListen s) (enterListenFresh s) :=
  only_trans (only_mono (fallbackAtListen_only _) (by decide)) (only_mono (startFirstListen_only _) (by decide))

theorem enterListenFresh_formed {cfg : Configuration} (h : s.station.stored = some cfg) :
    recordsFormed cfg (enterListenFresh s) := by
  have hcfg : (startListen (takeSettings s)).cfg = cfg := by
    rw [State.cfg, startListen_station]
    show s.station.stored.getD Config.unset = cfg
    rw [h]
    rfl
  exact recordsFormed_congr (hcfg ▸ formRecords_formed (startListen (takeSettings s)))
    (enterListenFresh_after s .look (by decide)) (enterListenFresh_after s .face (by decide))

theorem formedListen_wind (s : State) :
    (formedListen s).wind = { s.wind with acc := Accumulator.empty, minute := .running (s.now + 60000) } :=
  startListen_wind (takeSettings s)

theorem enterListenFresh_wind (s : State) :
    (enterListenFresh s).wind =
      { s.wind with
        acc := Accumulator.empty, minute := .running (s.now + 60000)
        record :=
          if s.wind.record.initial then
            { s.wind.record with
              speed := (s.station.stored.getD Config.unset).fallbackWind
              gust := (s.station.stored.getD Config.unset).fallbackWind }
          else s.wind.record } := by
  have hw := formedListen_wind s
  have hcfg : (formedListen s).cfg = s.station.stored.getD Config.unset := by
    show (startListen (takeSettings s)).station.config.getD _ = _
    rw [startListen_station]
    rfl
  have hlast : (enterListenFresh s).wind = (fallbackAtListen (formedListen s)).wind :=
    startFirstListen_only _ .wind (by decide)
  rw [hlast]
  unfold fallbackAtListen
  rw [hcfg, hw]
  cases hi : s.wind.record.initial <;> simp [hw]

theorem formRecords_started {v : State} (h : listenStarted v) : listenStarted (formRecords v) :=
  listenStarted_congr h rfl rfl rfl rfl rfl rfl rfl rfl rfl rfl

theorem enterListenFresh_started (s : State) : listenStarted (enterListenFresh s) := by
  have h := enterListenFresh_after s
  have hface : (enterListenFresh s).face = (formedListen s).face := h .face (by decide)
  have hdust : (enterListenFresh s).dust = (formedListen s).dust := h .dust (by decide)
  have hline : (enterListenFresh s).line = (formedListen s).line := h .line (by decide)
  have hcannon : (enterListenFresh s).cannon = (formedListen s).cannon := h .cannon (by decide)
  have hu : listenStarted (formedListen s) := formRecords_started (startListen_started _)
  refine listenStarted_congr hu (h .now (by decide)) (h .station (by decide)) ?_ ?_ (by rw [hface]) (by rw [hdust])
    (by rw [hline]) (by rw [hline]) (by rw [hcannon]) (by rw [hcannon])
  all_goals rw [enterListenFresh_wind, formedListen_wind]

theorem enterListenFresh_first (h : s.claim.supply.staleTimer = .stopped) :
    firstListenStarted (enterListenFresh s) := by
  have hc : (fallbackAtListen (formedListen s)).claim = s.claim :=
    (fallbackAtListen_only _ .claim (by decide)).trans (startListen_only (takeSettings s) .claim (by decide))
  exact startFirstListen_started (s := fallbackAtListen (formedListen s)) (by rw [hc]; exact h)

end Fresh

/-! ### The end of the arrival after a LISTEN entry -/

theorem listenStarted_close (s0 : State) {s : State} (h : listenStarted s) : listenStarted (closeArrival s0 s) := by
  have hr := closeArrival_reports s0 s
  exact listenStarted_congr h (by simp) (by simp) (by simp) (by simp) (by simp) (by simp) hr.isolation hr.duplicate
    (by simp) (by simp)

theorem firstListenStarted_close (s0 : State) {s : State} (h : firstListenStarted s) :
    firstListenStarted (closeArrival s0 s) := firstListenStarted_congr h (by simp) (by simp) (by simp)

theorem recordsFormed_close (s0 : State) {c : Configuration} {s : State} (h : recordsFormed c s) :
    recordsFormed c (closeArrival s0 s) := recordsFormed_congr h (by simp) (by simp)

end Sys2Proof.Machine
end


section
/-! PROOFS. What POWER_ON leaves in each block (O3). -/

namespace Sys2Proof.Machine

/-! ### Leaving START -/

/-- What the station can do to a block in leaving START: timers, the stale start and the charge face. -/
structure StartLeft (s t : State) : Prop where
  forecast : ∃ start, t.forecast = { s.forecast with staleStart := start }
  claim : ∃ timer, t.claim = { s.claim with supply := { s.claim.supply with staleTimer := timer } }
  cannon : ∃ standby face, t.cannon = { s.cannon with standby := standby, chargeFace := face }
  dust : ∃ watch, t.dust = { s.dust with watch := watch }
  line : ∃ isolation, t.line = { s.line with isolation := isolation }
  entries : t.peers.entries = s.peers.entries

theorem startFirstListen_forecast (s : State) :
    ∃ start, (startFirstListen s).forecast = { s.forecast with staleStart := start } := by
  unfold startFirstListen
  split
  · unfold startForecastStale
    split
    · exact ⟨_, rfl⟩
    · exact ⟨_, rfl⟩
  · exact ⟨_, rfl⟩

theorem startFirstListen_claim (s : State) :
    ∃ timer, (startFirstListen s).claim = { s.claim with supply := { s.claim.supply with staleTimer := timer } } := by
  unfold startFirstListen
  split
  · exact ⟨_, startForecastStale_only _ .claim (by decide)⟩
  · exact ⟨_, rfl⟩

theorem formRecords_cannon (u : State) :
    ∃ face, (formRecords u).cannon = { u.cannon with chargeFace := face } := ⟨_, rfl⟩

theorem formedListen_cannon (s : State) :
    ∃ standby face, (formedListen s).cannon = { s.cannon with standby := standby, chargeFace := face } := by
  have hcannon : (takeSettings s).cannon = s.cannon := rfl
  obtain ⟨face, hface⟩ := formRecords_cannon (startListen (takeSettings s))
  unfold formedListen
  rw [hface]
  rcases startListen_cannon (takeSettings s) with h | ⟨_, w, h⟩ <;> rw [h, hcannon]
  · exact ⟨s.cannon.standby, face, rfl⟩
  · exact ⟨w, face, rfl⟩

theorem formedListen_only (s : State) :
    onlyChanges [.station, .wind, .face, .look, .dust, .line, .peers, .cannon] s (formedListen s) :=
  only_trans (t := takeSettings s) (only_mono (onStation_only s _) (by decide))
    (only_trans (only_mono (startListen_only _) (by decide)) (only_mono (formRecords_only _) (by decide)))

theorem formedListen_line (s : State) :
    (formedListen s).line = { s.line with isolation := .running (s.now + 300000), duplicate := false } :=
  (formRecords_only (startListen (takeSettings s)) .line (by decide)).trans (startListen_line (takeSettings s))

theorem formedListen_dust (s : State) :
    (formedListen s).dust = { s.dust with watch := .running (s.now + 40000) } :=
  (formRecords_only (startListen (takeSettings s)) .dust (by decide)).trans (startListen_dust (takeSettings s))

theorem enterListenFresh_left {s : State} (h : s.line.duplicate = false) : StartLeft s (enterListenFresh s) := by
  have hv : onlyChanges [.wind] (formedListen s) (fallbackAtListen (formedListen s)) := fallbackAtListen_only _
  have hf : (fallbackAtListen (formedListen s)).forecast = s.forecast :=
    (hv .forecast (by decide)).trans (formedListen_only s .forecast (by decide))
  have hc : (fallbackAtListen (formedListen s)).claim = s.claim :=
    (hv .claim (by decide)).trans (formedListen_only s .claim (by decide))
  have hafter := enterListenFresh_after s
  have hdust : (enterListenFresh s).dust = (formedListen s).dust := hafter .dust (by decide)
  have hline : (enterListenFresh s).line = (formedListen s).line := hafter .line (by decide)
  have hcannon : (enterListenFresh s).cannon = (formedListen s).cannon := hafter .cannon (by decide)
  obtain ⟨start, hstart⟩ := startFirstListen_forecast (fallbackAtListen (formedListen s))
  obtain ⟨timer, htimer⟩ := startFirstListen_claim (fallbackAtListen (formedListen s))
  rw [hf] at hstart
  rw [hc] at htimer
  rw [formedListen_line, ← h] at hline
  rw [formedListen_dust] at hdust
  exact ⟨⟨start, hstart⟩, ⟨timer, htimer⟩, hcannon ▸ formedListen_cannon s, ⟨_, hdust⟩, ⟨_, hline⟩,
    enterListenFresh_entries s⟩

theorem leaveStart_left {s : State} (m : Mode) (h : s.line.duplicate = false) : StartLeft s (leaveStart m s) := by
  unfold leaveStart
  split
  · exact enterListenFresh_left h
  all_goals exact ⟨⟨_, rfl⟩, ⟨_, rfl⟩, ⟨_, _, rfl⟩, ⟨_, rfl⟩, ⟨_, rfl⟩, rfl⟩

theorem WindRecord.with_same {r : WindRecord} {v : Nat} (hs : r.speed = v) (hg : r.gust = v) :
    { r with speed := v, gust := v } = r := by
  subst hs
  cases r
  cases hg
  rfl

/-- A record that already holds the fallback wind of the settings is kept by the entry into LISTEN. -/
theorem leaveStart_wind {s : State} (m : Mode) (hacc : s.wind.acc = Accumulator.empty)
    (h : s.station.stored.isSome = true → s.wind.record.speed = (s.station.stored.getD Config.unset).fallbackWind
      ∧ s.wind.record.gust = (s.station.stored.getD Config.unset).fallbackWind)
    (hm : m = .listen → s.station.stored.isSome = true) :
    (leaveStart m s).wind.acc = Accumulator.empty ∧ (leaveStart m s).wind.record = s.wind.record := by
  unfold leaveStart
  split
  · obtain ⟨hspeed, hgust⟩ := h (hm rfl)
    rw [enterListenFresh_wind]
    refine ⟨rfl, ?_⟩
    rw [WindRecord.with_same hspeed hgust]
    exact ite_self _
  all_goals exact ⟨hacc, rfl⟩

theorem leaveStart_station {s : State} {m : Mode} (hm : m = .listen ∨ m = .commission ∨ m = .unconfigured)
    (h : s.station.config = s.station.stored) :
    ∃ listen window, (leaveStart m s).station = { s.station with mode := m, listen := listen, window := window } := by
  rcases hm with rfl | rfl | rfl
  · refine ⟨.running (s.now + 60000), .stopped, ?_⟩
    show (enterListenFresh s).station = _
    rw [enterListenFresh_station, ← h]
  · exact ⟨_, _, rfl⟩
  · exact ⟨_, _, rfl⟩

/-! ### POWER_ON -/

section PowerOn

variable (straps : Nat) (key : Bool) (s : State)

theorem powerUp_line : (powerUp straps key s).line = Line.powerOn := by rw [powerUp_eq]; rfl

theorem powerUp_station :
    (powerUp straps key s).station =
      { State.reset.station with
        node := straps, stored := loadBlock straps s.store.block, config := loadBlock straps s.store.block } := by
  rw [powerUp_eq]

theorem powerUp_wind :
    (powerUp straps key s).wind =
      Wind.powerOn (((loadBlock straps s.store.block).map Configuration.fallbackWind).getD 0) := by
  rw [powerUp_eq]
  cases loadBlock straps s.store.block <;> rfl

theorem firstMode_cases (valid : Bool) :
    firstMode straps key valid = .listen ∨ firstMode straps key valid = .commission
      ∨ firstMode straps key valid = .unconfigured := by
  unfold firstMode
  split
  · exact .inr (.inr rfl)
  split
  · exact .inr (.inl rfl)
  split
  · exact .inl rfl
  · exact .inr (.inr rfl)

theorem takePowerOn_station :
    ∃ listen window, (takePowerOn straps key s).station =
      { State.reset.station with
        mode := firstMode straps key (loadBlock straps s.store.block).isSome, node := straps
        stored := loadBlock straps s.store.block, config := loadBlock straps s.store.block
        listen := listen, window := window } := by
  have h := powerUp_station straps key s
  obtain ⟨l, w, hl⟩ := leaveStart_station (s := powerUp straps key s)
    (firstMode_cases straps key (loadBlock straps s.store.block).isSome) (by rw [h])
  refine ⟨l, w, hl.trans ?_⟩
  rw [h]

theorem takePowerOn_left : StartLeft (powerUp straps key s) (takePowerOn straps key s) :=
  leaveStart_left _ (by rw [powerUp_line]; rfl)

theorem takePowerOn_wind :
    (takePowerOn straps key s).wind.acc = Accumulator.empty
      ∧ (takePowerOn straps key s).wind.record =
        (Wind.powerOn (((loadBlock straps s.store.block).map Configuration.fallbackWind).getD 0)).record := by
  have h := powerUp_wind straps key s
  have hst := powerUp_station straps key s
  have hw := leaveStart_wind (s := powerUp straps key s)
    (firstMode straps key (loadBlock straps s.store.block).isSome) (by rw [h]; rfl)
    (fun hv => by
      rw [hst] at hv ⊢
      rw [h]
      obtain ⟨c, hc⟩ := Option.isSome_iff_exists.1 hv
      simp only at hc
      simp [hc, Wind.powerOn])
    (fun hm => by rw [hst]; exact (firstMode_listen hm).2.2)
  exact ⟨hw.1, hw.2.trans (by rw [h])⟩

/-- At the end of POWER_ON no condition holds but CONFIG_ABSENT. -/
theorem takePowerOn_conditions {i : AlarmId} (hi : i ≠ .configAbsent) :
    (takePowerOn straps key s).conditions.get i = false := by
  obtain ⟨⟨_, hforecast⟩, ⟨_, hclaim⟩, ⟨_, _, hcannon⟩, _, ⟨_, hline⟩, _⟩ := takePowerOn_left straps key s
  obtain ⟨_, hrecord⟩ := takePowerOn_wind straps key s
  rw [powerUp_line] at hline
  rw [powerUp_eq] at hforecast hclaim hcannon
  cases i
  case configAbsent => exact absurd rfl hi
  case cannonFault =>
    show decide ((takePowerOn straps key s).cannon.state = .fault) = false
    rw [hcannon]
    show decide (Cannon.state (if _ then _ else _) = .fault) = false
    split <;> rfl
  case duplicateNode => exact congrArg Line.duplicate hline
  case lineIsolated => exact congrArg Line.isolated hline
  case supplyStale => exact congrArg (fun c => c.supply.stale) hclaim
  case freshExhausted =>
    show (decide ((takePowerOn straps key s).claim.supply.source = .fresh) && _) = false
    rw [hclaim]
    rfl
  case windLost =>
    show (_ && !(takePowerOn straps key s).wind.record.initial) = false
    rw [hrecord]
    exact Bool.and_false _
  case forecastStale => exact congrArg Forecast.stale hforecast
  case plumeUncovered => rfl
  case prewetMissed => rfl

theorem leaveStart_of_not_listen {s : State} {m : Mode} (h : m ≠ .listen) : onlyChanges [.station] s (leaveStart m s) := by
  unfold leaveStart
  split
  · exact absurd rfl h
  all_goals exact onStation_only s _

/-- The face records and the summaries once POWER_ON has left START. -/
theorem takePowerOn_faces :
    (∀ f, (takePowerOn straps key s).look.get f = none)
      ∧ (firstMode straps key (loadBlock straps s.store.block).isSome ≠ .listen →
          ∀ f, (takePowerOn straps key s).face.records.get f = none) := by
  have hst := powerUp_station straps key s
  unfold takePowerOn
  by_cases hm : firstMode straps key (loadBlock straps s.store.block).isSome = .listen
  · obtain ⟨cfg, hcfg⟩ := Option.isSome_iff_exists.1 (firstMode_listen hm).2.2
    rw [hm]
    exact ⟨(enterListenFresh_formed (cfg := cfg) (by rw [hst]; exact hcfg)).1, fun h => absurd rfl h⟩
  · have h := leaveStart_of_not_listen (s := powerUp straps key s) hm
    rw [h .look (by decide), h .face (by decide), powerUp_eq]
    exact ⟨PerFace.get_const none, fun _ => PerFace.get_const none⟩

/-- A station with strap 0 raises CONFIG_ABSENT on its relay at POWER_ON. -/
theorem powerOn_configAbsent {s0 s : State} (hnode : s.station.node = 0) (hf : s.alarms.flags.configAbsent = .powerOn) :
    (closeArrival s0 s).alarms.flags.configAbsent.state = .raised ∧ (closeArrival s0 s).alarms.relay = true := by
  have hv : s.validConfig = none := if_pos hnode
  have hstate : (closeArrival s0 s).alarms.flags.configAbsent.state = .raised := by
    have h := closeArrival_follow s0 s (i := .configAbsent) rfl
    rw [show s.conditions.get .configAbsent = true by
      show s.validConfig.isNone = true
      rw [hv]
      rfl] at h
    rw [show (closeArrival s0 s).alarms.flags.configAbsent = _ from h]
    show (s.alarms.flags.configAbsent.follow s.sec true).state = .raised
    rw [hf]
    rfl
  refine ⟨hstate, ?_⟩
  have hr : (closeArrival s0 s).alarms.relay = relayLevel s.relaySet (closeArrival s0 s).alarms.flags := by
    rw [closeArrival_alarms]
    rfl
  rw [hr]
  refine List.any_eq_true.2 ⟨.configAbsent, by decide, ?_⟩
  unfold State.relaySet
  rw [hv]
  exact (Bool.true_and _).trans (decide_eq_true hstate)

end PowerOn

/-- Settles O3. -/
theorem powerOnState : Obligations.PowerOnState := by
  unfold Obligations.PowerOnState
  refine ⟨fun c s hm hc => exec_start hc hm, fun straps key s => ?_⟩
  refine ⟨_, exec_powerOn straps key s, ?_⟩
  have hfresh : ∀ cfg, firstMode straps.val key (loadBlock straps.val s.store.block).isSome = .listen →
      loadBlock straps.val s.store.block = some cfg → recordsFormed cfg (takePowerOn straps.val key s)
        ∧ listenStarted (takePowerOn straps.val key s) ∧ firstListenStarted (takePowerOn straps.val key s) := by
    intro cfg hm hcfg
    unfold takePowerOn
    rw [hm]
    exact ⟨enterListenFresh_formed (by rw [powerUp_station]; exact hcfg), enterListenFresh_started _,
      enterListenFresh_first (by rw [powerUp_eq]; rfl)⟩
  have hcommission : firstMode straps.val key (loadBlock straps.val s.store.block).isSome = .commission →
      (takePowerOn straps.val key s).station.window = .running 1800000 := by
    intro hm
    unfold takePowerOn
    have hnow : (powerUp straps.val key s).now = 0 := by rw [powerUp_eq]; rfl
    rw [hm]
    show Timer.running ((powerUp straps.val key s).now + 1800000) = _
    rw [hnow, Nat.zero_add]
  have hout := takePowerOn_only straps.val key s
  obtain ⟨⟨start, hforecast⟩, ⟨timer, hclaim⟩, ⟨standby, charge, hcannon⟩, ⟨watch, hdust⟩, ⟨iso, hline⟩, hentries⟩ :=
    takePowerOn_left straps.val key s
  obtain ⟨listen, window, hstation⟩ := takePowerOn_station straps.val key s
  obtain ⟨hacc, hrecord⟩ := takePowerOn_wind straps.val key s
  obtain ⟨hlook, hrecords⟩ := takePowerOn_faces straps.val key s
  have hconds := @takePowerOn_conditions straps.val key s
  have hnow : (takePowerOn straps.val key s).now = _ := hout .now (by decide)
  have hqueue : (takePowerOn straps.val key s).queue = _ := hout .queue (by decide)
  have haccount : (takePowerOn straps.val key s).account = _ := hout .account (by decide)
  have hlockout : (takePowerOn straps.val key s).lockout = _ := hout .lockout (by decide)
  have halarms : (takePowerOn straps.val key s).alarms = _ := hout .alarms (by decide)
  have hpanel : (takePowerOn straps.val key s).panel = _ := hout .panel (by decide)
  have hstore : (takePowerOn straps.val key s).store = _ := hout .store (by decide)
  have hpending : (takePowerOn straps.val key s).pending = _ := hout .pending (by decide)
  have hfree : (takePowerOn straps.val key s).free = _ := hout .free (by decide)
  have hpins : (takePowerOn straps.val key s).pins = _ := hout .pins (by decide)
  clear hout
  generalize takePowerOn straps.val key s = u at *
  rw [powerUp_eq] at hforecast hclaim hcannon hdust hline hentries hnow hqueue haccount hlockout halarms hpanel hstore
  rw [powerUp_eq] at hpending hfree hpins
  have hnot : u.station.mode ≠ .run := by
    rw [hstation]
    rcases firstMode_cases straps.val key (loadBlock straps.val s.store.block).isSome with h | h | h <;> simp [h]
  have hclose : (closeArrival s u).line = { u.line with left := false } :=
    congrArg State.line (closeStatus_of_idle (s0 := s) (s := syncAlarms u) hnot)
  have hmode : (closeArrival s u).station.mode = firstMode straps.val key (loadBlock straps.val s.store.block).isSome := by
    rw [closeArrival_station, hstation]
  have hstored : (closeArrival s u).station.stored = loadBlock straps.val s.store.block := by
    rw [closeArrival_station, hstation]
  rw [hmode, hstored]
  have hstate : u.cannon.state = (if s.store.loadLocks.isEmpty then CannonState.parked else .locked)
      ∧ u.cannon.branchOpen = s.store.loadLocks.isEmpty := by
    rw [hcannon]
    cases s.store.loadLocks.isEmpty <;> exact ⟨rfl, rfl⟩
  have hidle : u.cannon.valveOpen = false ∧ u.cannon.drive = none ∧ u.cannon.primed = false ∧ u.cannon.chain = none
      ∧ u.cannon.bearing = none ∧ u.cannon.noFlowCount = 0 ∧ u.cannon.log = [] ∧ u.cannon.nextSerial = 0 := by
    rw [hcannon]
    cases s.store.loadLocks.isEmpty <;> exact ⟨rfl, rfl, rfl, rfl, rfl, rfl, rfl, rfl⟩
  obtain ⟨hvalve, hdrive, hprimed, hchain, hbearing, hcount, hlog, hserial⟩ := hidle
  rw [closeArrival_now, closeArrival_station, closeArrival_wind, closeArrival_forecast, closeArrival_look,
    closeArrival_face, closeArrival_queue, closeArrival_cannon, closeArrival_claim, closeArrival_account,
    closeArrival_dust, closeArrival_peers, closeArrival_lockout, closeArrival_panel, closeArrival_store,
    closeArrival_pending, closeArrival_free, closeArrival_pins, hclose]
  refine ⟨by rw [hnow]; rfl, by rw [hstation], by rw [hstation]; rfl, by rw [hstation]; rfl, rfl, by rw [hstation],
    fun h0 => powerOn_configAbsent (by rw [hstation]; exact h0) (by rw [halarms]; rfl), rfl, hacc,
    by rw [hrecord]; rfl, by rw [hrecord]; rfl, by rw [hrecord]; rfl, by rw [hrecord]; rfl, by rw [hrecord]; rfl,
    by rw [hforecast]; rfl, by rw [hforecast]; rfl, by rw [hforecast]; rfl, hlook, hrecords, fun cfg hm hcfg => ?_,
    hcommission, by rw [hqueue]; rfl, by rw [hqueue]; rfl, fun f => ?_, by rw [hqueue]; rfl, by rw [hqueue],
    hstate.1, hstate.2, hvalve, hdrive, hprimed, hchain, hbearing, hcount, hlog, hserial,
    by rw [hclaim]; rfl, by rw [hclaim]; rfl, by rw [hclaim]; rfl, by rw [hclaim]; rfl, by rw [hclaim]; rfl,
    by rw [hclaim]; rfl, by rw [hclaim]; rfl, by rw [haccount]; rfl, by rw [haccount]; rfl, by rw [haccount]; rfl,
    by rw [hdust]; rfl, by rw [hdust]; rfl, by rw [hdust]; rfl, by rw [hdust]; rfl, by rw [hdust]; rfl,
    by rw [hdust]; rfl, by rw [hdust]; rfl, by rw [hdust]; rfl, by rw [hdust]; rfl, hentries, by rw [hline]; rfl,
    by rw [hline]; rfl, by rw [hlockout], by rw [hlockout]; rfl, fun i hi => ?_, ?_, by rw [hpanel]; rfl,
    by rw [hpanel]; rfl, hstore, hpending, hfree, hpins⟩
  · obtain ⟨h1, h2, h3⟩ := hfresh cfg hm hcfg
    exact ⟨recordsFormed_close s h1, listenStarted_close s h2, firstListenStarted_close s h3⟩
  · rw [hqueue]
    exact PerFace.get_const _ f
  · cases hc : conditionFlag i with
    | false =>
      rw [closeArrival_event s u hc, halarms]
      cases i <;> rfl
    | true =>
      rw [closeArrival_follow s u hc, halarms, hconds hi]
      cases i <;> rfl
  · refine (closeArrival_cond s u (i := .configAbsent) rfl).trans ?_
    show u.validConfig.isNone = _
    unfold State.validConfig
    rw [hstation]
    by_cases h0 : straps.val = 0 <;> simp [h0]

end Sys2Proof.Machine
end


section
/-! PROOFS. What a panel RESTART clears and keeps (O47). -/

namespace Sys2Proof.Machine

/-! ### The chain's end at a RESTART -/

theorem queueChainEnd_of_empty {s : State} (ch : Chain) (c : Cause) (h : s.queue.entries = []) :
    queueChainEnd ch c s = rotate ch.face s := by
  have hend : endEntry ch c s = s := by
    unfold endEntry
    rw [h]
    rfl
  have hred : completionReduction ch.face ch.cls ch.litres s = s := by
    unfold completionReduction
    rw [h]
    exact ite_self s
  unfold queueChainEnd
  rw [hend, hred]

/-- The cannon after its chain has ended at a RESTART, before it is parked or locked. -/
def Cannon.unchained (sec : Nat) (c : Cannon) : Cannon :=
  match c.chain with
  | none => c
  | some ch => { c.halt.record sec ch .restart with chain := none }

/-- The rotation order after a chain's end. -/
def rotated (chain : Option Chain) (order : List FaceId) : List FaceId :=
  match chain with
  | none => order
  | some ch => order.filter (fun g => decide (g ≠ ch.face)) ++ [ch.face]

section Restart

variable (s : State)

theorem chainGone_restart_only (ch : Chain) : onlyChanges [.cannon, .claim] s (chainGone .restart ch s) :=
  only_trans (only_mono (onCannon_only s _) (by decide))
    (only_trans (t := noClaim _) (only_mono (setClaim_only _ _) (by decide))
      (only_mono (onCannon_only _ _) (by decide)))

theorem noClaim_claim_congr {s t : State} (h : t.claim = s.claim) : (noClaim t).claim = (noClaim s).claim := by
  unfold noClaim
  rw [h]
  rfl

theorem noClaim_idem : (noClaim (noClaim s)).claim = (noClaim s).claim := rfl

theorem chainGone_restart_claim (ch : Chain) : (chainGone .restart ch s).claim = (noClaim s).claim := rfl

/-- The state of a RESTART after the chain's end. -/
def unchained (s : State) (ch : Chain) : State := rotate ch.face ((chainGone .restart ch (clearQueue s)).setRequest false)

theorem chainEnd_clearQueue_of_chain {s : State} {ch : Chain} (hc : s.cannon.chain = some ch) :
    chainEnd .restart (clearQueue s) = unchained s ch := by
  have hqueue : (chainGone .restart ch (clearQueue s)).queue = (clearQueue s).queue := chainGone_queue .restart ch _
  rw [chainEnd_of_closed (s := clearQueue s) hc rfl]
  exact queueChainEnd_of_empty ch .restart (s := (chainGone .restart ch (clearQueue s)).setRequest false)
    (by rw [State.setRequest, State.setQueue_queue, hqueue]; rfl)

theorem unchained_only (ch : Chain) : onlyChanges [.queue, .cannon, .claim] s (unchained s ch) :=
  only_trans (t := clearQueue s) (only_mono (setQueue_only s _) (by decide))
    (only_trans (only_mono (chainGone_restart_only _ ch) (by decide))
      (only_trans (t := (chainGone .restart ch (clearQueue s)).setRequest false) (only_mono (setQueue_only _ _) (by decide))
        (only_mono (setQueue_only _ _) (by decide))))

/-- The chain's end at a RESTART finds an empty queue and a closed request: it records, rotates and frees the claim. -/
theorem chainEnd_clearQueue_only : onlyChanges [.queue, .cannon, .claim] s (chainEnd .restart (clearQueue s)) := by
  cases hc : s.cannon.chain with
  | none =>
    rw [chainEnd_of_none (s := clearQueue s) hc]
    exact only_mono (t := clearQueue s) (setQueue_only s _) (by decide)
  | some ch =>
    rw [chainEnd_clearQueue_of_chain hc]
    exact unchained_only s ch

theorem clearBlocks_cannon : (clearBlocks s).cannon = s.cannon.unchained s.sec := by
  have h : (clearBlocks s).cannon = (chainEnd .restart (clearQueue s)).cannon := by
    simp [clearBlocks, State.onDust, State.onLine, noClaim]
  rw [h]
  unfold Cannon.unchained
  cases hc : s.cannon.chain with
  | none => rw [chainEnd_of_none (s := clearQueue s) hc]; rfl
  | some ch =>
    rw [chainEnd_clearQueue_of_chain hc]
    exact chainGone_cannon .restart ch (clearQueue s)

theorem clearBlocks_queue :
    (clearBlocks s).queue = { (clearQueue s).queue with rotation := rotated s.cannon.chain s.queue.rotation } := by
  have h : (clearBlocks s).queue = (chainEnd .restart (clearQueue s)).queue := by
    simp [clearBlocks, State.onDust, State.onLine, noClaim]
  rw [h]
  unfold rotated
  cases hc : s.cannon.chain with
  | none => rw [chainEnd_of_none (s := clearQueue s) hc]; rfl
  | some ch =>
    have hqueue : (chainGone .restart ch (clearQueue s)).queue = (clearQueue s).queue := chainGone_queue .restart ch _
    rw [chainEnd_clearQueue_of_chain hc]
    unfold unchained rotate State.setRequest
    rw [State.setQueue_queue, State.setQueue_queue, hqueue]
    rfl

theorem clearBlocks_claim : (clearBlocks s).claim = (noClaim s).claim := by
  have h : (clearBlocks s).claim = (noClaim (chainEnd .restart (clearQueue s))).claim := by
    simp [clearBlocks, State.onDust, State.onLine]
  rw [h]
  cases hc : s.cannon.chain with
  | none => rw [chainEnd_of_none (s := clearQueue s) hc]; rfl
  | some ch =>
    rw [chainEnd_clearQueue_of_chain hc]
    exact (noClaim_claim_congr (s := noClaim s) (chainGone_restart_claim (clearQueue s) ch)).trans (noClaim_idem s)

theorem clearBlocks_line : (clearBlocks s).line = Line.clear s.now s.line := by
  have hl : (chainEnd .restart (clearQueue s)).line = s.line := chainEnd_clearQueue_only s .line (by decide)
  simp [clearBlocks, State.onDust, State.onLine, noClaim, hl]

theorem clearBlocks_wind : (clearBlocks s).wind = { s.wind with acc := Accumulator.empty, minute := .stopped } := by
  have h : (chainEnd .restart (clearQueue s)).wind = s.wind := chainEnd_clearQueue_only s .wind (by decide)
  simp [clearBlocks, State.onDust, State.onLine, noClaim, h]

theorem clearBlocks_face : (clearBlocks s).face = { s.face with timer := .stopped } := by
  have h : (chainEnd .restart (clearQueue s)).face = s.face := chainEnd_clearQueue_only s .face (by decide)
  simp [clearBlocks, State.onDust, State.onLine, noClaim, h]

theorem clearBlocks_dust_eq : (clearBlocks s).dust = s.dust.restart := by
  rw [clearBlocks_dust, show (chainEnd .restart (clearQueue s)).dust = s.dust from
    chainEnd_clearQueue_only s .dust (by decide)]

theorem clearBlocks_alarms : (clearBlocks s).alarms = s.alarms := by
  have h : (chainEnd .restart (clearQueue s)).alarms = s.alarms := chainEnd_clearQueue_only s .alarms (by decide)
  simp [clearBlocks, State.onDust, State.onLine, noClaim, h]

end Restart

/-! ### The cannon at a RESTART -/

/-- The cannon as a RESTART leaves it before it is parked or locked (R90). -/
def Cannon.abandoned (c : Cannon) : Cannon :=
  { c.halt with
    state := .parked, noFlowCount := 0, primed := c.primed && !decide (c.state = .priming), drain := .stopped
    priming := .stopped, standby := .stopped }

theorem restartCannon_of_locked {s : State} (h : s.lockout.locks ≠ []) :
    restartCannon s = lockCannon (s.setCannon s.cannon.abandoned) :=
  parkOrLock_of_locked (s := s.setCannon s.cannon.abandoned) h

/-- Without locks the cannon parks and opens its request; outside RUN nothing is selected. -/
theorem restartCannon_of_free {s : State} (h : s.lockout.locks = []) (hr : s.queue.request = false)
    (hm : s.station.mode ≠ .run) :
    restartCannon s = (parkCannon (s.setCannon s.cannon.abandoned)).setRequest true := by
  have hpark : parkOrLock (s.setCannon s.cannon.abandoned) = enterParked (s.setCannon s.cannon.abandoned) :=
    if_neg fun hl => (locked_iff _).1 hl h
  have hidle : ¬ Tries ((parkCannon (s.setCannon s.cannon.abandoned)).setRequest true) := fun ht => hm ht.run
  show parkOrLock (s.setCannon s.cannon.abandoned) = _
  rw [hpark, enterParked_of_closed (by exact hr), trySelection_of_not hidle]

/-- What the entry into LISTEN of a RESTART leaves of the queue, the cannon and the claim. -/
structure Restarted (s t : State) : Prop where
  entries : t.queue.entries = s.queue.entries
  holds : t.queue.holds = s.queue.holds
  removal : t.queue.lastRemoval = s.queue.lastRemoval
  rotation : t.queue.rotation = s.queue.rotation
  claim : t.claim = s.claim
  line : t.line = s.line
  chain : t.cannon.chain = s.cannon.chain
  valve : t.cannon.valveOpen = false
  drive : t.cannon.drive = none
  count : t.cannon.noFlowCount = 0
  log : t.cannon.log = s.cannon.log
  serial : t.cannon.nextSerial = s.cannon.nextSerial
  charge : t.cannon.chargeFace = s.cannon.chargeFace
  bearing : t.cannon.bearing = s.cannon.bearing
  free : s.lockout.locks = [] →
    t.cannon.state = .parked ∧ t.queue.request = true ∧ t.cannon.branchOpen = true
      ∧ t.cannon.primed = (s.cannon.primed && !decide (s.cannon.state = .priming) && s.cannon.branchOpen)
  locked : s.lockout.locks ≠ [] →
    t.cannon.state = .locked ∧ t.queue.request = false
      ∧ t.cannon.primed = (s.cannon.primed && !decide (s.cannon.state = .priming))

theorem restartCannon_restarted {s : State} (hr : s.queue.request = false) (hm : s.station.mode ≠ .run) :
    Restarted s (restartCannon s) := by
  by_cases hl : s.lockout.locks = []
  · rw [restartCannon_of_free hl hr hm]
    exact ⟨rfl, rfl, rfl, rfl, rfl, rfl, rfl, rfl, rfl, rfl, rfl, rfl, rfl, rfl, fun _ => ⟨rfl, rfl, rfl, rfl⟩,
      fun h => absurd hl h⟩
  · rw [restartCannon_of_locked hl]
    exact ⟨rfl, rfl, rfl, rfl, rfl, rfl, rfl, rfl, rfl, rfl, rfl, rfl, rfl, rfl, fun h => absurd h hl,
      fun _ => ⟨rfl, rfl, rfl⟩⟩


/-! ### RESTART -/

/-- The station of a RESTART before its entry into LISTEN. -/
def State.restarting (s : State) : State :=
  (clearBlocks s).onStation fun t => { t with cause := .restart, lastReset := s.sec }

theorem takeRestart_eq (s : State) : takeRestart s = restartCannon (enterListenAgain s.restarting) := rfl

section Again

variable (s : State)

theorem restarting_now : s.restarting.now = s.now := clearBlocks_only s .now (by decide)

theorem enterListenAgain_queue : (enterListenAgain s.restarting).queue = (clearBlocks s).queue :=
  enterListenAgain_only s.restarting .queue (by decide)

theorem enterListenAgain_cannon :
    ∃ standby, (enterListenAgain s.restarting).cannon = { s.cannon.unchained s.sec with standby := standby } := by
  have h : (enterListenAgain s.restarting).cannon = (startListen s.restarting).cannon :=
    startFirstListen_only _ .cannon (by decide)
  have hc : s.restarting.cannon = s.cannon.unchained s.sec := clearBlocks_cannon s
  rw [h]
  rcases startListen_cannon s.restarting with hk | ⟨_, w, hk⟩ <;> rw [hk, hc]
  · exact ⟨_, rfl⟩
  · exact ⟨w, rfl⟩

theorem enterListenAgain_line :
    (enterListenAgain s.restarting).line =
      { Line.clear s.now s.line with isolation := .running (s.now + 300000), duplicate := false } := by
  have h : (enterListenAgain s.restarting).line = (startListen s.restarting).line :=
    startFirstListen_only _ .line (by decide)
  rw [h, startListen_line, restarting_now, show s.restarting.line = Line.clear s.now s.line from clearBlocks_line s]

theorem enterListenAgain_wind :
    (enterListenAgain s.restarting).wind =
      { s.wind with acc := Accumulator.empty, minute := .running (s.now + 60000) } := by
  have h : (enterListenAgain s.restarting).wind = (startListen s.restarting).wind :=
    startFirstListen_only _ .wind (by decide)
  rw [h, startListen_wind, restarting_now, show s.restarting.wind = _ from clearBlocks_wind s]

theorem enterListenAgain_face :
    (enterListenAgain s.restarting).face = { s.face with timer := .running (s.now + 60000) } := by
  have h : (enterListenAgain s.restarting).face = (startListen s.restarting).face :=
    startFirstListen_only _ .face (by decide)
  rw [h, startListen_face, restarting_now, show s.restarting.face = _ from clearBlocks_face s]

theorem enterListenAgain_dust :
    (enterListenAgain s.restarting).dust = { s.dust.restart with watch := .running (s.now + 40000) } := by
  have h : (enterListenAgain s.restarting).dust = (startListen s.restarting).dust :=
    startFirstListen_only _ .dust (by decide)
  rw [h, startListen_dust, restarting_now, show s.restarting.dust = _ from clearBlocks_dust_eq s]

theorem startListen_restarting_claim : (startListen s.restarting).claim = (noClaim s).claim :=
  (startListen_only s.restarting .claim (by decide)).trans (clearBlocks_claim s)

theorem startListen_restarting_forecast : (startListen s.restarting).forecast = s.forecast :=
  (startListen_only s.restarting .forecast (by decide)).trans (clearBlocks_only s .forecast (by decide))

theorem enterListenAgain_claim :
    ∃ timer, (enterListenAgain s.restarting).claim =
      { (noClaim s).claim with supply := { s.claim.supply with staleTimer := timer } } := by
  obtain ⟨timer, h⟩ := startFirstListen_claim (startListen s.restarting)
  exact ⟨timer, h.trans (by rw [startListen_restarting_claim]; rfl)⟩

theorem enterListenAgain_forecast :
    ∃ start, (enterListenAgain s.restarting).forecast = { s.forecast with staleStart := start } := by
  obtain ⟨start, h⟩ := startFirstListen_forecast (startListen s.restarting)
  exact ⟨start, h.trans (by rw [startListen_restarting_forecast])⟩

/-- A station that has entered LISTEN before keeps its supply state and its forecast. -/
theorem enterListenAgain_of_later (h : s.claim.supply.staleTimer ≠ .stopped) :
    (enterListenAgain s.restarting).claim = (noClaim s).claim
      ∧ (enterListenAgain s.restarting).forecast = s.forecast := by
  have hc := startListen_restarting_claim s
  unfold enterListenAgain
  rw [startFirstListen_of_later (by rw [hc]; exact h)]
  exact ⟨hc, startListen_restarting_forecast s⟩

theorem takeRestart_restarted : Restarted (enterListenAgain s.restarting) (takeRestart s) := by
  have hst : (enterListenAgain s.restarting).station = _ :=
    (startFirstListen_only _ .station (by decide)).trans (startListen_station s.restarting)
  exact restartCannon_restarted (by rw [enterListenAgain_queue, clearBlocks_queue]; rfl) (by rw [hst]; exact nofun)

/-- The end of the chain of a RESTART is recorded, and its face goes to the end of the rotation order. -/
theorem takeRestart_endedBy {ch : Chain} (h : s.cannon.chain = some ch) : endedBy .restart ch s (takeRestart s) := by
  have hr := takeRestart_restarted s
  obtain ⟨w, hcannon⟩ := enterListenAgain_cannon s
  obtain ⟨hlog, hserial⟩ := record_logged s.sec ch .restart s.cannon.halt
  refine ⟨⟨?_, ?_⟩, ?_⟩
  · rw [hr.log, hcannon, Cannon.unchained, h]
    exact hlog
  · rw [hr.serial, hcannon, Cannon.unchained, h]
    exact hserial
  · rw [hr.rotation, enterListenAgain_queue, clearBlocks_queue, h]
    rfl

end Again

/-- The parts of the cannon that the chain's end at a RESTART leaves alone. -/
theorem unchained_keeps (sec : Nat) (c : Cannon) :
    (c.unchained sec).chain = none ∧ (c.unchained sec).state = c.state ∧ (c.unchained sec).primed = c.primed
      ∧ (c.unchained sec).branchOpen = c.branchOpen ∧ (c.unchained sec).chargeFace = c.chargeFace
      ∧ (c.unchained sec).bearing = c.bearing := by
  unfold Cannon.unchained
  cases h : c.chain with
  | none => exact ⟨h, rfl, rfl, rfl, rfl, rfl⟩
  | some ch => exact ⟨rfl, rfl, rfl, rfl, rfl, rfl⟩

/-- A RESTART changes no condition but the cannon's FAULT and the duplicate. -/
theorem takeRestart_conditions (s : State) {i : AlarmId} (hf : i ≠ .cannonFault) (hd : i ≠ .duplicateNode) :
    (takeRestart s).conditions.get i = s.conditions.get i := by
  have hr := takeRestart_restarted s
  obtain ⟨timer, hclaim⟩ := enterListenAgain_claim s
  obtain ⟨start, hforecast⟩ := enterListenAgain_forecast s
  have hsupply : (takeRestart s).claim.supply = { s.claim.supply with staleTimer := timer } := by rw [hr.claim, hclaim]
  have hfor : (takeRestart s).forecast = { s.forecast with staleStart := start } :=
    (restartCannon_only _ .forecast (by decide)).trans hforecast
  have hline : (takeRestart s).line.isolated = s.line.isolated := by rw [hr.line, enterListenAgain_line]; rfl
  have hwind : (takeRestart s).wind = _ := (restartCannon_only _ .wind (by decide)).trans (enterListenAgain_wind s)
  have haccount : (takeRestart s).account = s.account := takeRestart_only s .account (by decide)
  have hst := takeRestart_station s
  cases i <;>
    simp only [State.conditions, PerFlag.get, State.freshExhausted, State.windLost, State.configAbsent,
      State.validConfig, hsupply, hfor, hline, hwind, haccount, hst]
  · exact absurd rfl hf
  · exact absurd rfl hd

/-- Settles O47. -/
theorem restartClears : Obligations.RestartClears := by
  unfold Obligations.RestartClears
  intro s hs hm hfree
  have heff : effectOf .restart s = takeCommand 7 restartWith s := rfl
  refine ⟨fun hop => ?_, fun hop => ?_⟩
  · exact exec_of_answer hs hm hfree heff (if_neg (by show ¬ s.operational = true; rw [hop]; exact nofun))
  · let d := dropMessage s
    let v := enterListenAgain d.restarting
    let u := takeRestart d
    have hexec := exec_of_work (t := u) (a := PanelAnswer.of 7 .accepted []) hm hfree heff
      (if_pos (by exact hop))
    have hr : Restarted v u := takeRestart_restarted d
    have honly : onlyChanges _ d u := takeRestart_only d
    have hlast : onlyChanges _ v u := restartCannon_only v
    have hst : u.station = _ := takeRestart_station d
    obtain ⟨w, hcannon⟩ := enterListenAgain_cannon d
    obtain ⟨timer, hclaim⟩ := enterListenAgain_claim d
    obtain ⟨start, hforecast⟩ := enterListenAgain_forecast d
    obtain ⟨hchain, hstate, hprimed, hbranch, hcharge, hbearing⟩ := unchained_keeps d.sec d.cannon
    have hqueue : v.queue = _ := (enterListenAgain_queue d).trans (clearBlocks_queue d)
    have hline : u.line = _ := hr.line.trans (enterListenAgain_line d)
    have hwind : u.wind = _ := (hlast .wind (by decide)).trans (enterListenAgain_wind d)
    have hface : u.face = _ := (hlast .face (by decide)).trans (enterListenAgain_face d)
    have hdust : u.dust = _ := (hlast .dust (by decide)).trans (enterListenAgain_dust d)
    have hfor : u.forecast = _ := (hlast .forecast (by decide)).trans hforecast
    have hlock : v.lockout = s.lockout :=
      (enterListenAgain_only _ .lockout (by decide)).trans (clearBlocks_only d .lockout (by decide))
    have hpeers : u.peers.entries = [] := takeRestart_entries d
    have halarms : u.alarms = s.alarms :=
      (hlast .alarms (by decide)).trans ((enterListenAgain_only _ .alarms (by decide)).trans (clearBlocks_alarms d))
    let z := u.onPanel fun p => { p with answer := some (PanelAnswer.of 7 .accepted []) }
    have hnot : z.station.mode ≠ .run := by show u.station.mode ≠ .run; rw [hst]; exact nofun
    have hclose : (closeArrival s z).line = { u.line with left := false } :=
      congrArg State.line (closeStatus_of_idle (s0 := s) (s := syncAlarms z) hnot)
    have hsec : z.sec = s.sec := congrArg (fun n : Nat => n / 1000) (honly .now (by decide))
    have hfault : u.cannon.state ≠ .fault := by
      by_cases hl : s.lockout.locks = []
      · rw [(hr.free (by rw [hlock]; exact hl)).1]; exact nofun
      · rw [(hr.locked (by rw [hlock]; exact hl)).1]; exact nofun
    refine ⟨_, hexec, ?_⟩
    rw [closeArrival_now, closeArrival_station, closeArrival_wind, closeArrival_forecast, closeArrival_look,
      closeArrival_face, closeArrival_queue, closeArrival_cannon, closeArrival_claim, closeArrival_account,
      closeArrival_dust, closeArrival_peers, closeArrival_lockout, closeArrival_store,
      closeArrival_pending, closeArrival_pins, hclose]
    change _ ∧ u.station.mode = _ ∧ u.station.cause = _ ∧ u.station.lastReset = _ ∧ u.station.node = _
      ∧ u.station.stored = _ ∧ u.station.config = _ ∧ u.station.listen = _ ∧ u.queue.entries = _
      ∧ (∀ f, u.queue.holds.get f = _) ∧ u.queue.lastRemoval = _ ∧ (_ → u.cannon.state = _ ∧ u.queue.request = _
      ∧ u.cannon.branchOpen = _) ∧ (_ → u.cannon.state = _ ∧ u.queue.request = _) ∧ u.cannon.chain = _
      ∧ u.cannon.valveOpen = _ ∧ u.cannon.drive = _ ∧ u.cannon.noFlowCount = _ ∧ _
    rw [hst]
    refine ⟨?_, rfl, rfl, rfl, rfl, rfl, rfl, rfl, ?_, fun f => ?_, ?_, fun hl => ?_, fun hl => ?_, ?_, hr.valve, hr.drive,
      hr.count, fun ch hch => ?_, fun hnone => ⟨?_, ?_⟩, ?_, ?_, ?_, ?_, ?_, fun hlater => ⟨?_, ?_⟩, fun i hi => ?_, ?_, ?_,
      ?_, ?_, ?_, ?_, ?_, ?_, ?_, ?_, ?_, ?_, ?_, ?_, ?_, ?_, ?_, ?_, ?_, ?_, ?_, ?_, ?_, ?_, ?_, ?_, ?_, ?_, ?_⟩
    · rw [answered_panel (honly .panel (by decide))]
      rfl
    · rw [hr.entries, hqueue]
      rfl
    · rw [hr.holds, hqueue]
      exact PerFace.get_const Timer.stopped f
    · rw [hr.removal, hqueue]
      rfl
    · obtain ⟨h1, h2, h3, _⟩ := hr.free (by rw [hlock]; exact hl)
      exact ⟨h1, h2, h3⟩
    · obtain ⟨h1, h2, _⟩ := hr.locked (by rw [hlock]; exact hl)
      exact ⟨h1, h2⟩
    · rw [hr.chain, hcannon]
      exact hchain
    · exact endedBy_congr (takeRestart_endedBy d hch) rfl rfl rfl rfl
        (congrArg Cannon.log (closeArrival_cannon s z)) (congrArg Cannon.nextSerial (closeArrival_cannon s z))
        (congrArg SprayQueue.rotation (closeArrival_queue s z))
    · show u.cannon.log = _
      rw [hr.log, hcannon, Cannon.unchained, show d.cannon.chain = none from hnone]
      rfl
    · show u.queue.rotation = _
      rw [hr.rotation, hqueue, show d.cannon.chain = none from hnone]
      rfl
    · show u.cannon.primed = (d.cannon.primed && decide (d.cannon.state ≠ .priming) &&
        (d.cannon.branchOpen || !d.lockout.locks.isEmpty))
      have hnp : (!decide (d.cannon.state = .priming)) = decide (d.cannon.state ≠ .priming) := by simp
      by_cases hl : s.lockout.locks = []
      · rw [(hr.free (by rw [hlock]; exact hl)).2.2.2, hcannon, show d.lockout.locks = [] from hl, ← hnp]
        show (_ && !decide ((d.cannon.unchained d.sec).state = .priming) && _) = _
        rw [hstate, hprimed, hbranch]
        simp
      · rw [(hr.locked (by rw [hlock]; exact hl)).2.2, hcannon, ← hnp]
        show (_ && !decide ((d.cannon.unchained d.sec).state = .priming)) = _
        rw [hstate, hprimed, show d.lockout.locks.isEmpty = false from List.isEmpty_eq_false_iff.2 hl]
        simp
    · show u.cannon.chargeFace = _
      rw [hr.charge, hcannon]
      exact hcharge
    · show u.cannon.bearing = _
      rw [hr.bearing, hcannon]
      exact hbearing
    · show u.claim.own.state = _
      rw [hr.claim, hclaim]
      rfl
    · show u.claim.own.nextSerial = _
      rw [hr.claim, hclaim]
      rfl
    · show u.claim.supply = _
      rw [hr.claim, (enterListenAgain_of_later d hlater).1]
      rfl
    · show u.forecast = _
      rw [hlast .forecast (by decide), (enterListenAgain_of_later d hlater).2]
      rfl
    · have hi' : i ≠ .cannonFault ∧ i ≠ .duplicateNode := by simpa using hi
      refine closeArrival_flag (hs.1 hm) (congrArg (fun a : Alarms => a.flags.get i) halarms) ?_
      exact takeRestart_conditions d hi'.1 hi'.2
    · refine (closeArrival_follow s z (i := .cannonFault) rfl).trans ?_
      rw [hsec, show z.alarms = s.alarms from halarms, show z.conditions.get .cannonFault = false from decide_eq_false hfault]
      rfl
    · refine (closeArrival_follow s z (i := .duplicateNode) rfl).trans ?_
      rw [hsec, show z.alarms = s.alarms from halarms,
        show z.conditions.get .duplicateNode = false from (congrArg Line.duplicate hline).trans rfl]
      rfl
    · show u.line.isolated = _
      rw [hline]
      rfl
    · show u.line.isolation = _
      rw [hline]
      rfl
    · exact honly .account (by decide)
    · exact hpeers
    · show u.line.queue = _
      rw [hline]
      rfl
    · show u.line.access = _
      rw [hline]
      rfl
    · show u.line.duplicate = _
      rw [hline]
    · exact congrArg Dust.window hdust
    · exact congrArg Dust.mean hdust
    · exact congrArg Dust.level hdust
    · exact congrArg Dust.count hdust
    · exact congrArg Dust.cover hdust
    · exact congrArg Dust.answers hdust
    · exact congrArg Dust.announce hdust
    · exact (congrArg Dust.nextSerial hdust :)
    · exact congrArg Wind.acc hwind
    · exact (congrArg Wind.record hwind :)
    · exact congrArg Wind.minute hwind
    · exact congrArg FaceUnit.timer hface
    · exact (congrArg FaceUnit.records hface :)
    · exact honly .look (by decide)
    · exact (congrArg Forecast.slots hfor :)
    · exact honly .lockout (by decide)
    · exact honly .store (by decide)
    · exact honly .pins (by decide)
    · exact honly .now (by decide)
    · exact honly .pending (by decide)

end Sys2Proof.Machine
end


section
/-! PROOFS. The ends of COMMISSION and of LISTEN (O48). -/

namespace Sys2Proof.Machine

/-! ### Offers in a row -/

/-- All that an offer can make of the queue (R154, R155). -/
theorem offer_cases (sec : Nat) (c : Content) (l : Line) :
    (∃ pre f post, l.queue = pre ++ f :: post ∧ replacedBy c f
        ∧ (l.offer sec c).1 = { l with queue := pre ++ { f with content := c } :: post })
      ∨ (l.queue.length < 8 ∧ ∃ a, (l.offer sec c).1 = { l with queue := l.queue ++ [TxFrame.fresh sec c], access := a })
      ∨ (8 ≤ l.queue.length ∧ ∃ pre f post, l.queue = pre ++ f :: post
          ∧ (l.offer sec c).1 =
            { l with queue := pre ++ post ++ [TxFrame.fresh sec c], due := true, refused := true })
      ∨ (8 ≤ l.queue.length ∧ (l.offer sec c).1 = l) := by
  by_cases hrep : ∃ f ∈ l.queue, TxFrame.replacedBy c f = true
  · obtain ⟨pre, f, post, hq, hf, hpre⟩ := findIdx?_split hrep
    have hf' := (replacedBy_iff c f).mp hf
    refine .inl ⟨pre, f, post, hq, hf', ?_⟩
    rw [offer_replaces hq hf' fun g hg h => Bool.eq_false_iff.mp (hpre g hg) ((replacedBy_iff c g).mpr h)]
  · have hnone : ∀ f ∈ l.queue, ¬ replacedBy c f := fun f hf h => hrep ⟨f, hf, (replacedBy_iff c f).mpr h⟩
    by_cases hroom : l.queue.length < 8
    · exact .inr (.inl ⟨hroom, _, by rw [offer_appends hnone hroom]⟩)
    · have hfull := Nat.le_of_not_lt hroom
      by_cases hev : c.urgent = true ∧ ∃ f ∈ l.queue, f.waitingStatus = true
      · obtain ⟨pre, f, post, hq, hf, hpre⟩ := findIdx?_split hev.2
        refine .inr (.inr (.inl ⟨hfull, pre, f, post, hq, ?_⟩))
        rw [offer_evicts hnone hfull hev.1 hq ((waitingStatus_iff f).mp hf)
          fun g hg h => Bool.eq_false_iff.mp (hpre g hg) ((waitingStatus_iff g).mpr h)]
      · refine .inr (.inr (.inr ⟨hfull, ?_⟩))
        rw [offer_refuses hnone hfull ?_]
        by_cases hu : c.urgent = true
        · exact .inr fun f hf h => hev ⟨hu, f, hf, (waitingStatus_iff f).mpr h⟩
        · exact .inl (Bool.eq_false_iff.mpr hu)

/-- A STATUS stands in the queue. -/
def Line.hasStatus (l : Line) : Prop := ∃ f c, f ∈ l.queue ∧ f.content = .status c

/-- A STATUS stands in the queue, or it is due after a refusal or an eviction of a full queue (R155, R161). -/
def Line.owesStatus (l : Line) : Prop := l.hasStatus ∨ (l.due = true ∧ l.refused = true ∧ 8 ≤ l.queue.length)

/-- A CLAIM stands in the queue. -/
def Line.hasClaim (l : Line) : Prop := ∃ f serial cls flow wait, f ∈ l.queue ∧ f.content = .claim serial cls flow wait

/-- A frame in whose place another content comes is a STATUS only where the content is one. -/
theorem hasStatus_replaced {c : Content} {f : TxFrame} {l m : Line} {pre post : List TxFrame} (hf : replacedBy c f)
    (hq : l.queue = pre ++ f :: post) (hm : m.queue = pre ++ { f with content := c } :: post) (h : l.hasStatus) :
    m.hasStatus := by
  obtain ⟨g, a, hg, ha⟩ := h
  rw [hq] at hg
  rcases List.mem_append.mp hg with hg | hg
  · exact ⟨g, a, hm ▸ List.mem_append_left _ hg, ha⟩
  · rcases List.mem_cons.mp hg with rfl | hg
    · obtain ⟨-, hk⟩ := hf
      rw [ha] at hk
      cases c with
      | status b => exact ⟨_, b, hm ▸ List.mem_append_right _ List.mem_cons_self, rfl⟩
      | _ => exact hk.elim
    · exact ⟨g, a, hm ▸ List.mem_append_right _ (List.mem_cons_of_mem _ hg), ha⟩

theorem hasStatus_append {l m : Line} {q : List TxFrame} (hm : m.queue = l.queue ++ q) (h : l.hasStatus) :
    m.hasStatus := by
  obtain ⟨f, a, hf, ha⟩ := h
  exact ⟨f, a, hm ▸ List.mem_append_left _ hf, ha⟩

/-- An offer evicts a STATUS from a full queue alone. -/
theorem offer_hasStatus (sec : Nat) (c : Content) {l : Line} (hroom : l.queue.length < 8) (h : l.hasStatus) :
    (l.offer sec c).1.hasStatus ∧ (l.offer sec c).1.queue.length ≤ l.queue.length + 1 := by
  rcases offer_cases sec c l with ⟨pre, f, post, hq, hf, ho⟩ | ⟨_, a, ho⟩ | ⟨hfull, _⟩ | ⟨hfull, _⟩
  · rw [ho]
    refine ⟨hasStatus_replaced hf hq rfl h, ?_⟩
    rw [hq]
    simp
  · rw [ho]
    exact ⟨hasStatus_append rfl h, by simp⟩
  · omega
  · omega

/-- A STATUS that an offer displaces is due. -/
theorem offer_owesStatus (sec : Nat) (c : Content) {l : Line} (h : l.owesStatus) : (l.offer sec c).1.owesStatus := by
  rcases offer_cases sec c l with ⟨pre, f, post, hq, hf, ho⟩ | ⟨hroom, a, ho⟩ | ⟨hfull, pre, f, post, hq, ho⟩ | ⟨_, ho⟩ <;>
    rw [ho]
  · rcases h with h | ⟨hd, hr, hl⟩
    · exact .inl (hasStatus_replaced hf hq rfl h)
    · refine .inr ⟨hd, hr, ?_⟩
      rw [hq] at hl
      simpa using hl
  · exact .inl (hasStatus_append rfl (h.resolve_right fun ⟨_, _, hl⟩ => by omega))
  · refine .inr ⟨rfl, rfl, ?_⟩
    rw [hq] at hfull
    simp at hfull ⊢
    omega
  · exact h

/-- The contents other than a CLAIM leave the queue without one. -/
theorem offer_hasClaim {sec : Nat} {c : Content} (hc : ∀ serial cls flow wait, c ≠ .claim serial cls flow wait) {l : Line}
    (h : (l.offer sec c).1.hasClaim) : l.hasClaim := by
  obtain ⟨g, k, cls, flow, wait, hg, ha⟩ := h
  have hfresh : ∀ f : TxFrame, f.content = c → g ≠ f := fun f hf he => hc k cls flow wait (hf.symm.trans (he ▸ ha))
  rcases offer_cases sec c l with ⟨pre, f, post, hq, _, ho⟩ | ⟨_, a, ho⟩ | ⟨_, pre, f, post, hq, ho⟩ | ⟨_, ho⟩ <;>
    rw [ho] at hg <;> refine ⟨g, k, cls, flow, wait, ?_, ha⟩
  · rw [hq]
    rcases List.mem_append.mp hg with hg | hg
    · exact List.mem_append_left _ hg
    · rcases List.mem_cons.mp hg with rfl | hg
      · exact absurd rfl (hfresh _ rfl)
      · exact List.mem_append_right _ (List.mem_cons_of_mem _ hg)
  · rcases List.mem_append.mp hg with hg | hg
    · exact hg
    · exact absurd (List.mem_singleton.mp hg) (hfresh _ rfl)
  · rw [hq]
    rcases List.mem_append.mp hg with hg | hg
    · rcases List.mem_append.mp hg with hg | hg
      · exact List.mem_append_left _ hg
      · exact List.mem_append_right _ (List.mem_cons_of_mem _ hg)
    · exact absurd (List.mem_singleton.mp hg) (hfresh _ rfl)
  · exact hg

/-- The line after contents have been offered one after the other. -/
def Line.offered (sec : Nat) (cs : List Content) (l : Line) : Line := cs.foldl (fun l c => (l.offer sec c).1) l

theorem offered_owesStatus (sec : Nat) (cs : List Content) {l : Line} (h : l.owesStatus) :
    (l.offered sec cs).owesStatus := by
  induction cs generalizing l with
  | nil => exact h
  | cons c cs ih => exact ih (offer_owesStatus sec c h)

theorem offered_hasStatus (sec : Nat) (cs : List Content) {l : Line} (hroom : l.queue.length + cs.length ≤ 8)
    (h : l.hasStatus) :
    (l.offered sec cs).hasStatus ∧ (l.offered sec cs).queue.length ≤ l.queue.length + cs.length := by
  induction cs generalizing l with
  | nil => exact ⟨h, Nat.le_refl _⟩
  | cons c cs ih =>
    rw [List.length_cons] at hroom ⊢
    obtain ⟨h1, hlen⟩ := offer_hasStatus sec c (by omega) h
    obtain ⟨h2, hlen2⟩ := ih (by omega) h1
    exact ⟨h2, Nat.le_trans hlen2 (by omega)⟩

theorem offered_hasClaim {sec : Nat} {cs : List Content}
    (hcs : ∀ c ∈ cs, ∀ serial cls flow wait, c ≠ .claim serial cls flow wait) {l : Line}
    (h : (l.offered sec cs).hasClaim) : l.hasClaim := by
  induction cs generalizing l with
  | nil => exact h
  | cons c cs ih =>
    exact offer_hasClaim (hcs c List.mem_cons_self) (ih (fun d hd => hcs d (List.mem_cons_of_mem _ hd)) h)

/-! ### The line at the entry into RUN -/

theorem retryAnswer_line {s : State} (hrun : s.station.mode = .run) (a : PendingAnswer) :
    (retryAnswer s a).line = (s.line.offer s.sec a.content).1 := by
  unfold retryAnswer
  rw [lineOffer_of_run hrun]
  simp only
  split <;> rfl

theorem foldl_retryAnswer_line {s : State} (hrun : s.station.mode = .run) (as : List PendingAnswer) :
    (as.foldl retryAnswer s).line = s.line.offered s.sec (as.map PendingAnswer.content) := by
  induction as generalizing s with
  | nil => rfl
  | cons a as ih =>
    have honly := retryAnswer_only s a
    have hst : (retryAnswer s a).station = s.station := honly .station (by decide)
    have hnow : (retryAnswer s a).now = s.now := honly .now (by decide)
    rw [List.foldl_cons, ih (by rw [hst]; exact hrun), retryAnswer_line hrun, State.sec, hnow]
    rfl

/-- The retries of the Dust Watch Unit are offers of what it holds, in its order. -/
theorem retryDust_line {s : State} (hrun : s.station.mode = .run) :
    (retryDust s).line = s.line.offered s.sec s.heldContents := by
  unfold retryDust
  cases hheld : s.noticeHeld with
  | false =>
    rw [retryNotice_of_free hheld, retryAnswers_of_run hrun, foldl_retryAnswer_line hrun, State.heldContents, hheld]
    rfl
  | true =>
    have honly := announceNotice_only s
    have hst : (announceNotice s).station = s.station := honly .station (by decide)
    have hnow : (announceNotice s).now = s.now := honly .now (by decide)
    have hrun' : (announceNotice s).station.mode = .run := by rw [hst]; exact hrun
    have hann : (announceNotice s).line = (s.line.offer s.sec s.plumeContent).1
        ∧ (announceNotice s).dust.answers = s.dust.answers := by
      unfold announceNotice
      rw [lineOffer_of_run hrun]
      exact ⟨rfl, rfl⟩
    rw [retryNotice_of_held hrun hheld, retryAnswers_of_run hrun', foldl_retryAnswer_line hrun', hann.1, hann.2,
      State.sec, hnow, State.heldContents, hheld]
    rfl

theorem heldContents_not_claim {s : State} {c : Content} (h : c ∈ s.heldContents) (serial : Nat) (cls : DemandClass)
    (flow wait : Nat) : c ≠ .claim serial cls flow wait := by
  rintro rfl
  exact absurd (heldContents_originator h) nofun

theorem heldContents_length_le (s : State) : s.heldContents.length ≤ s.dust.answers.length + 1 := by
  unfold State.heldContents
  rw [List.length_append, List.length_map]
  split <;> (simp only [List.length_singleton, List.length_nil]; omega)

/-- A selection leaves the line, or offers the CLAIM of the claim that it asks for. -/
theorem trySelection_line {s : State} (hrun : s.station.mode = .run) :
    (trySelection s).line = s.line
      ∨ ∃ serial cls flow wait, (trySelection s).line = (s.line.offer s.sec (.claim serial cls flow wait)).1 := by
  have hask : ∀ (c : DemandClass) (b : Nat) (u : State), u.station = s.station → u.line = s.line → u.now = s.now →
      (askClaim c b u).line = s.line
        ∨ ∃ serial cls flow wait, (askClaim c b u).line = (s.line.offer s.sec (.claim serial cls flow wait)).1 := by
    intro c b u hst hl hn
    unfold askClaim
    split
    · refine .inr ?_
      simp only [announceClaim_line]
      rw [lineOffer_of_run (by exact hst ▸ hrun), claimContent_eq]
      have hsec : u.sec = s.sec := congrArg (fun n : Nat => n / 1000) hn
      exact ⟨_, _, _, _, by rw [← hl, ← hsec]; rfl⟩
    · exact .inl hl
  have hclaim : ∀ (ch : Chain) (u : State), u.station = s.station → u.line = s.line → u.now = s.now →
      (enterClaiming ch u).line = s.line
        ∨ ∃ serial cls flow wait, (enterClaiming ch u).line = (s.line.offer s.sec (.claim serial cls flow wait)).1 := by
    intro ch u hst hl hn
    cases hcut : u.cutOut with
    | true => exact .inl (by rw [enterClaiming_of_cutOut hcut]; exact hl)
    | false =>
      rw [enterClaiming_of_calm hcut]
      exact hask ch.cls ch.basis _ hst hl hn
  unfold trySelection
  split
  · split
    · rename_i e _
      rw [startChain_eq]
      split
      · split
        · unfold enterSlewing
          simp only
          split
          · exact hclaim _ _ rfl rfl rfl
          · exact .inl rfl
        · exact .inl rfl
      · exact .inl rfl
      · exact .inl rfl
    · exact .inl rfl
  · exact .inl rfl

/-! ### STATUS at the end of the arrival -/

theorem offerStatus_owesStatus {s : State} (hrun : s.station.mode = .run) : (offerStatus s).line.owesStatus := by
  by_cases h : s.line.takesStatus
  · obtain ⟨f, hf, hc⟩ := (offerStatus_taken hrun h).queued
    exact .inl ⟨f, _, hf, hc⟩
  · rw [offerStatus_refused hrun h]
    exact .inr ⟨rfl, rfl, Nat.le_of_not_lt fun hl => h (.inl hl)⟩

theorem offerStatus_hasStatus {s : State} (hrun : s.station.mode = .run) (h : s.line.hasStatus) :
    (offerStatus s).line.hasStatus := by
  by_cases ht : s.line.takesStatus
  · obtain ⟨f, hf, hc⟩ := (offerStatus_taken hrun ht).queued
    exact ⟨f, _, hf, hc⟩
  · rw [offerStatus_refused hrun ht]
    exact h

/-- What holds of a line where STATUS is offered or due holds at the end of an arrival in RUN. -/
theorem closeStatus_line_of {p : Line → Prop} (s0 : State) {s : State} (hrun : s.station.mode = .run)
    (hoffer : ∀ u : State, u.station.mode = .run → p u.line → p (offerStatus u).line)
    (hdue : ∀ l, p l → p { l with due := true }) (hleft : ∀ l, p l → p { l with left := false })
    (h : p s.line) : p (closeStatus s0 s).line := by
  have hmode : ∀ u : State, u.station.mode = .run → (offerStatus u).station.mode = .run := fun u hu => by
    have : (offerStatus u).station = u.station := offerStatus_only u .station (by decide)
    rw [this]
    exact hu
  have hretry : ∀ u : State, u.station.mode = .run → p u.line → p (clearLeft (statusRetry u)).line := by
    intro u hu hp
    unfold statusRetry
    split
    · exact hleft _ (hoffer u hu hp)
    · exact hleft _ hp
  unfold closeStatus
  rw [if_pos (by simpa [State.inRun] using hrun)]
  simp only
  split
  · exact hretry s hrun h
  · unfold statusOnChange
    split
    · exact hretry _ hrun (hdue _ h)
    · exact hretry _ (hmode s hrun) (hoffer s hrun h)

theorem closeArrival_owesStatus (s0 : State) {s : State} (hrun : s.station.mode = .run) (h : s.line.owesStatus) :
    (closeArrival s0 s).line.owesStatus :=
  closeStatus_line_of (p := Line.owesStatus) s0 (s := syncAlarms s) hrun (fun _ hu _ => offerStatus_owesStatus hu)
    (fun _ hl => hl.imp id fun ⟨_, hr, hn⟩ => ⟨rfl, hr, hn⟩) (fun _ hl => hl) h

theorem closeArrival_hasStatus (s0 : State) {s : State} (hrun : s.station.mode = .run) (h : s.line.hasStatus) :
    (closeArrival s0 s).line.hasStatus :=
  closeStatus_line_of (p := Line.hasStatus) s0 (s := syncAlarms s) hrun (fun _ hu => offerStatus_hasStatus hu)
    (fun _ hl => hl) (fun _ hl => hl) h

/-! ### The request in two states that differ in the line and the Dust Watch Unit -/

/-- What a selection reads is the same in two states. -/
structure SameRequest (s t : State) : Prop where
  now : t.now = s.now
  config : t.station.config = s.station.config
  queue : t.queue = s.queue
  cannon : t.cannon = s.cannon
  claim : t.claim = s.claim
  account : t.account = s.account
  lockout : t.lockout = s.lockout

theorem SameRequest.choose {s t : State} (h : SameRequest s t) : t.choose = s.choose := by
  have hcfg : t.cfg = s.cfg := by rw [State.cfg, h.config, State.cfg]
  have hgate : t.gate = s.gate := by
    unfold State.gate
    rw [h.claim, h.account, hcfg]
  have hcand : t.candidate = s.candidate := by
    funext e
    unfold State.candidate State.held
    rw [hgate, h.queue]
  unfold State.choose State.faceOrder
  rw [hcand, hcfg, h.queue]

theorem SameRequest.tried {s v t : State} (h : SameRequest s v) (ht : requestTried v t) : requestTried s t := by
  have hcfg : v.cfg = s.cfg := by rw [State.cfg, h.config, State.cfg]
  unfold requestTried chainFormed chainWaits at *
  rw [h.choose, h.queue, h.cannon, h.claim, h.lockout, hcfg, State.sec, h.now] at ht
  exact ht

/-! ### The entry into RUN -/

section Run

variable {s : State}

/-- The first frame of an empty queue is the STATUS offered. -/
theorem offerStatus_of_empty (hrun : s.station.mode = .run) (hq : s.line.queue = []) :
    (offerStatus s).line.queue = [TxFrame.fresh s.sec (buildStatus s)] := by
  have hnone : ∀ f ∈ s.line.queue, ¬ replacedBy (buildStatus s) f := fun f hf =>
    absurd hf (by rw [hq]; exact List.not_mem_nil)
  unfold offerStatus
  rw [lineOffer_of_run hrun, offer_appends hnone (by rw [hq]; decide)]
  show s.line.queue ++ _ = _
  rw [hq]
  rfl

/-- A selection appends its CLAIM to the URGENT frames, or none, where no CLAIM waits. -/
theorem trySelection_urgents (hrun : s.station.mode = .run) (hno : ¬ s.line.hasClaim) :
    ∃ rest, (trySelection s).line.urgents = s.line.urgents ++ rest
      ∧ (rest = [] ∨ ∃ f serial cls flow wait, rest = [f] ∧ f.content = .claim serial cls flow wait) := by
  rcases trySelection_line hrun with h | ⟨serial, cls, flow, wait, h⟩ <;> rw [h]
  · exact ⟨[], (List.append_nil _).symm, .inl rfl⟩
  · have hnone : ∀ f ∈ s.line.queue, ¬ replacedBy (.claim serial cls flow wait) f := by
      intro f hf hr
      obtain ⟨-, hk⟩ := hr
      cases hc : f.content with
      | claim k c q w => exact hno ⟨f, k, c, q, w, hf, hc⟩
      | _ =>
        rw [hc] at hk
        exact hk.elim
    rcases offer_urgent (c := .claim serial cls flow wait) rfl hnone s.sec with ⟨m, hm, hp⟩ | ⟨-, hm⟩ <;> rw [hm]
    · exact ⟨_, hp.urgents, .inr ⟨_, serial, cls, flow, wait, rfl, rfl⟩⟩
    · exact ⟨[], (List.append_nil _).symm, .inl rfl⟩

theorem trySelection_owesStatus (hrun : s.station.mode = .run) (h : s.line.owesStatus) :
    (trySelection s).line.owesStatus := by
  rcases trySelection_line hrun with hl | ⟨serial, cls, flow, wait, hl⟩ <;> rw [hl]
  · exact h
  · exact offer_owesStatus _ _ h

theorem trySelection_hasStatus (hrun : s.station.mode = .run) (hroom : s.line.queue.length < 8) (h : s.line.hasStatus) :
    (trySelection s).line.hasStatus := by
  rcases trySelection_line hrun with hl | ⟨serial, cls, flow, wait, hl⟩ <;> rw [hl]
  · exact h
  · exact (offer_hasStatus _ _ hroom h).1

end Run

/-- The station of the entry into RUN, before its offers. -/
def State.running (s : State) : State := s.onStation fun t => { t with mode := .run, listen := .stopped }

theorem enterRun_eq (s : State) : enterRun s = trySelection (retryDust (offerStatus s.running)) := rfl

/-- The offers of the entry into RUN, up to its selection. -/
def State.reported (s : State) : State := retryDust (offerStatus s.running)

theorem reported_only (s : State) : onlyChanges [.dust, .line] s.running s.reported :=
  only_trans (only_mono (offerStatus_only _) (by decide)) (retryDust_only _)

theorem reported_same (s : State) : SameRequest s s.reported := by
  have h := reported_only s
  exact ⟨h .now (by decide),
    (congrArg Station.config (h .station (by decide) : s.reported.station = s.running.station) :),
    h .queue (by decide), h .cannon (by decide), h .claim (by decide), h .account (by decide), h .lockout (by decide)⟩

/-- The commands that end COMMISSION (R181). -/
theorem endCommission_effect {c : Instr} {due : Nat} {s : State} (hm : s.station.mode = .commission)
    (hc : c = .commissioningKeyRelease ∨ (c = .commissioningWindowExpiry ∧ s.station.window = .running due ∧ due ≤ s.now)) :
    ∃ pins, effectOf c s = endCommission (s.setPins pins) := by
  rcases hc with rfl | ⟨rfl, hw, hdue⟩
  · exact ⟨_, if_pos hm⟩
  · refine ⟨s.pins, ?_⟩
    show takeWindowExpiry s = _
    unfold takeWindowExpiry
    rw [hw, isDue_running hdue, if_pos rfl, if_pos hm]
    rfl

/-- Settles O48. -/
theorem stationStates : Obligations.StationStates := by
  unfold Obligations.StationStates
  intro s hs
  refine ⟨fun c due hc hm => ?_, fun hm => ?_, fun due hm hlisten hdue hq => ?_⟩
  · have hord : Instr.ordinary c := by rcases hc with rfl | ⟨rfl, -⟩ <;> exact nofun
    have hstart : s.station.mode ≠ .start := by rw [hm]; exact nofun
    obtain ⟨pins, heff⟩ := endCommission_effect hm hc
    let p := s.setPins pins
    cases hst : s.station.stored with
    | none =>
      have hend : effectOf c s = p.onStation fun t => { t with mode := .unconfigured, window := .stopped } :=
        heff.trans (if_neg (by show ¬ s.station.stored.isSome = true; rw [hst]; exact nofun))
      refine ⟨_, exec_of_same hs hstart hend rfl rfl rfl rfl rfl hord, rfl, hst, fun _ => ⟨rfl, ?_⟩,
        fun cfg h => (by cases h), ?_⟩
      all_goals
        exact only_trans (only_mono (setPins_only s pins) (by decide)) (only_mono (onStation_only p _) (by decide))
    | some cfg =>
      have hend : effectOf c s = enterListenFresh p :=
        heff.trans (if_pos (by show s.station.stored.isSome = true; rw [hst]; rfl))
      have hstation : (enterListenFresh p).station = _ := enterListenFresh_station p
      have honly : onlyChanges (.pins :: .alarms :: freshListen) s (closeArrival s (enterListenFresh p)) :=
        close_only (only_trans (only_mono (setPins_only s pins) (by decide))
          (only_mono (enterListenFresh_only p) (by decide)))
      refine ⟨_, exec_eq hstart hend hord, ?_, ?_, fun h => (by cases h), fun cfg' h => ⟨?_, ?_, ?_, ?_, fun hfirst => ?_⟩,
        only_mono honly (by decide)⟩
      · rw [closeArrival_station, hstation]
        rfl
      · rw [closeArrival_station, hstation]
        exact hst
      · rw [closeArrival_station, hstation, ← h]
        exact hst
      · exact honly .now (by decide)
      · exact listenStarted_close s (enterListenFresh_started p)
      · exact recordsFormed_close s (enterListenFresh_formed (by rw [← h]; exact hst))
      · exact firstListenStarted_close s (enterListenFresh_first (s := p) hfirst)
  · by_cases hstart : s.station.mode = .start
    · exact exec_start (c := .commissioningKeyRelease) nofun hstart
    · exact exec_of_same hs hstart (if_neg hm : takeKeyRelease s = s) rfl rfl rfl rfl rfl
  · have hstart : s.station.mode ≠ .start := by rw [hm]; exact nofun
    let r := s.running
    let v := s.reported
    let t := trySelection v
    have hrun : r.station.mode = .run := rfl
    have hvonly := reported_only s
    have hvrun : v.station.mode = .run := congrArg Station.mode (hvonly .station (by decide))
    have htonly := trySelection_only v
    have htst : t.station = r.station := (htonly .station (by decide)).trans (hvonly .station (by decide))
    have htrun : t.station.mode = .run := congrArg Station.mode htst
    have heff : effectOf .listenTimerExpiry s = t := by
      show takeListenTimer s = _
      unfold takeListenTimer
      rw [hlisten, isDue_running hdue, if_pos rfl, if_pos hm]
      rfl
    let w := offerStatus r
    have hwrun : w.station.mode = .run := congrArg Station.mode (offerStatus_only r .station (by decide))
    have hwdust : w.dust = s.dust := offerStatus_only r .dust (by decide)
    have hwq : w.line.queue = [TxFrame.fresh s.sec (buildStatus r)] := offerStatus_of_empty hrun hq
    have hwstatus : w.line.hasStatus := ⟨_, _, by rw [hwq]; exact List.mem_singleton.mpr rfl, rfl⟩
    have hvline : v.line = w.line.offered w.sec w.heldContents := retryDust_line hwrun
    have hvclaim : ¬ v.line.hasClaim := by
      intro h
      rw [hvline] at h
      obtain ⟨f, k, c, q, a, hf, hc⟩ := offered_hasClaim (fun c hc => heldContents_not_claim hc) h
      rw [hwq] at hf
      rw [List.mem_singleton.mp hf] at hc
      exact absurd hc nofun
    have howes : t.line.owesStatus := trySelection_owesStatus hvrun (by
      rw [hvline]
      exact offered_owesStatus _ _ (.inl hwstatus))
    obtain ⟨rest, hrest, hform⟩ := trySelection_urgents hvrun hvclaim
    have htdust : t.dust = v.dust := htonly .dust (by decide)
    refine ⟨_, exec_eq hstart heff nofun, ?_, ?_, fun hfew => ?_, ⟨rest, ?_, hform⟩, ?_, ?_⟩
    · rw [closeArrival_station, htst]
      rfl
    · obtain ⟨f, c, hf, hc⟩ | h := closeArrival_owesStatus s htrun howes
      · exact .inl ⟨f, c, hf, hc⟩
      · exact .inr h
    · have hlen := heldContents_length_le w
      rw [hwdust] at hlen
      obtain ⟨hstatus, hle⟩ := offered_hasStatus w.sec w.heldContents (l := w.line)
        (by rw [hwq, List.length_singleton]; omega) hwstatus
      rw [← hvline, hwq, List.length_singleton] at hle
      rw [← hvline] at hstatus
      exact closeArrival_hasStatus s htrun (trySelection_hasStatus hvrun (by omega) hstatus)
    · have hretried : Retried w v := retryDust_retried hwrun
      obtain ⟨l, as, b, hv, -⟩ := hretried.form
      have hclose : (closeArrival s t).dust = v.dust := (closeArrival_dust s t).trans htdust
      have hlevel : (closeArrival s t).dust.level = w.dust.level := by rw [hclose, hv]; rfl
      have hmean : (closeArrival s t).dust.mean = w.dust.mean := by rw [hclose, hv]; rfl
      have hwcfg : w.cfg = s.cfg := by
        rw [State.cfg, show w.station = r.station from offerStatus_only r .station (by decide)]
        rfl
      have hwwind : w.wind = s.wind := offerStatus_only r .wind (by decide)
      have hwnow : w.now = s.now := offerStatus_only r .now (by decide)
      refine dustRetried_of hretried ?_ ?_ (by rw [State.sec, hwnow]; rfl) (by rw [hwdust]) ?_ (fun _ => ?_) hclose ?_
      · rw [Line.firm, hwq]
        exact Nat.zero_le _
      · rw [Line.urgents, Line.urgents, hwq, hq]
        rfl
      · rw [hlevel, State.noticeHeld, hwdust]
      · rw [hmean, State.plumeContent, hwcfg, hwwind, hwdust]
      · exact (closeArrival_line s t).1.trans hrest
    · exact (reported_same s).tried (requestTried_congr (trySelection_tried hvrun) (closeArrival_cannon s t)
        (closeArrival_queue s t) (closeArrival_claim s t))
    · have honly : onlyChanges [.dust, .queue, .cannon, .claim, .line, .free] r t :=
        only_trans (only_mono hvonly (by decide)) (only_mono htonly (by decide))
      have hsync : syncAlarms r = r := syncAlarms_same (hs.1 hstart) rfl rfl rfl
      have hconds : t.conditions = r.conditions := by
        refine (trySelection_conditions v).trans ?_
        have hvreports : SameReports r v := .after (retryDust_reports w) (offerStatus_reports r)
        refine hvreports.conditions ?_ (hvonly .station (by decide)) (hvonly .account (by decide))
          (hvonly .wind (by decide)) (hvonly .forecast (by decide))
        rw [show v.cannon = r.cannon from hvonly .cannon (by decide)]
      exact only_trans (t := r) (only_mono (onStation_only s _) (by decide))
        (only_mono (close_only_of_conditions (s0 := s) honly hsync hconds) (by decide))

end Sys2Proof.Machine
end


section
/-! PROOFS. The minute wind record of a close, and the wind cut-out (O5). -/

namespace Sys2Proof.Machine

/-! ### The peers' reports (R6) -/

theorem lost_iff (sec : Nat) (q : Peer) : q.liveness sec = .lost ↔ 150 < sec - q.heard := by
  unfold Peer.liveness livenessOf Peer.age
  split
  · simp; omega
  split
  · simp; omega
  · simp; omega

theorem seen_wind (sec : Nat) (q : Peer) (w : WindReport) :
    (q.seen sec).wind = some w ↔ sec - q.heard ≤ 150 ∧ q.wind = some w := by
  unfold Peer.seen
  split
  · rename_i h
    rw [lost_iff] at h
    simp only [Peer.stripped]
    exact ⟨nofun, fun ⟨hle, _⟩ => by omega⟩
  · rename_i h
    rw [lost_iff, Nat.not_lt] at h
    simp [h]

/-- The report of a peer as a close reads it. -/
def windOf (q : Peer) (w : WindReport) (d : Int) : PeerWind := ⟨q.node, w.speed, w.bearing, d⟩

theorem mem_peerWinds {s : State} {v : PeerWind} :
    v ∈ peerWinds s.sec s.cfg.x s.cfg.y s.peers.entries ↔ ∃ q w d, usableWind s q w d ∧ v = windOf q w d := by
  unfold peerWinds
  rw [List.mem_filterMap]
  constructor
  · rintro ⟨q, hq, h⟩
    split at h
    · rename_i w px py hw hp
      split at h
      · obtain ⟨hheard, hwind⟩ := (seen_wind _ _ _).1 hw
        exact ⟨q, w, _, ⟨hq, hheard, hwind, ‹_›, px, py, hp, rfl⟩, (Option.some.inj h).symm⟩
      · cases h
    · cases h
  · rintro ⟨q, w, d, ⟨hq, hheard, hwind, hage, px, py, hp, rfl⟩, rfl⟩
    refine ⟨q, hq, ?_⟩
    rw [(seen_wind _ _ _).2 ⟨hheard, hwind⟩, hp]
    exact if_pos hage

theorem nearestWind_eq_none {l : List PeerWind} : nearestWind l = none ↔ l = [] := by
  cases l with
  | nil => exact ⟨fun _ => rfl, fun _ => rfl⟩
  | cons w rest =>
    refine ⟨fun h => ?_, nofun⟩
    unfold nearestWind at h
    split at h
    · cases h
    · split at h <;> cases h

/-- The report taken is one of those offered, and no other is nearer, or as near and of a lower node. -/
theorem nearestWind_least {l : List PeerWind} {v : PeerWind} (h : nearestWind l = some v) :
    v ∈ l ∧ ∀ x ∈ l, v.dist < x.dist ∨ (v.dist = x.dist ∧ v.node ≤ x.node) := by
  induction l generalizing v with
  | nil => cases h
  | cons w rest ih =>
    unfold nearestWind at h
    split at h
    · rename_i hrest
      rw [nearestWind_eq_none.1 hrest]
      cases h
      exact ⟨List.mem_singleton.2 rfl, fun x hx => by rw [List.mem_singleton.1 hx]; exact .inr ⟨rfl, Nat.le_refl _⟩⟩
    · rename_i u hu
      obtain ⟨hmem, hmin⟩ := ih hu
      split at h <;> rename_i hw <;> cases h
      · refine ⟨List.mem_cons_self, fun x hx => ?_⟩
        rcases List.mem_cons.1 hx with rfl | hx
        · exact .inr ⟨rfl, Nat.le_refl _⟩
        · have := hmin x hx
          omega
      · refine ⟨List.mem_cons_of_mem _ hmem, fun x hx => ?_⟩
        rcases List.mem_cons.1 hx with rfl | hx
        · omega
        · exact hmin x hx

theorem peerWind_of_least {s : State} {q : Peer} {w : WindReport} {d : Int} (h : usableWind s q w d)
    (hmin : ∀ q' w' d', usableWind s q' w' d' → q' = q ∨ d < d' ∨ (d = d' ∧ q.node < q'.node)) :
    s.peerWind = some (windOf q w d) := by
  have hmem : windOf q w d ∈ peerWinds s.sec s.cfg.x s.cfg.y s.peers.entries := mem_peerWinds.2 ⟨q, w, d, h, rfl⟩
  unfold State.peerWind
  cases hn : nearestWind (peerWinds s.sec s.cfg.x s.cfg.y s.peers.entries) with
  | none =>
    rw [nearestWind_eq_none.1 hn] at hmem
    cases hmem
  | some v =>
    obtain ⟨hv, hleast⟩ := nearestWind_least hn
    obtain ⟨q', w', d', hu, rfl⟩ := mem_peerWinds.1 hv
    have hle := hleast _ hmem
    simp only [windOf] at hle
    have hq : q' = q := (hmin q' w' d' hu).resolve_right (by omega)
    subst hq
    obtain ⟨-, -, hw, -, x, y, hp, rfl⟩ := h
    obtain ⟨-, -, hw', -, x', y', hp', rfl⟩ := hu
    rw [hw] at hw'
    rw [hp] at hp'
    cases hw'
    cases hp'
    rfl

theorem peerWind_of_none {s : State} (h : ∀ q w d, ¬ usableWind s q w d) : s.peerWind = none := by
  refine nearestWind_eq_none.2 (List.eq_nil_iff_forall_not_mem.2 fun v hv => ?_)
  obtain ⟨q, w, d, hu, -⟩ := mem_peerWinds.1 hv
  exact h q w d hu

/-! ### The record of a close (R4 to R9) -/

section Close

variable {sec fallback : Nat} {a : Accumulator} {peer : Option PeerWind} {r : WindRecord}

theorem closeRecord_mark :
    (closeRecord sec fallback a peer r).closeTime = some sec ∧ (closeRecord sec fallback a peer r).initial = false := by
  unfold closeRecord
  split
  · exact ⟨rfl, rfl⟩
  · exact ⟨rfl, rfl⟩
  · split <;> exact ⟨rfl, rfl⟩

theorem closeRecord_of_samples (h : 10 ≤ a.count) :
    closeRecord sec fallback a peer r =
      freshRecord sec a.count .localMinute none (a.speedSum / a.count) a.largest
        ((Int.ofNat (a.first.getD 0) + a.offsetSum.tdiv (Int.ofNat a.count)) % 360).toNat := by
  unfold closeRecord Accumulator.minute
  rw [if_pos h]

theorem closeRecord_of_peer {p : PeerWind} (h : a.count < 10) :
    closeRecord sec fallback a (some p) r =
      freshRecord sec a.count .peer (some p.node) p.speed p.speed p.bearing := by
  unfold closeRecord Accumulator.minute
  rw [if_neg (Nat.not_le.2 h)]

theorem closeRecord_of_held (h : a.count < 10) (hr : r.holdable sec = true) :
    closeRecord sec fallback a none r =
      { r with source := .held, closeTime := some sec, initial := false, sampleCount := a.count } := by
  unfold closeRecord Accumulator.minute
  rw [if_neg (Nat.not_le.2 h)]
  exact if_pos hr

theorem closeRecord_of_lost (h : a.count < 10) (hr : r.holdable sec = false) :
    closeRecord sec fallback a none r =
      { r with
        speed := fallback, gust := fallback, source := .fallback, node := none, closeTime := some sec, initial := false
        sampleCount := a.count } := by
  unfold closeRecord Accumulator.minute
  rw [if_neg (Nat.not_le.2 h)]
  exact if_neg (by simp [hr])

end Close

theorem holdable_iff (sec : Nat) (r : WindRecord) :
    r.holdable sec = true ↔ ∃ fresh, r.lastFresh = some fresh ∧ sec - fresh ≤ 600 := by
  unfold WindRecord.holdable
  cases r.lastFresh <;> simp

/-! ### The wind cut-out (R77, R86) -/

section CutOut

variable {s : State}

/-- While the wind cuts out, a selection asks for no claim. -/
theorem trySelection_claim_of_cutOut (h : s.cutOut = true) : (trySelection s).claim = s.claim := by
  unfold trySelection
  split
  · split
    · rename_i e _
      rw [startChain_eq]
      split
      · split
        · unfold enterSlewing
          simp only
          split
          · rw [enterClaiming_of_cutOut (s := selected e s) h]
            rfl
          · rfl
        · rfl
      · rfl
      · rfl
    · rfl
  · rfl

theorem cutOut_congr {t : State} (hw : t.wind = s.wind) (hst : t.station = s.station) : t.cutOut = s.cutOut := by
  unfold State.cutOut State.cfg
  rw [hw, hst]

/-- A rise stops a SPRAYING chain WIND_CUT, and nothing is claimed afresh. -/
theorem chainEnd_windCut {ch : Chain} (hc : s.cannon.chain = some ch) (hcut : s.cutOut = true) :
    (chainEnd .windCut s).claim.own.state = .none := by
  have honly := chainOver_only .windCut ch s
  rw [chainEnd_eq hc, trySelection_claim_of_cutOut
    (by rw [cutOut_congr (honly .wind (by decide)) (honly .station (by decide))]; exact hcut)]
  exact chainOver_claim .windCut ch s

theorem cutOutEffects_of_spraying (hcut : s.cutOut = true) (hst : s.cannon.state = .spraying) :
    cutOutEffects false s = chainEnd .windCut s := by
  unfold cutOutEffects
  rw [hcut, hst]

theorem cutOutEffects_of_waiting (hcut : s.cutOut = true) (hst : s.cannon.state = .claiming)
    (h : s.claim.own.state = .settling ∨ s.claim.own.state = .deferred) : cutOutEffects false s = releaseClaim s := by
  unfold cutOutEffects
  rw [hcut, hst]
  exact if_pos h

theorem cutOutEffects_of_fall {ch : Chain} (hcut : s.cutOut = false) (hst : s.cannon.state = .claiming)
    (hc : s.cannon.chain = some ch) : cutOutEffects true s = askClaim ch.cls ch.basis s := by
  unfold cutOutEffects
  rw [hcut, hst, hc]

/-- Without a rise or a fall, or in the other states of the cannon, a close does nothing to it. -/
theorem cutOutEffects_of_still {before : Bool}
    (h : s.cutOut = before ∨ (s.cannon.state ≠ .spraying ∧ s.cannon.state ≠ .claiming)) : cutOutEffects before s = s := by
  unfold cutOutEffects
  split
  case h_1 hcut hst => exact absurd hst (h.elim (fun h => by rw [h] at hcut; cases hcut) fun h => h.1)
  case h_2 hcut hst => exact absurd hst (h.elim (fun h => by rw [h] at hcut; cases hcut) fun h => h.2)
  case h_3 hcut hst => exact absurd hst (h.elim (fun h => by rw [h] at hcut; cases hcut) fun h => h.2)
  case h_4 => rfl

/-- What an ask leaves of the own claim (R101). -/
theorem askClaim_asked {c : DemandClass} {b : Nat} (hrun : s.station.mode = .run) (h : s.claim.own.state = .none) :
    (askClaim c b s).claim.own.state = .settling ∧ (askClaim c b s).claim.own.cls = some c
      ∧ (askClaim c b s).claim.own.basis = some b ∧ (askClaim c b s).claim.own.serial = some s.claim.own.nextSerial
      ∧ (askClaim c b s).claim.own.settle = .running (s.now + s.cfg.settleTime * 1000) := by
  unfold askClaim
  rw [if_pos ⟨by simpa [State.inRun] using hrun, h⟩]
  simp only [announceClaim_claim]
  exact ⟨rfl, rfl, rfl, rfl, rfl⟩

end CutOut

/-- The station at a close, before what the cut-out does. -/
def State.minuteClosed (s : State) : State :=
  s.setWind
    { acc := Accumulator.empty, minute := s.wind.minute.reload 60000
      record := closeRecord s.sec s.cfg.fallbackWind s.wind.acc s.peerWind s.wind.record }

/-- A close that leaves the cannon alone moves no other flag than WIND_LOST. -/
theorem minuteClosed_quiet {s : State} (hs : settled s) (hm : s.station.mode ≠ .start) :
    onlyChanges [.wind, .alarms] s (closeArrival s s.minuteClosed) ∧ flagsExcept [.windLost] s (closeArrival s s.minuteClosed)
      ∧ (closeArrival s s.minuteClosed).alarms.flags.windLost =
          s.alarms.flags.windLost.follow s.sec (decide (s.minuteClosed.wind.record.source = .fallback)) := by
  have hquiet : closeArrival s s.minuteClosed = syncAlarms s.minuteClosed := closeArrival_quiet hs.2 rfl
  rw [hquiet]
  refine ⟨only_trans (t := s.minuteClosed) (only_mono (setWind_only s _) (by decide))
    (only_mono (syncAlarms_only _) (by decide)), fun i hi => ?_, ?_⟩
  · refine syncAlarms_flag_same (hs.1 hm) rfl ?_
    cases i <;> first | rfl | exact absurd (List.mem_singleton.mpr rfl) hi
  · have hinit : s.minuteClosed.wind.record.initial = false := closeRecord_mark.2
    rw [syncAlarms_alarms]
    show s.alarms.flags.windLost.follow s.sec
      (decide (s.minuteClosed.wind.record.source = .fallback) && !s.minuteClosed.wind.record.initial) = _
    rw [hinit, Bool.not_false, Bool.and_true]

/-- Settles O5, by the cases of `closeRecord` and of `cutOutEffects`. -/
theorem minuteCloseRecord : Obligations.MinuteCloseRecord := by
  unfold Obligations.MinuteCloseRecord
  intro due s hm hdue hle
  let u := s.minuteClosed
  let v := cutOutEffects s.cutOut u
  have heff : effectOf .minuteClose s = v := by
    show takeMinuteClose s = _
    unfold takeMinuteClose
    rw [hdue, isDue_running hle]
    exact (if_pos rfl).trans (by show _ = cutOutEffects s.cutOut s.minuteClosed; unfold State.minuteClosed; rw [hdue])
  have honly : onlyChanges (.wind :: deep) s v :=
    only_trans (t := u) (only_mono (setWind_only s _) (by decide)) (only_mono (cutOutEffects_only _ u) (by decide))
  have hvwind : v.wind = u.wind := cutOutEffects_only s.cutOut u .wind (by decide)
  have hwind : (closeArrival s v).wind = u.wind := (closeArrival_wind s v).trans hvwind
  have hrecord : (closeArrival s v).wind.record =
      closeRecord s.sec s.cfg.fallbackWind s.wind.acc s.peerWind s.wind.record := by rw [hwind]; rfl
  have hcut : (closeArrival s v).cutOut = u.cutOut :=
    cutOut_congr hwind ((closeArrival_station s v).trans (honly .station (by decide)))
  refine ⟨_, exec_eq hm heff nofun, by rw [hwind]; rfl, ?_, close_only (only_mono honly (by decide)), ?_⟩
  · rw [hwind]
    show s.wind.minute.reload 60000 = _
    rw [hdue]
    rfl
  rw [hrecord, hcut, closeArrival_cannon, closeArrival_claim, closeArrival_queue]
  refine ⟨closeRecord_mark.1, closeRecord_mark.2, closeRecord_count, fun hten => ?_, fun hfew => ⟨fun q w d hu hmin => ?_,
    fun hno => ⟨?_, ?_, fun hfresh => ?_, fun hold => ?_⟩⟩, fun ch hch hb ha hst => ?_, fun hb ha hst hcl => ?_,
    fun ch hch hb ha hst hrun hcl => ?_, fun hs hstill => ?_⟩
  · rw [closeRecord_of_samples hten]
    exact ⟨rfl, rfl, rfl, rfl, rfl, rfl⟩
  · rw [peerWind_of_least hu hmin, closeRecord_of_peer hfew]
    exact ⟨rfl, rfl, rfl, rfl, rfl, rfl⟩
  · rw [peerWind_of_none hno]
    cases hr : s.wind.record.holdable s.sec with
    | true => rw [closeRecord_of_held hfew hr]
    | false => rw [closeRecord_of_lost hfew hr]
  · rw [peerWind_of_none hno]
    cases hr : s.wind.record.holdable s.sec with
    | true => rw [closeRecord_of_held hfew hr]
    | false => rw [closeRecord_of_lost hfew hr]
  · rw [peerWind_of_none hno, closeRecord_of_held hfew ((holdable_iff _ _).2 hfresh)]
    exact ⟨rfl, rfl, rfl, rfl⟩
  · have hr : s.wind.record.holdable s.sec = false := Bool.eq_false_iff.2 fun h => by
      obtain ⟨fresh, hf, hle⟩ := (holdable_iff _ _).1 h
      have := hold fresh hf
      omega
    rw [peerWind_of_none hno, closeRecord_of_lost hfew hr]
    exact ⟨rfl, rfl, rfl, rfl⟩
  · have hv : v = chainEnd .windCut u := by
      show cutOutEffects s.cutOut u = _
      rw [hb]
      exact cutOutEffects_of_spraying ha hst
    rw [hv]
    refine ⟨?_, chainEnd_valve (s := u) hch, chainEnd_windCut (s := u) hch ha,
      fun hop => (chainEnd_drains (.inr rfl) (s := u) hch hst hop).2⟩
    exact endedBy_close (chainEnd_endedBy (s := u) hch) rfl rfl rfl rfl
  · have hv : v = releaseClaim u := by
      show cutOutEffects s.cutOut u = _
      rw [hb]
      exact cutOutEffects_of_waiting ha hst hcl
    rw [hv]
    exact ⟨releaseClaim_state u, releaseClaim_only u .cannon (by decide), releaseClaim_only u .queue (by decide)⟩
  · have hv : v = askClaim ch.cls ch.basis u := by
      show cutOutEffects s.cutOut u = _
      rw [hb]
      exact cutOutEffects_of_fall (s := u) ha hst hch
    rw [hv]
    obtain ⟨h1, h2, h3, h4, h5⟩ := askClaim_asked (s := u) (c := ch.cls) (b := ch.basis) hrun hcl
    exact ⟨h1, h2, h3, h4, h5, askClaim_only _ _ u .cannon (by decide), askClaim_only _ _ u .queue (by decide)⟩
  · have hv : v = u := cutOutEffects_of_still hstill
    rw [hv]
    exact minuteClosed_quiet hs hm

end Sys2Proof.Machine
end


section
/-! PROOFS. The projection of a face over the forecast, and the look-ahead run on a face (O10). -/

namespace Sys2Proof.Machine

/-! ### The projection (R42 to R46) -/

/-- The three cases of drying in one (R26, R43). -/
theorem dry_eq (m sum : Nat) : dry m sum = (m - sum / 8192, if sum / 8192 ≤ m then sum % 8192 else 0) := by
  unfold dry
  simp only
  split
  · rename_i h
    rw [if_neg (Nat.not_le.2 h), Nat.sub_eq_zero_of_le (Nat.le_of_lt h)]
  · rename_i h
    rw [if_pos (Nat.not_lt.1 h)]

theorem projectSlot_eq (d : FaceDesc) (n m rp : Nat) (k : Slot) :
    projectSlot d n m rp k = slotProjected d n (m, rp) k := by
  unfold projectSlot
  rw [dry_eq]
  rfl

section Project

variable {tAct n : Nat} {d : FaceDesc}

theorem projectSlots_cons (k : Slot) (rest : List Slot) (p : Nat × Nat) (count : Nat) :
    projectSlots tAct n d (k :: rest) p.1 p.2 count =
      if tAct ≤ indexOfSlot d (slotProjected d n p k).1 k then
        { slots := count + 1, moisture := (slotProjected d n p k).1
          predicted :=
            some { start := k.start, index := indexOfSlot d (slotProjected d n p k).1 k, weff := slotWind d k } }
      else projectSlots tAct n d rest (slotProjected d n p k).1 (slotProjected d n p k).2 (count + 1) := by
  rw [projectSlots]
  simp only [projectSlot_eq]
  rfl

/-- A slot reaches T_act behind the slots `pre` from a moisture and a remainder. -/
def slotReaches (tAct n : Nat) (d : FaceDesc) (p : Nat × Nat) (pre : List Slot) (k : Slot) : Prop :=
  tAct ≤ indexOfSlot d ((pre ++ [k]).foldl (slotProjected d n) p).1 k

theorem slotReaches_cons {p : Nat × Nat} {j k : Slot} {pre : List Slot} :
    slotReaches tAct n d p (j :: pre) k ↔ slotReaches tAct n d (slotProjected d n p j) pre k := Iff.rfl

/-- Where no slot reaches T_act all are projected. -/
theorem projectSlots_of_none {slots : List Slot} {p : Nat × Nat} {count : Nat}
    (h : ∀ pre k post, slots = pre ++ k :: post → ¬ slotReaches tAct n d p pre k) :
    projectSlots tAct n d slots p.1 p.2 count =
      { slots := count + slots.length, moisture := (slots.foldl (slotProjected d n) p).1, predicted := none } := by
  induction slots generalizing p count with
  | nil => rfl
  | cons k rest ih =>
    have hk : ¬ tAct ≤ indexOfSlot d (slotProjected d n p k).1 k := h [] k rest rfl
    rw [projectSlots_cons, if_neg hk,
      ih fun pre j post hr => fun hj => h (k :: pre) j post (by rw [hr]; rfl) (slotReaches_cons.2 hj),
      List.length_cons, List.foldl_cons, Nat.add_assoc, Nat.add_comm 1]

/-- The first slot that reaches T_act is the predicted one. -/
theorem projectSlots_of_first {pre : List Slot} {k : Slot} {post : List Slot} {p : Nat × Nat} {count : Nat}
    (hk : slotReaches tAct n d p pre k)
    (hpre : ∀ pre' j post', pre = pre' ++ j :: post' → ¬ slotReaches tAct n d p pre' j) :
    projectSlots tAct n d (pre ++ k :: post) p.1 p.2 count =
      { slots := count + (pre.length + 1), moisture := ((pre ++ [k]).foldl (slotProjected d n) p).1
        predicted :=
          some
            { start := k.start, index := indexOfSlot d ((pre ++ [k]).foldl (slotProjected d n) p).1 k
              weff := slotWind d k } } := by
  induction pre generalizing p count with
  | nil =>
    rw [List.nil_append, projectSlots_cons]
    exact if_pos hk
  | cons j pre ih =>
    have hj : ¬ tAct ≤ indexOfSlot d (slotProjected d n p j).1 j := hpre [] j pre rfl
    rw [List.cons_append, projectSlots_cons, if_neg hj, ih (slotReaches_cons.1 hk)
      fun pre' i post' hr hi => hpre (j :: pre') i post' (by rw [hr]; rfl) (slotReaches_cons.2 hi), List.length_cons,
      List.cons_append, List.foldl_cons, show count + 1 + (pre.length + 1) = count + (pre.length + 1 + 1) by omega]

/-- A predicted slot is one of the window, and its index reaches T_act. -/
theorem projectSlots_predicted {slots : List Slot} {p : Nat × Nat} {count : Nat} {q : Predicted}
    (h : (projectSlots tAct n d slots p.1 p.2 count).predicted = some q) :
    tAct ≤ q.index ∧ q.index ≤ 255 ∧ ∃ k ∈ slots, k.start = q.start := by
  induction slots generalizing p count with
  | nil => cases h
  | cons k rest ih =>
    rw [projectSlots_cons] at h
    split at h
    · rename_i hk
      cases h
      exact ⟨hk, Nat.min_le_left _ _, k, List.mem_cons_self, rfl⟩
    · obtain ⟨h1, h2, j, hj, hs⟩ := ih h
      exact ⟨h1, h2, j, List.mem_cons_of_mem _ hj, hs⟩

theorem projectSlots_moisture {slots : List Slot} {p : Nat × Nat} {count : Nat} (h : p.1 ≤ d.msat) :
    (projectSlots tAct n d slots p.1 p.2 count).moisture ≤ d.msat := by
  induction slots generalizing p count with
  | nil => exact h
  | cons k rest ih =>
    have hk : (slotProjected d n p k).1 ≤ d.msat := Nat.min_le_left _ _
    rw [projectSlots_cons]
    split
    · exact hk
    · exact ih hk

end Project

/-! ### The summary of a face (R47, R48, R51) -/

/-- The slots of the window (R41). -/
def State.window (s : State) : List Slot := s.forecast.slots.filter (Slot.inWindow s.minute s.cfg.prewetLead)

/-- The projection of a record over the window. -/
def State.projection (s : State) (r : FaceRecord) : Projection :=
  projectSlots s.cfg.tAct s.minute r.desc s.window r.m r.rd 0

/-- The summary before a predicted slot has had its volume. -/
def State.baseSummary (s : State) (r : FaceRecord) : Summary :=
  { minute := s.minute, issue := s.forecast.issue.getD 0, projected := (s.projection r).slots
    outcome := if s.window.isEmpty then .noSlot else .clear
    slot := (s.projection r).predicted.map Predicted.start, index := (s.projection r).predicted.map Predicted.index
    moisture := (s.projection r).moisture, volume := none, deadline := none }

section Summary

variable {s : State} {r : FaceRecord}

theorem prewetVolume_none {c : Configuration} {d : FaceDesc} {weff m : Nat} :
    prewetVolume c d weff m = none ↔ d.km ≠ 0 ∧ requirement d weff ≤ m := by
  unfold prewetVolume
  split
  · simp_all
  split
  · simp_all
  · simp_all

theorem prewetVolume_some {c : Configuration} {d : FaceDesc} {weff m : Nat} (h : d.km = 0 ∨ m < requirement d weff) :
    prewetVolume c d weff m =
      some (max c.vMin (min c.vMaxDose
        (if d.km = 0 then c.vMaxDose else ((requirement d weff - m) * d.area + d.kw - 1) / d.kw))) := by
  unfold prewetVolume
  by_cases hkm : d.km = 0
  · rw [if_pos hkm, if_pos hkm]
    rfl
  · rw [if_neg hkm, if_neg hkm, if_pos (h.resolve_left hkm)]
    rfl

theorem projection_empty (h : s.window = []) : s.projection r = { slots := 0, moisture := r.m, predicted := none } := by
  unfold State.projection
  rw [h]
  rfl

theorem summaryOf_of_clear (h : (s.projection r).predicted = none) : summaryOf s r (s.baseSummary r) := by
  have hslot : (s.baseSummary r).slot = none ∧ (s.baseSummary r).index = none := by
    unfold State.baseSummary
    rw [h]
    exact ⟨rfl, rfl⟩
  refine ⟨rfl, rfl, fun _ => ⟨rfl, rfl⟩, fun hw => ?_, fun hw hno => ?_, fun pre k post hw hk hpre => ?_⟩
  · have hp := projection_empty (r := r) (s := s) hw
    refine ⟨?_, ?_, hslot.1, hslot.2, ?_⟩
    · exact if_pos (by rw [show s.window = [] from hw]; rfl)
    · exact congrArg Projection.slots hp
    · exact congrArg Projection.moisture hp
  · have hp : s.projection r = _ := projectSlots_of_none (p := (r.m, r.rd)) (count := 0) hno
    refine ⟨?_, ?_, hslot.1, hslot.2, ?_⟩
    · exact if_neg (by rw [List.isEmpty_iff]; exact hw)
    · exact (congrArg Projection.slots hp).trans (Nat.zero_add _)
    · exact congrArg Projection.moisture hp
  · have hp := projectSlots_of_first (post := post) (count := 0) (p := (r.m, r.rd)) hk hpre
    rw [← hw] at hp
    rw [show (s.projection r).predicted = _ from congrArg Projection.predicted hp] at h
    cases h

/-- A summary with a predicted slot, whatever the queue made of its offer. -/
theorem summaryOf_of_predicted {q : Predicted} {o : LookOutcome} {vol dl : Option Nat}
    (h : (s.projection r).predicted = some q)
    (hnone : prewetVolume s.cfg r.desc q.weff (s.projection r).moisture = none → o = .saturated ∧ vol = none ∧ dl = none)
    (hsome : ∀ v, prewetVolume s.cfg r.desc q.weff (s.projection r).moisture = some v →
      vol = some v ∧ dl = some (prewetDeadline s.sec s.minute q.start)
        ∧ ¬ (o = .noSlot ∨ o = .clear ∨ o = .saturated)) :
    summaryOf s r { s.baseSummary r with outcome := o, volume := vol, deadline := dl } := by
  refine ⟨rfl, rfl, fun ho => ?_, fun hw => ?_, fun hw hno => ?_, fun pre k post hw hk hpre => ?_⟩
  · cases hv : prewetVolume s.cfg r.desc q.weff (s.projection r).moisture with
    | none => exact (hnone hv).2
    | some v => exact absurd ho (hsome v hv).2.2
  · rw [projection_empty hw] at h
    cases h
  · have hp : s.projection r = _ := projectSlots_of_none (p := (r.m, r.rd)) (count := 0) hno
    rw [hp] at h
    cases h
  · have hp := projectSlots_of_first (post := post) (count := 0) (p := (r.m, r.rd)) hk hpre
    rw [← hw] at hp
    have hp' : s.projection r = _ := hp
    rw [hp'] at h hnone hsome
    cases h
    simp only at hnone hsome
    refine ⟨?_, ?_, ?_, ?_, fun hkm hneed => ?_, fun hneed => ?_⟩
    · show (s.projection r).predicted.map Predicted.start = _
      rw [hp']
      rfl
    · show (s.projection r).predicted.map Predicted.index = _
      rw [hp']
      rfl
    · exact (congrArg Projection.slots hp').trans (Nat.zero_add _)
    · exact congrArg Projection.moisture hp'
    · exact (hnone (prewetVolume_none.2 ⟨hkm, hneed⟩)).1
    · obtain ⟨h1, h2, -⟩ := hsome _ (prewetVolume_some hneed)
      exact ⟨h1, h2⟩

end Summary

/-! ### The run on a face (R49) -/

/-- The PREWET demand of a face. -/
def prewetOffer (f : FaceId) (v d : Nat) : Offer :=
  { face := f, cls := .prewet, volume := v, origin := .lookahead, deadline := some d }

section Run

variable {s : State} {f : FaceId} {r : FaceRecord}

theorem lookAheadFace_of_record (hr : s.face.records.get f = some r) :
    lookAheadFace s f =
      match (s.projection r).predicted with
      | none => writeSummary f (s.baseSummary r) s
      | some k =>
        match prewetVolume s.cfg r.desc k.weff (s.projection r).moisture with
        | none => writeSummary f { s.baseSummary r with outcome := .saturated } s
        | some v =>
          writeSummary f
            { s.baseSummary r with
              outcome := (offerPrewet f v (prewetDeadline s.sec s.minute k.start) s).2, volume := some v
              deadline := some (prewetDeadline s.sec s.minute k.start) }
            (offerPrewet f v (prewetDeadline s.sec s.minute k.start) s).1 := by
  unfold lookAheadFace
  rw [hr]
  rfl

theorem offerPrewet_of_running {v d : Nat} (h : s.chainRuns f = true) : offerPrewet f v d s = (s, .skipped) := if_pos h

/-- The outcome that a queue's answer gives. -/
def outcomeOf : OfferAnswer → LookOutcome
  | .merged => .merged
  | .added => .added
  | _ => .refused

theorem offerDemand_answer (o : Offer) (s : State) : (offerDemand o s).2 = (admitOffer o s).2 := by
  unfold offerDemand
  obtain ⟨u, a⟩ := admitOffer o s
  cases a <;> rfl

theorem offerPrewet_of_still {v d : Nat} (h : s.chainRuns f = false) :
    (offerPrewet f v d s).1 = (offerDemand (prewetOffer f v d) s).1
      ∧ (offerPrewet f v d s).2 = outcomeOf (admitOffer (prewetOffer f v d) s).2 := by
  rw [← offerDemand_answer]
  unfold offerPrewet prewetOffer
  rw [if_neg (by rw [h]; exact nofun)]
  obtain ⟨u, a⟩ := offerDemand { face := f, cls := .prewet, volume := v, origin := .lookahead, deadline := some d } s
  cases a <;> exact ⟨rfl, rfl⟩

theorem offerPrewet_outcome (v d : Nat) :
    ¬ ((offerPrewet f v d s).2 = .noSlot ∨ (offerPrewet f v d s).2 = .clear ∨ (offerPrewet f v d s).2 = .saturated) := by
  cases h : s.chainRuns f with
  | true =>
    rw [offerPrewet_of_running h]
    exact nofun
  | false =>
    rw [(offerPrewet_of_still h).2]
    cases (admitOffer (prewetOffer f v d) s).2 <;> exact nofun

theorem chainRuns_iff : s.chainRuns f = true ↔ ∃ e ∈ s.queue.entries, e.face = f ∧ e.running = true := by
  unfold State.chainRuns
  simp

/-- The summary that a run writes for a face, with the facts that hold of it whatever was projected. -/
structure Summarised (s : State) (f : FaceId) (r : FaceRecord) (y : Summary) : Prop where
  summary : summaryOf s r y
  volume : ∀ v, y.volume = some v →
    s.cfg.vMin ≤ v ∧ (s.cfg.vMin ≤ s.cfg.vMaxDose → v ≤ s.cfg.vMaxDose)
      ∧ ∃ d, y.deadline = some d ∧ (lookAheadFace s f).queue = (offerPrewet f v d s).1.queue
        ∧ y.outcome = (offerPrewet f v d s).2
  without : y.volume = none → (lookAheadFace s f).queue = s.queue
  index : ∀ i, y.index = some i → s.cfg.tAct ≤ i ∧ i ≤ 255
  deadline : ∀ d, y.deadline = some d → ∃ k ∈ s.forecast.slots, y.slot = some k.start
    ∧ d = prewetDeadline s.sec s.minute k.start
  moisture : r.m ≤ r.desc.msat → y.moisture ≤ r.desc.msat

theorem prewetVolume_range {c : Configuration} {d : FaceDesc} {weff m v : Nat} (h : prewetVolume c d weff m = some v) :
    c.vMin ≤ v ∧ (c.vMin ≤ c.vMaxDose → v ≤ c.vMaxDose) := by
  have hclamp : ∀ x, c.vMin ≤ clampTo c.vMin c.vMaxDose x
      ∧ (c.vMin ≤ c.vMaxDose → clampTo c.vMin c.vMaxDose x ≤ c.vMaxDose) := fun x =>
    ⟨Nat.le_max_left _ _, fun hv => Nat.max_le.2 ⟨hv, Nat.min_le_left _ _⟩⟩
  unfold prewetVolume at h
  split at h
  · cases h
    exact hclamp _
  split at h
  · cases h
    exact hclamp _
  · cases h

theorem writeSummary_get (f : FaceId) (y : Summary) (s : State) : (writeSummary f y s).look.get f = some y :=
  PerFace.get_set_same _ _ _

theorem baseSummary_index {i : Nat} (h : (s.baseSummary r).index = some i) : s.cfg.tAct ≤ i ∧ i ≤ 255 := by
  obtain ⟨q, hq, rfl⟩ := Option.map_eq_some_iff.1 h
  obtain ⟨h1, h2, -⟩ := projectSlots_predicted (p := (r.m, r.rd)) hq
  exact ⟨h1, h2⟩

theorem baseSummary_moisture (h : r.m ≤ r.desc.msat) : (s.baseSummary r).moisture ≤ r.desc.msat :=
  projectSlots_moisture (p := (r.m, r.rd)) h

theorem lookAheadFace_summarised (hr : s.face.records.get f = some r) :
    ∃ y, (lookAheadFace s f).look.get f = some y ∧ Summarised s f r y := by
  cases hp : (s.projection r).predicted with
  | none =>
    have he : lookAheadFace s f = writeSummary f (s.baseSummary r) s := by
      rw [lookAheadFace_of_record hr, hp]
    rw [he]
    exact ⟨_, writeSummary_get _ _ _, summaryOf_of_clear hp, nofun, fun _ => by rw [he]; rfl,
      fun _ => baseSummary_index, nofun, baseSummary_moisture⟩
  | some q =>
    cases hv : prewetVolume s.cfg r.desc q.weff (s.projection r).moisture with
    | none =>
      have he : lookAheadFace s f = writeSummary f { s.baseSummary r with outcome := .saturated } s := by
        rw [lookAheadFace_of_record hr, hp]
        simp only [hv]
      rw [he]
      refine ⟨_, writeSummary_get _ _ _, ?_, nofun, fun _ => by rw [he]; rfl, fun _ => baseSummary_index, nofun,
        baseSummary_moisture⟩
      exact summaryOf_of_predicted (vol := none) (dl := none) hp (fun _ => ⟨rfl, rfl, rfl⟩)
        fun v h => by rw [hv] at h; cases h
    | some v =>
      have he : lookAheadFace s f =
          writeSummary f
            { s.baseSummary r with
              outcome := (offerPrewet f v (prewetDeadline s.sec s.minute q.start) s).2, volume := some v
              deadline := some (prewetDeadline s.sec s.minute q.start) }
            (offerPrewet f v (prewetDeadline s.sec s.minute q.start) s).1 := by
        rw [lookAheadFace_of_record hr, hp]
        simp only [hv]
      obtain ⟨hmin, hmax⟩ := prewetVolume_range hv
      obtain ⟨-, -, k, hk, hstart⟩ := projectSlots_predicted (p := (r.m, r.rd)) hp
      rw [he]
      refine ⟨_, writeSummary_get _ _ _, ?_, fun v' h => ?_, nofun, fun _ => baseSummary_index, fun d h => ?_,
        baseSummary_moisture⟩
      · refine summaryOf_of_predicted hp (fun h => by rw [hv] at h; cases h) fun v' h => ?_
        rw [hv] at h
        cases h
        exact ⟨rfl, rfl, offerPrewet_outcome v _⟩
      · cases h
        exact ⟨hmin, hmax, _, rfl, by rw [he]; rfl, rfl⟩
      · cases h
        refine ⟨k, (List.mem_filter.1 hk).1, ?_, by rw [hstart]⟩
        show (s.projection r).predicted.map Predicted.start = _
        rw [hp, hstart]
        rfl

end Run

/-- A run leaves the summaries of the other faces. -/
theorem lookAheadFace_look_ne {s : State} {f g : FaceId} (h : g ≠ f) :
    (lookAheadFace s f).look.get g = s.look.get g := by
  have hw : ∀ (y : Summary) (u : State), u.look = s.look → (writeSummary f y u).look.get g = s.look.get g := by
    intro y u hu
    unfold writeSummary
    rw [State.setLook_look, PerFace.get_set_ne _ _ h, hu]
  cases hr : s.face.records.get f with
  | none =>
    unfold lookAheadFace
    rw [hr]
  | some r =>
    rw [lookAheadFace_of_record hr]
    split
    · exact hw _ _ rfl
    split
    · exact hw _ _ rfl
    · refine hw _ _ ?_
      cases hc : s.chainRuns f with
      | true => rw [offerPrewet_of_running hc]
      | false =>
        rw [(offerPrewet_of_still hc).1]
        exact offerDemand_only _ s .look (by decide)

theorem sec_le_deadline (s : State) (start : Nat) : s.sec ≤ prewetDeadline s.sec s.minute start := by
  unfold prewetDeadline State.minute
  split <;> omega

/-- Settles O10, by the cases of the projection. -/
theorem lookAheadInRange : Obligations.LookAheadInRange := by
  unfold Obligations.LookAheadInRange
  intro f r s hr hm hrange
  obtain ⟨y, hy, hs⟩ := lookAheadFace_summarised hr
  refine ⟨y, hy, hs.summary, fun g hg => lookAheadFace_look_ne hg, hs.moisture hm, hs.index, fun v hv => ?_,
    fun d hd => ?_, hs.without, fun v hv => ?_⟩
  · obtain ⟨hmin, hmax, -⟩ := hs.volume v hv
    exact ⟨hmin, hmax hrange⟩
  · obtain ⟨k, hk, hslot, rfl⟩ := hs.deadline d hd
    exact ⟨sec_le_deadline s k.start, k, hk, hslot, rfl⟩
  · obtain ⟨-, -, d, hd, hq, ho⟩ := hs.volume v hv
    refine ⟨fun hrun => ?_, fun hstill => ?_⟩
    · rw [offerPrewet_of_running (chainRuns_iff.2 hrun)] at hq ho
      exact ⟨ho, hq⟩
    · have hc : s.chainRuns f = false := Bool.eq_false_iff.2 fun h => by
        obtain ⟨e, he, hef, her⟩ := chainRuns_iff.1 h
        rw [hstill e he hef] at her
        cases her
      obtain ⟨h1, h2⟩ := offerPrewet_of_still (v := v) (d := d) hc
      rw [h1] at hq
      rw [h2] at ho
      rw [hd]
      exact ⟨hq, ho⟩

end Sys2Proof.Machine
end


section
/-! PROOFS. What an evaluation makes of the face records and of the day's runoff (R24 to R31). -/

namespace Sys2Proof.Machine

/-! ### A record evaluated -/

/-- The record of a face after steps 1 to 7. -/
def evaluated (s : State) (f : FaceId) (r : FaceRecord) : FaceRecord :=
  (evaluateRecord s.sec s.cfg s.wind.record (s.pins.contacts.get f) (workingMachines s.sec s.peers.entries) r).1

/-- The runoff that an evaluation of a face forms. -/
theorem evaluateRecord_runoff (s : State) (contact : Bool) (machines : List (Nat × Nat)) (r : FaceRecord) :
    (evaluateRecord s.sec s.cfg s.wind.record contact machines r).2 = runoffFormed s r := by
  unfold evaluateRecord stepGains stepDrying
  simp only [dry_eq]
  rfl

/-- What an evaluation of a face reads is the same in two states. -/
structure SameWeather (s t : State) : Prop where
  now : t.now = s.now
  station : t.station = s.station
  wind : t.wind = s.wind
  pins : t.pins = s.pins
  peers : t.peers = s.peers

theorem SameWeather.evaluated {s t : State} (h : SameWeather s t) (f : FaceId) (r : FaceRecord) :
    evaluated t f r = evaluated s f r := by
  unfold Machine.evaluated
  rw [State.sec, h.now, State.cfg, h.station, h.wind, h.pins, h.peers]
  rfl

theorem SameWeather.runoff {s t : State} (h : SameWeather s t) : runoffFormed t = runoffFormed s := by
  funext r
  unfold runoffFormed
  rw [h.wind]

theorem sameWeather_of_only {fs : List Field} {s t : State} (h : onlyChanges fs s t)
    (hf : ∀ f ∈ [Field.now, .station, .wind, .pins, .peers], f ∉ fs := by decide) : SameWeather s t :=
  ⟨h .now (hf _ (by decide)), h .station (hf _ (by decide)), h .wind (hf _ (by decide)), h .pins (hf _ (by decide)),
    h .peers (hf _ (by decide))⟩

theorem evaluateFace_weather (s : State) (f : FaceId) : SameWeather s (evaluateFace s f) :=
  sameWeather_of_only (evaluateFace_only s f)

/-! ### Step 8 on the records -/

/-- From one state to the other the records differ in their last prewet result, and that of one face in its last sizing. -/
structure SizedOnly (f : FaceId) (s t : State) : Prop where
  timer : t.face.timer = s.face.timer
  records : ∀ g, (s.face.records.get g = none ∧ t.face.records.get g = none)
    ∨ ∃ r p z, s.face.records.get g = some r
        ∧ t.face.records.get g = some { r with lastPrewet := p, lastSizing := z } ∧ (g ≠ f → z = r.lastSizing)

theorem SizedOnly.trans {f : FaceId} {s t u : State} (h : SizedOnly f s t) (k : SizedOnly f t u) : SizedOnly f s u := by
  refine ⟨k.timer.trans h.timer, fun g => ?_⟩
  rcases h.records g with ⟨hs, ht⟩ | ⟨r, p, z, hs, ht, hz⟩
  · rcases k.records g with ⟨-, hu⟩ | ⟨r, _, _, hr, -⟩
    · exact .inl ⟨hs, hu⟩
    · rw [ht] at hr
      cases hr
  · rcases k.records g with ⟨hn, -⟩ | ⟨r', p', z', hr, hu, hz'⟩
    · rw [ht] at hn
      cases hn
    · rw [ht] at hr
      cases hr
      exact .inr ⟨r, p', z', hs, hu, fun hg => (hz' hg).trans (hz hg)⟩

theorem sized_of_prewet {f : FaceId} {s t : State} (h : prewetOnly s t) : SizedOnly f s t := by
  refine ⟨h.1, fun g => ?_⟩
  rcases h.2 g with ⟨ht, hs⟩ | ⟨r, p, hs, ht⟩
  · exact .inl ⟨hs, ht⟩
  · exact .inr ⟨r, p, r.lastSizing, hs, ht, fun _ => rfl⟩

theorem sized_of_only {f : FaceId} {fs : List Field} {s t : State} (h : onlyChanges fs s t) (hf : Field.face ∉ fs) :
    SizedOnly f s t := sized_of_prewet (prewet_of_only h hf)

theorem recordSizing_get_same {f : FaceId} {v : Option Nat} {o : SizingOutcome} {s : State} :
    (recordSizing f v o s).face.records.get f =
      (s.face.records.get f).map fun r => { r with lastSizing := some { volume := v, outcome := o } } := by
  unfold recordSizing
  rw [changeRecord_get, if_pos rfl]

theorem recordSizing_sized (f : FaceId) (v : Option Nat) (o : SizingOutcome) (s : State) :
    SizedOnly f s (recordSizing f v o s) := by
  refine ⟨rfl, fun g => ?_⟩
  by_cases hg : g = f
  · subst hg
    rw [recordSizing_get_same]
    cases hr : s.face.records.get g with
    | none => exact .inl ⟨rfl, rfl⟩
    | some r => exact .inr ⟨r, r.lastPrewet, _, rfl, rfl, fun h => absurd rfl h⟩
  · have hsame : (recordSizing f v o s).face.records.get g = s.face.records.get g := by
      unfold recordSizing
      rw [changeRecord_get, if_neg hg]
    rw [hsame]
    cases hr : s.face.records.get g with
    | none => exact .inl ⟨rfl, rfl⟩
    | some r => exact .inr ⟨r, r.lastPrewet, r.lastSizing, rfl, rfl, fun _ => rfl⟩

theorem stepSuppress_sized (f : FaceId) (r : FaceRecord) (s : State) : SizedOnly f s (stepSuppress f r s) := by
  unfold stepSuppress
  split
  · split
    · exact recordSizing_sized _ _ _ s
    · unfold offerSuppress
      split
      · exact (sized_of_only (setQueue_only s _) (by decide)).trans (recordSizing_sized _ _ _ _)
      · have ho : SizedOnly f s (offerDemand
          { face := f, cls := .suppress
            volume := suppressVolume s.cfg r.desc (r.lastEval.map LastEval.weff |>.getD 0) r.m, origin := .localRisk
            deadline := none } s).1 := sized_of_prewet (offerDemand_prewet _ s)
        split <;> rename_i h <;> rw [h] at ho <;> exact ho.trans (recordSizing_sized _ _ _ _)
  · exact recordSizing_sized _ _ _ s
  · unfold withdrawSuppress
    split
    · split
      · exact (recordSizing_sized _ _ _ s).trans (sized_of_only (setFree_only _ _) (by decide))
      · exact (sized_of_prewet (removeEntry_prewet _ _ s)).trans (recordSizing_sized _ _ _ _)
    · exact recordSizing_sized _ _ _ s

/-! ### One face, and all of them -/

section Face

variable {s : State} {f g : FaceId} {r : FaceRecord}

/-- A face taken through steps 1 to 7, with its runoff credited. -/
def stepped (s : State) (f : FaceId) (r : FaceRecord) : State :=
  creditRunoff (runoffFormed s r) (changeRecord f (fun _ => evaluated s f r) s)

theorem evaluateFace_of_none (h : s.face.records.get f = none) : evaluateFace s f = s := by
  unfold evaluateFace
  rw [h]

theorem evaluateFace_of_record (h : s.face.records.get f = some r) :
    evaluateFace s f = stepSuppress f (evaluated s f r) (stepped s f r) := by
  unfold evaluateFace
  rw [h]
  simp only [evaluateRecord_runoff]
  rfl

theorem stepped_get_same (h : s.face.records.get f = some r) :
    (stepped s f r).face.records.get f = some (evaluated s f r) := by
  show (changeRecord f (fun _ => evaluated s f r) s).face.records.get f = _
  rw [changeRecord_get, if_pos rfl, h]
  rfl

theorem stepped_get_ne (h : g ≠ f) : (stepped s f r).face.records.get g = s.face.records.get g := by
  show (changeRecord f (fun _ => evaluated s f r) s).face.records.get g = _
  rw [changeRecord_get, if_neg h]

theorem evaluateFace_timer (s : State) (f : FaceId) : (evaluateFace s f).face.timer = s.face.timer := by
  cases h : s.face.records.get f with
  | none => rw [evaluateFace_of_none h]
  | some r =>
    rw [evaluateFace_of_record h]
    exact (stepSuppress_sized f _ _).timer

/-- The record of the face itself. -/
theorem evaluateFace_get_same (h : s.face.records.get f = some r) :
    ∃ p z, (evaluateFace s f).face.records.get f = some { evaluated s f r with lastPrewet := p, lastSizing := z } := by
  rw [evaluateFace_of_record h]
  have hs := (stepSuppress_sized f (evaluated s f r) (stepped s f r)).records f
  rw [stepped_get_same h] at hs
  rcases hs with ⟨hn, -⟩ | ⟨r', p, z, hr, ht, -⟩
  · cases hn
  · cases hr
    exact ⟨p, z, ht⟩

/-- The record of another face. -/
theorem evaluateFace_get_ne (h : g ≠ f) :
    (s.face.records.get g = none ∧ (evaluateFace s f).face.records.get g = none)
      ∨ ∃ r p, s.face.records.get g = some r
        ∧ (evaluateFace s f).face.records.get g = some { r with lastPrewet := p } := by
  cases hf : s.face.records.get f with
  | none =>
    rw [evaluateFace_of_none hf]
    cases hg : s.face.records.get g with
    | none => exact .inl ⟨rfl, rfl⟩
    | some r => exact .inr ⟨r, r.lastPrewet, rfl, rfl⟩
  | some r =>
    rw [evaluateFace_of_record hf]
    have hs := (stepSuppress_sized f (evaluated s f r) (stepped s f r)).records g
    rw [stepped_get_ne h] at hs
    rcases hs with hn | ⟨r', p, z, hr, ht, hz⟩
    · exact .inl hn
    · rw [hz h] at ht
      exact .inr ⟨r', p, hr, ht⟩

end Face

/-- The records after the faces of a list have been evaluated: those of the list evaluated, the others as they were. -/
theorem foldl_evaluateFace_get {l : List FaceId} (hl : l.Nodup) (s : State) (g : FaceId) :
    (s.face.records.get g = none → (l.foldl evaluateFace s).face.records.get g = none)
      ∧ ∀ r, s.face.records.get g = some r →
        (g ∈ l → ∃ p z, (l.foldl evaluateFace s).face.records.get g =
            some { evaluated s g r with lastPrewet := p, lastSizing := z })
          ∧ (g ∉ l → ∃ p, (l.foldl evaluateFace s).face.records.get g = some { r with lastPrewet := p }) := by
  induction l generalizing s with
  | nil => exact ⟨id, fun r hr => ⟨nofun, fun _ => ⟨r.lastPrewet, hr⟩⟩⟩
  | cons f l ih =>
    obtain ⟨hf, hl⟩ := List.nodup_cons.1 hl
    obtain ⟨ihn, ihs⟩ := ih hl (evaluateFace s f)
    rw [List.foldl_cons]
    refine ⟨fun hn => ihn ?_, fun r hr => ⟨fun hg => ?_, fun hg => ?_⟩⟩
    · by_cases hgf : g = f
      · rw [← hgf, evaluateFace_of_none hn, hn]
      · rcases evaluateFace_get_ne (s := s) hgf with ⟨-, h⟩ | ⟨r, _, h, -⟩
        · exact h
        · rw [hn] at h
          cases h
    · rcases List.mem_cons.1 hg with rfl | hg
      · obtain ⟨p, z, h⟩ := evaluateFace_get_same hr
        obtain ⟨p', h'⟩ := (ihs _ h).2 hf
        exact ⟨p', z, h'⟩
      · have hgf : g ≠ f := fun h => hf (h ▸ hg)
        rcases evaluateFace_get_ne (s := s) hgf with ⟨h, -⟩ | ⟨r', p, h, h'⟩
        · rw [hr] at h
          cases h
        · rw [hr] at h
          cases h
          obtain ⟨p', z, ht⟩ := (ihs _ h').1 hg
          rw [(evaluateFace_weather s f).evaluated] at ht
          exact ⟨p', z, ht⟩
    · obtain ⟨hgf, hg⟩ := not_or.1 (fun h => hg (List.mem_cons.2 h))
      rcases evaluateFace_get_ne (s := s) hgf with ⟨h, -⟩ | ⟨r', p, h, h'⟩
      · rw [hr] at h
        cases h
      · rw [hr] at h
        cases h
        exact (ihs _ h').2 hg

theorem foldl_evaluateFace_timer (l : List FaceId) (s : State) :
    (l.foldl evaluateFace s).face.timer = s.face.timer := by
  induction l generalizing s with
  | nil => rfl
  | cons f l ih => exact (ih _).trans (evaluateFace_timer s f)

/-! ### The day's runoff (R28, R114) -/

/-- The account with the runoff of several faces credited. -/
def Account.runoffCredited (litres : List Nat) (a : Account) : Account :=
  if litres = [] then a else { a with today := { a.today with runoff := min 4294967295 (a.today.runoff + litres.sum) } }

/-- The runoff litres of the faces of a list that have a record. -/
def litresOf (s : State) (l : List FaceId) : List Nat :=
  l.filterMap fun f => (s.face.records.get f).map (runoffFormed s)

theorem runoffCredited_cons (n : Nat) (litres : List Nat) (a : Account) :
    Account.runoffCredited litres { a with today := { a.today with runoff := satAdd maxU32 a.today.runoff n } } =
      Account.runoffCredited (n :: litres) a := by
  have hsum : min 4294967295 (satAdd maxU32 a.today.runoff n + litres.sum) =
      min 4294967295 (a.today.runoff + (n :: litres).sum) := by
    unfold satAdd maxU32
    rw [List.sum_cons]
    omega
  unfold Account.runoffCredited
  rw [if_neg (List.cons_ne_nil n litres)]
  split
  · rename_i h
    rw [h]
    rfl
  · simp only [hsum]

theorem evaluateFace_account (s : State) (f : FaceId) :
    (evaluateFace s f).account = (s.account.runoffCredited (litresOf s [f])) := by
  cases h : s.face.records.get f with
  | none =>
    rw [evaluateFace_of_none h]
    unfold litresOf
    rw [List.filterMap_cons_none (by rw [h]; rfl)]
    rfl
  | some r =>
    have hstep : (stepSuppress f (evaluated s f r) (stepped s f r)).account = (stepped s f r).account :=
      stepSuppress_only _ _ _ .account (by decide)
    rw [evaluateFace_of_record h, hstep]
    unfold litresOf
    rw [List.filterMap_cons_some (by rw [h]; rfl), List.filterMap_nil]
    exact (runoffCredited_cons (runoffFormed s r) [] s.account)

/-- What the faces of a list still form is not changed by the evaluation of another. -/
theorem litresOf_evaluateFace {s : State} {f : FaceId} {l : List FaceId} (hf : f ∉ l) :
    litresOf (evaluateFace s f) l = litresOf s l := by
  unfold litresOf
  refine filterMap_congr_mem fun g hg => ?_
  have hgf : g ≠ f := fun h => hf (h ▸ hg)
  rw [(evaluateFace_weather s f).runoff]
  rcases evaluateFace_get_ne (s := s) hgf with ⟨h, h'⟩ | ⟨r, p, h, h'⟩ <;> rw [h, h']
  rfl

theorem foldl_evaluateFace_account {l : List FaceId} (hl : l.Nodup) (s : State) :
    (l.foldl evaluateFace s).account = s.account.runoffCredited (litresOf s l) := by
  induction l generalizing s with
  | nil => rfl
  | cons f l ih =>
    obtain ⟨hf, hl⟩ := List.nodup_cons.1 hl
    rw [List.foldl_cons, ih hl, litresOf_evaluateFace hf, evaluateFace_account]
    unfold litresOf
    cases h : s.face.records.get f with
    | none =>
      rw [List.filterMap_cons_none (by rw [h]; rfl), List.filterMap_cons_none (by rw [h]; rfl)]
      rfl
    | some r =>
      rw [List.filterMap_cons_some (by rw [h]; rfl), List.filterMap_cons_some (by rw [h]; rfl), List.filterMap_nil,
        ← runoffCredited_cons (runoffFormed s r) [] s.account, ← runoffCredited_cons (runoffFormed s r) _ s.account]
      rfl

theorem litresOf_allFaces (s : State) :
    (litresOf s allFaces).sum = (s.face.records.toList.map fun r => (r.map (runoffFormed s)).getD 0).sum := by
  have hall : ∀ (l : List FaceId), (litresOf s l).sum =
      (l.map fun f => ((s.face.records.get f).map (runoffFormed s)).getD 0).sum := by
    intro l
    induction l with
    | nil => rfl
    | cons f l ih =>
      unfold litresOf at *
      rw [List.map_cons, List.sum_cons, ← ih]
      cases h : s.face.records.get f with
      | none => rw [List.filterMap_cons_none (by rw [h]; rfl)]; exact (Nat.zero_add _).symm
      | some r => rw [List.filterMap_cons_some (by rw [h]; rfl), List.sum_cons]; rfl
  exact hall allFaces

theorem litresOf_eq_nil (s : State) : litresOf s allFaces = [] ↔ ∀ f, s.face.records.get f = none := by
  unfold litresOf
  rw [List.filterMap_eq_nil_iff]
  exact ⟨fun h f => Option.map_eq_none_iff.1 (h f (mem_allFaces f)), fun h f _ => by rw [h f]; rfl⟩

/-! ### The fields of an evaluated record (R25 to R31) -/

theorem evaluated_fields (s : State) (f : FaceId) (r : FaceRecord) :
    let w := s.wind.record.speed
    let e := if s.wind.record.source = .fallback then 16
      else exposure (angleDiff s.wind.record.bearing r.desc.normal)
    let sum := r.rd + r.desc.kd * (w + 20) * e
    let total := r.rs + r.pendingSpray * r.desc.kw
    let rain := r.pendingRain * r.desc.kw / 5
    let m := min r.desc.msat (r.m - sum / 8192 + rain + total / r.desc.area)
    let weff := w * e / 16
    let wt := min 400 (r.desc.wt0 + m * r.desc.km / 100)
    let active := (r.desc.contact && s.pins.contacts.get f)
      || (workingMachines s.sec s.peers.entries).any (machineNear r.desc)
    let index := min 255 ((weff - wt) * (weff - wt) / 64 + if active then r.desc.ka else 0)
    evaluated s f r =
      { r with
        m := m, rd := if sum / 8192 ≤ r.m then sum % 8192 else 0, rs := total % r.desc.area, pendingRain := 0
        pendingSpray := 0, estimated := r.estimated && decide (rain = 0) && decide (total / r.desc.area = 0)
        runoff := min 4294967295 (r.runoff + runoffFormed s r), active := active, index := index
        cls := nextClass s.cfg index r.cls, lastEval := some { time := s.sec, e := e, weff := weff, wt := wt } } := by
  unfold evaluated evaluateRecord stepGains stepDrying
  simp only [dry_eq]
  rfl

end Sys2Proof.Machine
end


section
/-! PROOFS. The SUPPRESS entries of the queue under step 8 and under the look-ahead run, and an evaluation whole (R33 to
R36, R49; O9). -/

namespace Sys2Proof.Machine

/-! ### Step 8 of a face, where no selection can be tried -/

/-- A station that takes demands, with a closed request. -/
structure SizingReady (s : State) : Prop where
  request : s.queue.request = false
  inv : queueInv s.queue
  operational : s.operational = true
  litres : 0 < s.cfg.vMin

/-- The SUPPRESS demand of a face (R35). -/
def suppressOffer (f : FaceId) (v : Nat) : Offer :=
  { face := f, cls := .suppress, volume := v, origin := .localRisk, deadline := none }

section Step

variable {s : State} {f : FaceId} {r : FaceRecord} {v : Nat}

theorem suppressVolume_eq (c : Configuration) (d : FaceDesc) (weff m : Nat) :
    suppressVolume c d weff m = suppressLitres c d weff m := rfl

/-- A SUPPRESS demand of a face without one is added where the queue has room. -/
theorem offerDemand_suppress (hs : SizingReady s) (hr : (s.face.records.get f).isSome = true) (hv : v ≠ 0)
    (hroom : s.queue.entries.length < 8) (hno : ∀ e ∈ s.queue.entries, ¬ (e.face = f ∧ e.cls = .suppress)) :
    offerDemand (suppressOffer f v) s = (addEntry (suppressOffer f v) s, .added) := by
  have hadm : admitOffer (suppressOffer f v) s = (addEntry (suppressOffer f v) s, .added) := by
    rw [admitOffer_new (takesOffer_iff.mpr ⟨hs.operational, hr, hv⟩) hno]
    exact if_pos hroom
  rw [offerDemand_taken (by rw [hadm]; exact .inr rfl), hadm, passOffered_of_class (o := suppressOffer f v) nofun,
    preempt_of_class (o := suppressOffer f v) nofun,
    trySelection_of_closed (by exact hs.request)]

theorem offerSuppress_of_held {e : Entry} (hs : SizingReady s) (he : e ∈ s.queue.entries) (hf : e.face = f)
    (hc : e.cls = .suppress) :
    offerSuppress f v s =
      recordSizing f (some v) .updated
        (s.setEntries
          (changeEntry f .suppress (fun e => { e with requested := min maxU16 (max (e.delivered + 1) v) })
            s.queue.entries)) := by
  refine if_pos ?_
  rw [← hf, ← hc, findEntry_of_mem ((queueInv_iff _).mp hs.inv).1 he]
  rfl

theorem offerSuppress_of_none (hs : SizingReady s) (hr : (s.face.records.get f).isSome = true) (hv : v ≠ 0)
    (hroom : s.queue.entries.length < 8) (hno : ∀ e ∈ s.queue.entries, ¬ (e.face = f ∧ e.cls = .suppress)) :
    offerSuppress f v s = recordSizing f (some v) .added (addEntry (suppressOffer f v) s) := by
  unfold offerSuppress
  rw [if_neg (by rw [findEntry_isNone.mpr hno]; exact nofun)]
  have ho := offerDemand_suppress hs hr hv hroom hno
  unfold suppressOffer at ho
  rw [ho]
  rfl

theorem withdrawSuppress_of_none (hno : ∀ e ∈ s.queue.entries, ¬ (e.face = f ∧ e.cls = .suppress)) :
    withdrawSuppress f s = recordSizing f none .none s := by
  have hn : findEntry f .suppress s.queue.entries = none :=
    Option.isSome_eq_false_iff.1 (findEntry_isNone.mpr hno) |> Option.isNone_iff_eq_none.1
  unfold withdrawSuppress
  rw [hn]

theorem withdrawSuppress_of_held {e : Entry} (hs : SizingReady s) (he : e ∈ s.queue.entries) (hf : e.face = f)
    (hc : e.cls = .suppress) :
    withdrawSuppress f s =
      if e.running then (recordSizing f (Config.freeSizing s.free).1 (Config.freeSizing s.free).2 s).drawFree
      else recordSizing f none .removed (removeEntry .withdrawn e s) := by
  unfold withdrawSuppress
  rw [← hf, ← hc, findEntry_of_mem ((queueInv_iff _).mp hs.inv).1 he]

/-- All that step 8 can make of the queue and of the last sizing, where no selection can be tried (R33 to R36). -/
theorem stepSuppress_cases (hs : SizingReady s) (hr : s.face.records.get f = some r) (hroom : s.queue.entries.length < 8)
    (hv : v = suppressVolume s.cfg r.desc (r.lastEval.map LastEval.weff |>.getD 0) r.m) (hpos : v ≠ 0) :
    let held := fun e : Entry => e.face = f ∧ e.cls = .suppress
    (r.cls = .act ∧ s.chainRuns f = true ∧ stepSuppress f r s = recordSizing f none .skipped s)
      ∨ (r.cls = .act ∧ s.chainRuns f = false ∧ (∃ e ∈ s.queue.entries, held e)
        ∧ stepSuppress f r s =
          recordSizing f (some v) .updated
            (s.setEntries
              (changeEntry f .suppress (fun e => { e with requested := min maxU16 (max (e.delivered + 1) v) })
                s.queue.entries)))
      ∨ (r.cls = .act ∧ s.chainRuns f = false ∧ (∀ e ∈ s.queue.entries, ¬ held e)
        ∧ stepSuppress f r s = recordSizing f (some v) .added (addEntry (suppressOffer f v) s))
      ∨ (r.cls = .watch ∧ stepSuppress f r s = recordSizing f none .held s)
      ∨ (r.cls = .quiet ∧ (∀ e ∈ s.queue.entries, ¬ held e) ∧ stepSuppress f r s = recordSizing f none .none s)
      ∨ (r.cls = .quiet ∧ ∃ e ∈ s.queue.entries, held e ∧ e.running = true
        ∧ ∃ a b, stepSuppress f r s = (recordSizing f a b s).drawFree)
      ∨ (r.cls = .quiet ∧ ∃ e ∈ s.queue.entries, held e ∧ e.running = false
        ∧ stepSuppress f r s = recordSizing f none .removed (removeEntry .withdrawn e s)) := by
  intro held
  unfold stepSuppress
  by_cases hex : ∃ e ∈ s.queue.entries, held e
  case pos =>
    obtain ⟨e, he, hf, hc⟩ := hex
    cases r.cls with
    | act =>
      cases hrun : s.chainRuns f with
      | true => exact .inl ⟨rfl, rfl, if_pos rfl⟩
      | false =>
        refine .inr (.inl ⟨rfl, rfl, ⟨e, he, hf, hc⟩, ?_⟩)
        simp only [Bool.false_eq_true, if_false]
        rw [← hv, offerSuppress_of_held hs he hf hc]
    | watch => exact .inr (.inr (.inr (.inl ⟨rfl, rfl⟩)))
    | quiet =>
      have hw := withdrawSuppress_of_held hs he hf hc
      by_cases hrun : e.running = true
      · exact .inr (.inr (.inr (.inr (.inr (.inl ⟨rfl, e, he, ⟨hf, hc⟩, hrun, _, _, hw.trans (if_pos hrun)⟩)))))
      · exact .inr (.inr (.inr (.inr (.inr (.inr ⟨rfl, e, he, ⟨hf, hc⟩, Bool.eq_false_iff.2 hrun, hw.trans (if_neg hrun)⟩)))))
  case neg =>
    have hno : ∀ e ∈ s.queue.entries, ¬ held e := fun e he h => hex ⟨e, he, h⟩
    cases r.cls with
    | act =>
      cases hrun : s.chainRuns f with
      | true => exact .inl ⟨rfl, rfl, if_pos rfl⟩
      | false =>
        refine .inr (.inr (.inl ⟨rfl, rfl, hno, ?_⟩))
        simp only [Bool.false_eq_true, if_false]
        rw [← hv, offerSuppress_of_none hs (by rw [hr]; rfl) hpos hroom hno]
    | watch => exact .inr (.inr (.inr (.inl ⟨rfl, rfl⟩)))
    | quiet => exact .inr (.inr (.inr (.inr (.inl ⟨rfl, hno, withdrawSuppress_of_none hno⟩))))

/-! ### The entries and the sizing of that step -/

theorem addEntry_mem {o : Offer} {e : Entry} :
    e ∈ (addEntry o s).queue.entries ↔ e ∈ s.queue.entries ∨ e = o.entry s.sec := by
  show e ∈ s.queue.entries ++ [o.entry s.sec] ↔ _
  rw [List.mem_append, List.mem_singleton]

/-- Step 8 of a face: the request stays closed, the queue grows by one entry at most, and the entries of the other faces
stand. -/
structure StepQueue (f : FaceId) (s t : State) : Prop where
  request : t.queue.request = false
  length : t.queue.entries.length ≤ s.queue.entries.length + 1
  others : ∀ e : Entry, e.face ≠ f → (e ∈ t.queue.entries ↔ e ∈ s.queue.entries)

theorem stepQueue_of_same {t : State} (hs : SizingReady s) (h : t.queue = s.queue) : StepQueue f s t :=
  ⟨by rw [h]; exact hs.request, by rw [h]; omega, fun e _ => by rw [h]⟩

theorem stepSuppress_queue (hs : SizingReady s) (hr : s.face.records.get f = some r)
    (hroom : s.queue.entries.length < 8)
    (hv : v = suppressVolume s.cfg r.desc (r.lastEval.map LastEval.weff |>.getD 0) r.m) (hpos : v ≠ 0) :
    StepQueue f s (stepSuppress f r s) := by
  rcases stepSuppress_cases hs hr hroom hv hpos with ⟨-, -, h⟩ | ⟨-, -, -, h⟩ | ⟨-, -, -, h⟩ | ⟨-, h⟩ | ⟨-, -, h⟩ |
    ⟨-, e, -, -, -, a, b, h⟩ | ⟨-, e, he, ⟨hf, hc⟩, -, h⟩ <;> rw [h]
  · exact stepQueue_of_same hs rfl
  · refine ⟨hs.request, Nat.le_succ_of_le (Nat.le_of_eq (changeEntry_length _ _ _ _)), fun e he => ?_⟩
    refine mem_changeEntry.trans ⟨fun h => ?_, fun h => .inl ⟨h, fun hk => he hk.1⟩⟩
    rcases h with ⟨h, -⟩ | ⟨x, -, hx, -, rfl⟩
    · exact h
    · exact absurd hx he
  · refine ⟨hs.request, Nat.le_of_eq List.length_append, fun e he => ?_⟩
    refine addEntry_mem.trans (or_iff_left ?_)
    rintro rfl
    exact he rfl
  · exact stepQueue_of_same hs rfl
  · exact stepQueue_of_same hs rfl
  · exact stepQueue_of_same hs rfl
  · have hentries : (recordSizing f none .removed (removeEntry .withdrawn e s)).queue.entries =
        dropEntry e.face e.cls s.queue.entries := removeEntry_queue _ _ _
    refine ⟨(removeEntry_request _ _ _).trans hs.request, ?_, fun x hx => ?_⟩
    · rw [hentries]
      exact Nat.le_succ_of_le (List.length_filter_le _ _)
    · rw [hentries, mem_dropEntry]
      exact and_iff_left fun h => hx (h.1.trans hf)

/-- The last sizing that step 8 writes. -/
theorem recordSizing_last {a : Option Nat} {o : SizingOutcome} {u : State} {r' : FaceRecord}
    (h : (recordSizing f a o u).face.records.get f = some r') : r'.lastSizing = some { volume := a, outcome := o } := by
  rw [recordSizing_get_same] at h
  obtain ⟨x, -, rfl⟩ := Option.map_eq_some_iff.1 h
  rfl

/-- What step 8 leaves of a face (R33 to R36). -/
theorem stepSuppress_sizedBy (hs : SizingReady s) (hr : s.face.records.get f = some r)
    (hroom : s.queue.entries.length < 8)
    (hv : v = suppressVolume s.cfg r.desc (r.lastEval.map LastEval.weff |>.getD 0) r.m) (hpos : v ≠ 0)
    {r' : FaceRecord} (hcls : r'.cls = r.cls) (hr' : (stepSuppress f r s).face.records.get f = some r') :
    sizedBy s (stepSuppress f r s) f v r' := by
  have hinv := ((queueInv_iff _).mp hs.inv).1
  unfold sizedBy
  rw [hcls]
  rcases stepSuppress_cases hs hr hroom hv hpos with ⟨hk, hrun, h⟩ | ⟨hk, hrun, ⟨e0, he0, hf0, hc0⟩, h⟩ |
    ⟨hk, hrun, hno, h⟩ | ⟨hk, h⟩ | ⟨hk, hno, h⟩ | ⟨hk, e0, he0, ⟨hf0, hc0⟩, hrun, a, b, h⟩ |
    ⟨hk, e0, he0, ⟨hf0, hc0⟩, hrun, h⟩ <;> rw [hk] <;> rw [h] at hr' ⊢
  · refine ⟨nofun, fun _ _ => recordSizing_last hr', fun _ hstill => ?_, nofun, nofun⟩
    obtain ⟨e, he, hf, hr⟩ := chainRuns_iff.1 hrun
    rw [hstill e he hf] at hr
    cases hr
  · refine ⟨nofun, fun _ hex => ?_, fun _ _ => ⟨fun e he ⟨hf, hc⟩ => ⟨recordSizing_last hr', ?_⟩,
      fun hn => ?_⟩, nofun, nofun⟩
    · rw [chainRuns_iff.2 hex] at hrun
      cases hrun
    · exact mem_changeEntry.mpr (.inr ⟨e, he, hf, hc, rfl⟩)
    · exact absurd ⟨hf0, hc0⟩ (hn e0 he0)
  · refine ⟨nofun, fun _ hex => ?_, fun _ _ => ⟨fun e he hheld => absurd hheld (hno e he),
      fun _ => ⟨recordSizing_last hr', addEntry_mem.mpr (.inr rfl)⟩⟩, nofun, nofun⟩
    rw [chainRuns_iff.2 hex] at hrun
    cases hrun
  · exact ⟨fun _ => ⟨recordSizing_last hr', fun e he _ => he⟩, nofun, nofun, nofun, nofun⟩
  · exact ⟨nofun, nofun, nofun, fun _ _ => recordSizing_last hr', fun _ e he hheld => absurd hheld (hno e he)⟩
  · refine ⟨nofun, nofun, nofun, fun _ hn => absurd ⟨hf0, hc0⟩ (hn e0 he0),
      fun _ e he ⟨hf, hc⟩ => ⟨fun _ => he, fun hno => ?_⟩⟩
    rw [entry_unique hinv he he0 (hf.trans hf0.symm) (hc.trans hc0.symm), hrun] at hno
    cases hno
  · have hentries : (recordSizing f none .removed (removeEntry .withdrawn e0 s)).queue.entries =
        dropEntry e0.face e0.cls s.queue.entries := removeEntry_queue _ _ _
    refine ⟨nofun, nofun, nofun, fun _ hn => absurd ⟨hf0, hc0⟩ (hn e0 he0),
      fun _ e he ⟨hf, hc⟩ =>
      ⟨fun hyes => ?_, fun _ => ⟨recordSizing_last hr', fun x hx ⟨hxf, hxc⟩ => ?_⟩⟩⟩
    · rw [entry_unique hinv he he0 (hf.trans hf0.symm) (hc.trans hc0.symm), hrun] at hyes
      cases hyes
    · rw [hentries, mem_dropEntry] at hx
      exact hx.2 ⟨hxf.trans hf0.symm, hxc.trans hc0.symm⟩


end Step

/-! ### Every face -/

/-- The SUPPRESS volume of a face whose record after the evaluation is `r`. -/
def suppressOf (s : State) (r : FaceRecord) : Nat :=
  suppressLitres s.cfg r.desc ((r.lastEval.map LastEval.weff).getD 0) r.m

theorem suppressOf_pos {s : State} (h : 0 < s.cfg.vMin) (r : FaceRecord) : suppressOf s r ≠ 0 :=
  Nat.pos_iff_ne_zero.1 (Nat.lt_of_lt_of_le h (Nat.le_max_left _ _))

/-- What step 8 says of a face reads the entries of that face alone, and its SUPPRESS entry afterwards. -/
theorem sizedBy_congr {s s' t t' : State} {f : FaceId} {v : Nat} {r r' : FaceRecord} (h : sizedBy s t f v r)
    (hs : ∀ e : Entry, e.face = f → (e ∈ s'.queue.entries ↔ e ∈ s.queue.entries)) (hnow : s'.now = s.now)
    (ht : ∀ e : Entry, e.face = f → e.cls = .suppress → (e ∈ t'.queue.entries ↔ e ∈ t.queue.entries))
    (hcls : r'.cls = r.cls) (hlast : r'.lastSizing = r.lastSizing) : sizedBy s' t' f v r' := by
  have hsec : s'.sec = s.sec := congrArg (fun n : Nat => n / 1000) hnow
  unfold sizedBy at *
  rw [hcls, hlast, hsec]
  obtain ⟨hwatch, hskip, hact, hnone, hquiet⟩ := h
  refine ⟨fun hk => ⟨(hwatch hk).1, fun e he hh => ?_⟩, fun hk ⟨e, he, hf, hr⟩ => hskip hk ⟨e, (hs e hf).1 he, hf, hr⟩,
    fun hk hstill => ?_, fun hk hno => hnone hk fun e he hh => hno e ((hs e hh.1).2 he) hh, fun hk e he hh => ?_⟩
  · exact (ht e hh.1 hh.2).2 ((hwatch hk).2 e ((hs e hh.1).1 he) hh)
  · obtain ⟨hup, hadd⟩ := hact hk fun e he hf => hstill e ((hs e hf).2 he) hf
    refine ⟨fun e he hh => ?_, fun hno => ?_⟩
    · obtain ⟨h1, h2⟩ := hup e ((hs e hh.1).1 he) hh
      exact ⟨h1, (ht _ (by exact hh.1) (by exact hh.2)).2 h2⟩
    · obtain ⟨h1, h2⟩ := hadd fun e he hh => hno e ((hs e hh.1).2 he) hh
      exact ⟨h1, (ht _ rfl rfl).2 h2⟩
  · obtain ⟨h1, h2⟩ := hquiet hk e ((hs e hh.1).1 he) hh
    refine ⟨fun hr => (ht e hh.1 hh.2).2 (h1 hr), fun hr => ⟨(h2 hr).1, fun x hx hxh => ?_⟩⟩
    exact (h2 hr).2 x ((ht x hxh.1 hxh.2).1 hx) hxh

section Evaluate

variable {s : State} {f : FaceId}

theorem SizingReady.congr {t : State} (hs : SizingReady s) (hr : t.queue.request = false) (hq : queueInv t.queue)
    (hst : t.station = s.station) : SizingReady t := by
  refine ⟨hr, hq, ?_, ?_⟩
  · rw [State.operational, hst]
    exact hs.operational
  · rw [State.cfg, hst]
    exact hs.litres

theorem stepped_ready (hs : SizingReady s) (r : FaceRecord) : SizingReady (stepped s f r) :=
  hs.congr hs.request hs.inv rfl

theorem evaluateFace_queue (hs : SizingReady s) (hroom : s.queue.entries.length < 8) (f : FaceId) :
    StepQueue f s (evaluateFace s f) := by
  cases h : s.face.records.get f with
  | none => rw [evaluateFace_of_none h]; exact stepQueue_of_same hs rfl
  | some r =>
    have hq := stepSuppress_queue (stepped_ready hs r) (stepped_get_same h) hroom rfl
      (suppressOf_pos (s := stepped s f r) hs.litres (evaluated s f r))
    rw [evaluateFace_of_record h]
    exact ⟨hq.request, hq.length, hq.others⟩

theorem evaluateFace_ready (hs : SizingReady s) (hroom : s.queue.entries.length < 8) (f : FaceId) :
    SizingReady (evaluateFace s f) :=
  hs.congr (evaluateFace_queue hs hroom f).request ((evaluateFace_kept s f).queue hs.inv)
    (evaluateFace_weather s f).station

theorem evaluateFace_sizedBy (hs : SizingReady s) (hroom : s.queue.entries.length < 8) {r r' : FaceRecord}
    (hr : s.face.records.get f = some r) (hr' : (evaluateFace s f).face.records.get f = some r') :
    sizedBy s (evaluateFace s f) f (suppressOf s r') r' := by
  obtain ⟨p, z, hform⟩ := evaluateFace_get_same hr
  rw [hr'] at hform
  cases hform
  rw [evaluateFace_of_record hr] at hr' ⊢
  have hsized := stepSuppress_sizedBy (r' := { evaluated s f r with lastPrewet := p, lastSizing := z })
    (stepped_ready hs r) (stepped_get_same hr) hroom rfl
    (suppressOf_pos (s := stepped s f r) hs.litres (evaluated s f r)) rfl hr'
  exact sizedBy_congr hsized (fun _ _ => Iff.rfl) rfl (fun _ _ _ => Iff.rfl) rfl rfl

end Evaluate

/-- Step 8 of the faces of a list, where the queue has room for an entry of each. -/
theorem foldl_evaluateFace_sized {l : List FaceId} (hl : l.Nodup) {s : State} (hs : SizingReady s)
    (hroom : s.queue.entries.length + l.length ≤ 8) :
    SizingReady (l.foldl evaluateFace s)
      ∧ (∀ e : Entry, e.face ∉ l → (e ∈ (l.foldl evaluateFace s).queue.entries ↔ e ∈ s.queue.entries))
      ∧ ∀ f ∈ l, ∀ r r', s.face.records.get f = some r → (l.foldl evaluateFace s).face.records.get f = some r' →
          sizedBy s (l.foldl evaluateFace s) f (suppressOf s r') r' := by
  induction l generalizing s with
  | nil => exact ⟨hs, fun _ _ => Iff.rfl, nofun⟩
  | cons f l ih =>
    obtain ⟨hf, hnd⟩ := List.nodup_cons.1 hl
    rw [List.length_cons] at hroom
    have hroom1 : s.queue.entries.length < 8 := by omega
    have hq := evaluateFace_queue hs hroom1 f
    have hw := evaluateFace_weather s f
    have hlen := hq.length
    obtain ⟨ihr, ihq, ihs⟩ := ih hnd (evaluateFace_ready hs hroom1 f) (by omega)
    rw [List.foldl_cons]
    refine ⟨ihr, fun e he => ?_, fun g hg r r' hr hr' => ?_⟩
    · obtain ⟨hef, hel⟩ := not_or.1 (fun h => he (List.mem_cons.2 h))
      exact (ihq e hel).trans (hq.others e hef)
    · have hv : suppressOf (evaluateFace s f) r' = suppressOf s r' := by
        unfold suppressOf State.cfg
        rw [hw.station]
      rcases List.mem_cons.1 hg with rfl | hgl
      · obtain ⟨x, h1⟩ : ∃ x, (evaluateFace s g).face.records.get g = some x := by
          obtain ⟨p, z, h1⟩ := evaluateFace_get_same hr
          exact ⟨_, h1⟩
        obtain ⟨p', h2⟩ := ((foldl_evaluateFace_get hnd (evaluateFace s g) g).2 x h1).2 hf
        rw [hr'] at h2
        cases h2
        have hsized := evaluateFace_sizedBy hs hroom1 hr h1
        exact sizedBy_congr hsized (fun _ _ => Iff.rfl) rfl
          (fun e he _ => ihq e (by rw [he]; exact hf)) rfl rfl
      · have hgf : g ≠ f := fun h => hf (h ▸ hgl)
        rcases evaluateFace_get_ne (s := s) hgf with ⟨h, -⟩ | ⟨x, p, -, h⟩
        · rw [hr] at h
          cases h
        · have hsized := ihs g hgl _ r' h hr'
          rw [hv] at hsized
          exact sizedBy_congr hsized (fun e he => (hq.others e (he ▸ hgf)).symm) hw.now.symm (fun _ _ _ => Iff.rfl) rfl rfl

/-! ### The look-ahead run after it -/

/-- The SUPPRESS entries stand, and the request is as it was. -/
structure SuppressStands (s t : State) : Prop where
  request : t.queue.request = s.queue.request
  entries : ∀ e : Entry, e.cls = .suppress → (e ∈ t.queue.entries ↔ e ∈ s.queue.entries)

theorem SuppressStands.refl (s : State) : SuppressStands s s := ⟨rfl, fun _ _ => Iff.rfl⟩

theorem SuppressStands.trans {s t u : State} (h : SuppressStands s t) (k : SuppressStands t u) : SuppressStands s u :=
  ⟨k.request.trans h.request, fun e he => (k.entries e he).trans (h.entries e he)⟩

theorem stands_changeEntry {s : State} {f : FaceId} {c : DemandClass} {g : Entry → Entry} (hc : c ≠ .suppress)
    (hg : ∀ e, (g e).cls = e.cls) : SuppressStands s (s.setEntries (changeEntry f c g s.queue.entries)) := by
  refine ⟨rfl, fun e he => mem_changeEntry.trans ⟨fun h => ?_, fun h => .inl ⟨h, fun hk => hc (hk.2.symm.trans he)⟩⟩⟩
  rcases h with ⟨h, -⟩ | ⟨x, -, -, hx, rfl⟩
  · exact h
  · exact absurd (hx.symm.trans ((hg x).symm.trans he)) hc

theorem stands_removeEntry {s : State} {e : Entry} (reason : RemovalReason) (h : e.cls ≠ .suppress) :
    SuppressStands s (removeEntry reason e s) := by
  refine ⟨removeEntry_request _ _ _, fun x hx => ?_⟩
  rw [removeEntry_queue, mem_dropEntry]
  exact and_iff_left fun hk => h (hk.2.symm.trans hx)

theorem stands_addEntry {s : State} {o : Offer} (h : o.cls ≠ .suppress) : SuppressStands s (addEntry o s) := by
  refine ⟨rfl, fun x hx => addEntry_mem.trans (or_iff_left ?_)⟩
  rintro rfl
  exact h hx

theorem admitOffer_prewet_stands (f : FaceId) (v d : Nat) (s : State) :
    SuppressStands s (admitOffer (prewetOffer f v d) s).1 := by
  have hadd : ∀ u, SuppressStands u (addEntry (prewetOffer f v d) u) := fun u => stands_addEntry (by exact nofun)
  unfold admitOffer
  split
  · exact .refl s
  split
  · exact stands_changeEntry (by exact nofun) fun _ => rfl
  split
  · exact hadd s
  split
  · rename_i hlow
    split
    · rename_i e he
      obtain ⟨-, hrank, -⟩ := latestWaiting_mem he
      refine (stands_removeEntry .evicted fun hc => ?_).trans (hadd _)
      rw [← hrank, hc] at hlow
      exact absurd hlow (by show ¬ 2 < 1; decide)
    · exact .refl s
  · exact .refl s

theorem passOffered_stands {o : Offer} (h : o.cls ≠ .suppress) (s : State) : SuppressStands s (passOffered o s) := by
  unfold passOffered
  split
  · rename_i e he
    have hc : e.cls ≠ .suppress := by
      obtain ⟨hfind, -⟩ := Option.filter_eq_some_iff.1 he
      rw [(findEntry_some hfind).2.2]
      exact h
    unfold passDeadline
    split
    · exact stands_changeEntry hc fun _ => rfl
    · exact stands_removeEntry .deadline hc
  · exact .refl s

theorem offerPrewet_stands {s : State} (h : s.queue.request = false) (f : FaceId) (v d : Nat) :
    SuppressStands s (offerPrewet f v d s).1 := by
  cases hc : s.chainRuns f with
  | true =>
    rw [offerPrewet_of_running hc]
    exact .refl s
  | false =>
    have hadm := admitOffer_prewet_stands f v d s
    rw [(offerPrewet_of_still hc).1]
    rcases offerDemand_cases (prewetOffer f v d) s with ⟨-, ho⟩ | ⟨-, ho⟩ <;> rw [ho]
    · have hpass := hadm.trans (passOffered_stands (o := prewetOffer f v d) (by exact nofun) _)
      rw [preempt_of_class (o := prewetOffer f v d) (by exact nofun),
        trySelection_of_closed (hpass.request.trans h)]
      exact hpass
    · exact hadm

theorem lookAheadFace_stands {s : State} (h : s.queue.request = false) (f : FaceId) :
    SuppressStands s (lookAheadFace s f) := by
  cases hr : s.face.records.get f with
  | none =>
    unfold lookAheadFace
    rw [hr]
    exact .refl s
  | some r =>
    obtain ⟨y, -, hy⟩ := lookAheadFace_summarised hr
    cases hv : y.volume with
    | none => exact ⟨congrArg SprayQueue.request (hy.without hv), fun e _ => by rw [hy.without hv]⟩
    | some v =>
      obtain ⟨-, -, d, -, hq, -⟩ := hy.volume v hv
      have ho := offerPrewet_stands h f v d
      exact ⟨(congrArg SprayQueue.request hq).trans ho.request, fun e he => by rw [hq]; exact ho.entries e he⟩

theorem lookAhead_stands {s : State} (h : s.queue.request = false) : SuppressStands s (lookAhead s) := by
  have hfold : ∀ (l : List FaceId) (s : State), s.queue.request = false → SuppressStands s (l.foldl lookAheadFace s) := by
    intro l
    induction l with
    | nil => exact fun s _ => .refl s
    | cons f l ih =>
      intro s h
      have hf := lookAheadFace_stands h f
      exact hf.trans (ih _ (hf.request.trans h))
  unfold lookAhead
  split
  · exact .refl s
  · exact hfold allFaces s h

/-- A summary reads the settings, the clock, the forecast, and of a record the description, the moisture and the
remainder. -/
theorem summaryOf_congr {s t : State} {r r' : FaceRecord} {y : Summary} (h : summaryOf s r y) (hnow : t.now = s.now)
    (hst : t.station = s.station) (hf : t.forecast = s.forecast) (hdesc : r'.desc = r.desc) (hm : r'.m = r.m)
    (hrd : r'.rd = r.rd) : summaryOf t r' y := by
  unfold summaryOf predictedAt at *
  rw [State.minute, State.sec, hnow, State.cfg, hst, hf, hdesc, hm, hrd]
  exact h

/-- The summaries after the faces of a list have been looked at. -/
theorem foldl_lookAheadFace_look {l : List FaceId} (hl : l.Nodup) (s : State) (g : FaceId) :
    (g ∉ l ∨ s.face.records.get g = none → (l.foldl lookAheadFace s).look.get g = s.look.get g)
      ∧ (g ∈ l → ∀ r, s.face.records.get g = some r →
          ∃ y, (l.foldl lookAheadFace s).look.get g = some y ∧ summaryOf s r y) := by
  induction l generalizing s with
  | nil => exact ⟨fun _ => rfl, nofun⟩
  | cons f l ih =>
    obtain ⟨hf, hnd⟩ := List.nodup_cons.1 hl
    obtain ⟨ihn, ihs⟩ := ih hnd (lookAheadFace s f)
    have hrec := (lookAheadFace_prewet s f).2 g
    have honly := lookAheadFace_only s f
    rw [List.foldl_cons]
    refine ⟨fun hg => ?_, fun hg r hr => ?_⟩
    · have hstep : (lookAheadFace s f).look.get g = s.look.get g := by
        by_cases hgf : g = f
        · have hn : s.face.records.get f = none :=
            hgf ▸ hg.resolve_left fun h => h (List.mem_cons.2 (.inl hgf))
          unfold lookAheadFace
          rw [hn]
        · exact lookAheadFace_look_ne hgf
      refine (ihn (hg.imp (fun h hm => h (List.mem_cons_of_mem _ hm)) fun hn => ?_)).trans hstep
      rcases hrec with ⟨h, -⟩ | ⟨r, p, h, -⟩
      · exact h
      · rw [hn] at h
        cases h
    · rcases List.mem_cons.1 hg with rfl | hgl
      · obtain ⟨y, hy, hs⟩ := lookAheadFace_summarised hr
        exact ⟨y, (ihn (.inl hf)).trans hy, hs.summary⟩
      · rcases hrec with ⟨-, h⟩ | ⟨r', p, h, h'⟩
        · rw [hr] at h
          cases h
        · rw [hr] at h
          cases h
          obtain ⟨y, hy, hs⟩ := ihs hgl _ h'
          exact ⟨y, hy, summaryOf_congr hs (honly .now (by decide)).symm (honly .station (by decide)).symm
            (honly .forecast (by decide)).symm rfl rfl rfl⟩

/-! ### EVALUATION (O9) -/

/-- The station at an evaluation, with its timer reloaded. -/
def State.evaluating (due : Nat) (s : State) : State := s.setFace { s.face with timer := .running (due + 60000) }

theorem allFaces_nodup : allFaces.Nodup := by decide

/-- The record of a face after an evaluation, the look-ahead run included. -/
theorem evaluation_record {s : State} {due : Nat} {f : FaceId} {r : FaceRecord} (h : s.face.records.get f = some r) :
    ∃ p z, (lookAhead (evaluateFaces (s.evaluating due))).face.records.get f =
      some { evaluated s f r with lastPrewet := p, lastSizing := z } := by
  obtain ⟨p, z, hu⟩ := ((foldl_evaluateFace_get allFaces_nodup (s.evaluating due) f).2 r h).1 (mem_allFaces f)
  rcases (lookAhead_prewet (evaluateFaces (s.evaluating due))).2 f with ⟨-, hn⟩ | ⟨x, q, hx, ht⟩
  · rw [show (evaluateFaces (s.evaluating due)).face.records.get f = _ from hu] at hn
    cases hn
  · rw [show (evaluateFaces (s.evaluating due)).face.records.get f = _ from hu] at hx
    cases hx
    exact ⟨q, z, ht⟩

theorem evaluation_none {s : State} {due : Nat} {f : FaceId} (h : s.face.records.get f = none) :
    (evaluateFaces (s.evaluating due)).face.records.get f = none
      ∧ (lookAhead (evaluateFaces (s.evaluating due))).face.records.get f = none := by
  have hu : (evaluateFaces (s.evaluating due)).face.records.get f = none :=
    (foldl_evaluateFace_get allFaces_nodup (s.evaluating due) f).1 h
  rcases (lookAhead_prewet (evaluateFaces (s.evaluating due))).2 f with ⟨ht, -⟩ | ⟨x, q, hx, -⟩
  · exact ⟨hu, ht⟩
  · rw [hu] at hx
    cases hx

/-- Settles O9, by the folds over the faces. -/
theorem evaluationOfAFace : Obligations.EvaluationOfAFace := by
  unfold Obligations.EvaluationOfAFace
  intro due s hm htimer hle
  let u := evaluateFaces (s.evaluating due)
  let v := lookAhead u
  have heff : effectOf .evaluation s = v := by
    show takeEvaluation s = _
    unfold takeEvaluation
    rw [htimer, isDue_running hle]
    exact if_pos rfl
  have hu : onlyChanges _ (s.evaluating due) u := evaluateFaces_only _
  have hv : onlyChanges _ u v := lookAhead_only u
  have hus : onlyChanges [.queue, .cannon, .claim, .account, .line, .face, .alarms, .free] s u :=
    only_trans (t := s.evaluating due) (only_mono (setFace_only s _) (by decide)) hu
  have honly : onlyChanges [.face, .look, .queue, .cannon, .claim, .account, .line, .alarms, .free] s v :=
    only_trans (only_mono hus (by decide)) (only_mono hv (by decide))
  have hpre : prewetOnly u v := lookAhead_prewet u
  have haccount : v.account = s.account.runoffCredited (litresOf s allFaces) :=
    (hv .account (by decide)).trans (foldl_evaluateFace_account allFaces_nodup (s.evaluating due))
  have hlook : u.look = s.look := hus .look (by decide)
  have hforecast : u.forecast = s.forecast := hus .forecast (by decide)
  have hv_of_empty (h : s.forecast.slots = []) : v = u := if_pos (by rw [hforecast, h]; rfl)
  have hv_of_slots (h : s.forecast.slots ≠ []) : v = allFaces.foldl lookAheadFace u :=
    if_neg (by rw [hforecast, List.isEmpty_iff]; exact h)
  refine ⟨_, exec_eq hm heff nofun, ?_, close_only honly, ?_⟩
  · rw [closeArrival_face]
    exact hpre.1.trans (foldl_evaluateFace_timer allFaces (s.evaluating due))
  rw [closeArrival_account, closeArrival_face, closeArrival_look, closeArrival_queue, closeArrival_cannon,
    closeArrival_claim, haccount]
  refine ⟨fun f hf => (evaluation_none hf).2, ?_, fun hnone => ?_, fun ⟨f, hf⟩ => ?_, fun hempty => ?_, fun f hf => ?_,
    fun hslots _ f r' hr' => ?_, ⟨u, hlook, hforecast, hus .station (by decide), hus .now (by decide), fun f r' hr' => ?_, ?_⟩,
    fun f r hr => ?_⟩
  · unfold Account.runoffCredited
    split <;> rfl
  · exact if_pos ((litresOf_eq_nil s).2 hnone)
  · unfold Account.runoffCredited
    rw [if_neg fun h => ?_, litresOf_allFaces]
    rw [(litresOf_eq_nil s).1 h f] at hf
    cases hf
  · rw [hv_of_empty hempty, hlook]
  · by_cases hslots : s.forecast.slots = []
    · rw [hv_of_empty hslots, hlook]
    · rw [hv_of_slots hslots, (foldl_lookAheadFace_look allFaces_nodup u f).1 (.inr (evaluation_none hf).1), hlook]
  · rcases hpre.2 f with ⟨h, -⟩ | ⟨x, p, hx, ht⟩
    · rw [hr'] at h
      cases h
    · rw [hr'] at ht
      cases ht
      obtain ⟨y, hy, hs⟩ := (foldl_lookAheadFace_look allFaces_nodup u f).2 (mem_allFaces f) x hx
      rw [hv_of_slots hslots]
      exact ⟨y, hy, summaryOf_congr hs (hus .now (by decide)).symm (hus .station (by decide)).symm hforecast.symm rfl rfl rfl⟩
  · rcases hpre.2 f with ⟨h, -⟩ | ⟨x, p, hx, ht⟩
    · rw [hr'] at h
      cases h
    · rw [hr'] at ht
      cases ht
      exact ⟨x.lastPrewet, hx⟩
  · show _ = (if s.forecast.slots = [] then u else allFaces.foldl lookAheadFace u).look
      ∧ _ = (if s.forecast.slots = [] then u else allFaces.foldl lookAheadFace u).queue
      ∧ _ = (if s.forecast.slots = [] then u else allFaces.foldl lookAheadFace u).cannon
      ∧ _ = (if s.forecast.slots = [] then u else allFaces.foldl lookAheadFace u).claim
    by_cases hslots : s.forecast.slots = []
    · rw [if_pos hslots, hv_of_empty hslots]
      exact ⟨rfl, rfl, rfl, rfl⟩
    · rw [if_neg hslots, hv_of_slots hslots]
      exact ⟨rfl, rfl, rfl, rfl⟩
  · obtain ⟨p, z, ht⟩ := evaluation_record (due := due) hr
    refine ⟨_, ht, fun hop hreq hq hlen hpos _ => ?_, ?_⟩
    · have hready : SizingReady (s.evaluating due) := ⟨hreq, hq, hop, hpos⟩
      obtain ⟨hur, -, hsized⟩ := foldl_evaluateFace_sized allFaces_nodup hready (by exact Nat.add_le_add_right hlen 4)
      have hstands : SuppressStands u v := lookAhead_stands hur.request
      rcases hpre.2 f with ⟨h, -⟩ | ⟨x, q, hx, hx'⟩
      · rw [show v.face.records.get f = _ from ht] at h
        cases h
      · rw [show v.face.records.get f = _ from ht] at hx'
        have hform := Option.some.inj hx'
        have hsf := hsized f (mem_allFaces f) r x hr hx
        have hdesc : r.desc = x.desc := (congrArg FaceRecord.desc hform :)
        have hqueue := closeArrival_queue s v
        rw [hform, hdesc]
        exact sizedBy_congr hsf (fun _ _ => Iff.rfl) rfl (fun e _ he => by rw [hqueue]; exact hstands.entries e he)
          rfl rfl
    · rw [evaluated_fields]
      exact ⟨rfl, rfl, rfl, rfl, rfl, rfl, rfl, rfl, rfl, rfl, rfl, rfl, rfl⟩

end Sys2Proof.Machine
end
